-- ==== Sys2Proof/Word.lean ====
section
/-! DEFINITION. The time base word and the names of the numbered parts (00_scope.md, 5.2 and 5.3). -/

namespace Sys2Proof

/-- A value of the 32-bit millisecond time base (R192). -/
abbrev Stamp := BitVec 32

/-- Milliseconds from one stamp to another, modulo 2^32 (R192). -/
def msBetween (start now : Stamp) : Nat := (now - start).toNat

/-- Output channel CH0..CH23. -/
abbrev Ch := Fin 24
/-- Gang G0..G5. -/
abbrev Gang := Fin 6
/-- Rectifier slot RM0..RM7. -/
abbrev RmSlot := Fin 8
/-- Battery slot BM0..BM5. -/
abbrev BmSlot := Fin 6
/-- Slot position in the polling rotation: RM0..RM7 are 0..7, BM0..BM5 are 8..13. -/
abbrev SlotPos := Fin 14
/-- Leak zone LZ0..LZ15. -/
abbrev Zone := Fin 16
/-- Coolant valve CV0..CV3. -/
abbrev ValveIx := Fin 4
/-- Qualifier pattern QP0..QP3. -/
abbrev PatIx := Fin 4
/-- Plan step 0..47. -/
abbrev StepIx := Fin 48
/-- Tally counter 0..3. -/
abbrev CtrIx := Fin 4
/-- Tier 0..3; tier 3 is shed first. -/
abbrev Tier := Fin 4

end Sys2Proof
end

