-- ==== Sys2Proof/Syntax.lean ====
section
/-! DEFINITION. The commands of the part: one constructor of `Instr` for each row of spec/opcode_table.json,
with the operands the row's rule gives it. -/

namespace Sys2Proof

/-- The two text ports (R169). -/
inductive Port where
  | manager | service
deriving DecidableEq, Repr

/-- Where a command line came from: its port and its tag (R170). -/
structure LineId where
  port : Port
  tag : List Char
deriving DecidableEq, Repr

/-- The kind of a plan run (Table 3-2). -/
inductive RunKind where
  | up | down
deriving DecidableEq, Repr

/-- The action of a plan step (Table 3-1). -/
inductive StepAction where
  | start | stop | delay | awaitOn | awaitGrid
deriving DecidableEq, Repr

/-- The class a history position holds (R135) or a pattern requires (R136). -/
inductive Wetness where
  | wet | dry
deriving DecidableEq, Repr

/-- What CABLE FAULT does to a zone's response (Table 7-1). -/
inductive CablePolicy where
  | report | treatWet
deriving DecidableEq, Repr

/-- A zone's response action (Table 8-1). -/
inductive LeakAction where
  | report | isolate | cut
deriving DecidableEq, Repr

/-- A zone's escalation action (Table 8-1). -/
inductive EscAction where
  | nothing | isolateNoncritical | cutAll
deriving DecidableEq, Repr

/-- The restore policy (R117). -/
inductive RestorePolicy where
  | host | auto
deriving DecidableEq, Repr

/-- The report groups, in the order of the condition summary (R180). -/
inductive Group where
  | channel | budget | plan | shelf | source | leak | valve | system
deriving DecidableEq, Repr

/-- The route of a report group (R176). -/
inductive Route where
  | nowhere | manager | service | both
deriving DecidableEq, Repr

/-- At-limit behaviour of a tally counter (R189). -/
inductive AtLimit where
  | hold | wrap
deriving DecidableEq, Repr

/-- The sets of fields of BUDGET READ (R48). -/
inductive BudgetSel where
  | fig | state | policy
deriving DecidableEq, Repr

/-- The two confirm contacts of a valve (R160). -/
inductive ValveEnd where
  | closed | opened
deriving DecidableEq, Repr

/-- An argument that is an index or the word NONE (R71, R154). -/
inductive IndexArg where
  | index (n : Int)
  | absent
deriving DecidableEq, Repr

/-- The tier= argument of RESTORE (R125). -/
inductive TierArg where
  | tier (n : Int)
  | all
deriving DecidableEq, Repr

/-- The grp= argument of STATUS CLEAR (R180). -/
inductive GroupArg where
  | groups (l : List Group)
  | all
deriving DecidableEq, Repr

/-- ch= and gang= (01, 1.6). -/
structure TargetArgs where
  ch : Option Int := none
  gang : Option Int := none
deriving DecidableEq, Repr

/-- The settings of CHANNEL SET (R23). -/
structure ChannelSetArgs where
  cfg : Option Bool := none
  alloc : Option Int := none
  inrush : Option Int := none
  tier : Option Int := none
  warn : Option Int := none
  ramp : Option Int := none
deriving DecidableEq, Repr

/-- The settings of POLICY SET (R47). -/
structure PolicyArgs where
  k : Option Int := none
  guard : Option Int := none
  inrush : Option Int := none
  grace : Option Int := none
  late : Option Int := none
  spacing : Option Int := none
deriving DecidableEq, Repr

/-- The arguments of PLAN WRITE (R71). -/
structure PlanWriteArgs where
  step : Option Int := none
  act : Option StepAction := none
  target : TargetArgs := {}
  gap : Option Int := none
  endMark : Option Bool := none
  up : Option IndexArg := none
  down : Option IndexArg := none
deriving DecidableEq, Repr

/-- The settings of RIDE SET (R113). -/
structure RideArgs where
  target : Option Int := none
  reserve : Option Int := none
  eff : Option Int := none
  cap : Option Int := none
  thr : Option Int := none
  deb : Option Int := none
  qual : Option Int := none
  walk : Option Int := none
  round : Option Int := none
deriving DecidableEq, Repr

/-- The settings of CHARGE SET (R129). -/
structure ChargeArgs where
  floor : Option Int := none
  limit : Option Int := none
  restore : Option RestorePolicy := none
  autoUp : Option Bool := none
  silence : Option Int := none
deriving DecidableEq, Repr

/-- The arguments of ZONE SET (R144); `pats := some []` is pats=NONE. -/
structure ZoneArgs where
  zone : Option Int := none
  en : Option Bool := none
  wet : Option Int := none
  openLevel : Option Int := none
  pats : Option (List Int) := none
  cpol : Option CablePolicy := none
  esc : Option Int := none
  cnt : Option Int := none
  scan : Option Int := none
deriving DecidableEq, Repr

/-- The arguments of PATTERN SET (R145); `sel := some []` is sel=NONE. -/
structure PatternArgs where
  pat : Option Int := none
  en : Option Bool := none
  sel : Option (List (Int × Wetness)) := none
  min : Option Int := none
deriving DecidableEq, Repr

/-- The arguments of RESPONSE SET (R154); `chs := some []` is chs=NONE. -/
structure ResponseArgs where
  zone : Option Int := none
  act : Option LeakAction := none
  chs : Option (List Int) := none
  valve : Option IndexArg := none
  esc : Option EscAction := none
  vall : Option Bool := none
  travel : Option Int := none
deriving DecidableEq, Repr

/-- The arguments of ROUTE SET (R181). -/
structure RouteArgs where
  channel : Option Route := none
  budget : Option Route := none
  plan : Option Route := none
  shelf : Option Route := none
  source : Option Route := none
  leak : Option Route := none
  valve : Option Route := none
  system : Option Route := none
  svc : Option Bool := none
deriving DecidableEq, Repr

/-- The arguments of TALLY SET (R191). -/
structure TallyArgs where
  ctr : Option Int := none
  ev : Option Int := none
  lim : Option AtLimit := none
  pair : Option Bool := none
deriving DecidableEq, Repr

/-- A rectifier sample as the module reports it (Table 4-3), before clamping. -/
structure RectReport where
  rated : Nat
  avail : Nat
  ready : Bool
  inputGood : Bool
  fault : Bool
  power : Nat
deriving DecidableEq, Repr

/-- A battery sample as the module reports it (Table 4-5), before clamping. -/
structure BattReport where
  full : Nat
  usable : Nat
  dischargeLimit : Nat
  request : Nat
  charging : Bool
  discharging : Bool
  fault : Bool
  empty : Bool
deriving DecidableEq, Repr

/-- The slot a response names, with that slot's sample. -/
inductive SlotReport where
  | rect (n : RmSlot) (r : RectReport)
  | batt (n : BmSlot) (b : BattReport)
deriving DecidableEq, Repr

/-- A response on the shelf link (R79). `late` says that it answers a poll that has already ended. -/
structure ShelfReply where
  late : Bool
  checkGood : Bool
  content : SlotReport
deriving DecidableEq, Repr

/-- The input levels sampled at cold start (R1, R168). -/
structure PinSample where
  powerGood : Vector Bool 24
  trayFault : Vector Bool 24
  closed : Vector Bool 4
  opened : Vector Bool 4
deriving DecidableEq, Repr

/-- The commands, in the order of spec/opcode_table.json. -/
inductive Instr where
  | powerUp
  | loadCompletion (pins : PinSample)
  | resetPin
  | resetResponseSent
  | channelSenseScan (readings : Vector Int 24)
  | powerGoodRise (c : Ch)
  | powerGoodFall (c : Ch)
  | trayFaultAsserted (c : Ch)
  | trayFaultReleased (c : Ch)
  | rampTimerExpiry (c : Ch)
  | warningTimerExpiry (c : Ch)
  | stopConfirmExpiry (c : Ch)
  | splitSpacingExpiry
  | lateTimerExpiry
  | deficitGraceExpiry
  | gapTimerExpiry
  | roundTimerExpiry
  | shelfResponse (r : ShelfReply)
  | responseTimeout
  | busSample (mv : Nat)
  | debounceTimerExpiry
  | qualifyExpiry
  | walkInExpiry
  | silenceTimerExpiry
  | leakScan (readings : Vector Nat 16)
  | escalationTimerExpiry (z : Zone)
  | overrideWindowExpiry
  | closedContactPresent (v : ValveIx)
  | openContactPresent (v : ValveIx)
  | contactAbsent (v : ValveIx) (e : ValveEnd)
  | travelTimerExpiry (v : ValveIx)
  | lineArrival (p : Port) (text : List Char)
  | outputLineSent (p : Port)
  | saveCompletion
  | channelStart (l : LineId) (a : TargetArgs)
  | channelStartGang (l : LineId) (a : TargetArgs)
  | channelStop (l : LineId) (a : TargetArgs)
  | channelCut (l : LineId) (a : TargetArgs)
  | channelClear (l : LineId) (ch : Option Int)
  | channelSet (l : LineId) (ch : Option Int) (a : ChannelSetArgs)
  | channelRead (l : LineId) (ch : Option Int)
  | policySet (l : LineId) (a : PolicyArgs)
  | budgetRead (l : LineId) (sel : Option BudgetSel)
  | admissionRead (l : LineId) (pos : Option Int)
  | planWrite (l : LineId) (a : PlanWriteArgs)
  | planRead (l : LineId) (step : Option Int)
  | planStart (l : LineId) (kind : Option RunKind)
  | planPause (l : LineId)
  | planResume (l : LineId)
  | planStop (l : LineId)
  | planStatus (l : LineId)
  | moduleRead (l : LineId) (rm : Option Int) (bm : Option Int)
  | rectifierEnable (l : LineId) (rm : Option Int)
  | rectifierDisable (l : LineId) (rm : Option Int)
  | linkStats (l : LineId)
  | sourceRead (l : LineId) (settings : Bool)
  | rideSet (l : LineId) (a : RideArgs)
  | chargeSet (l : LineId) (a : ChargeArgs)
  | restore (l : LineId) (tier : Option TierArg)
  | zoneSet (l : LineId) (a : ZoneArgs)
  | zoneRead (l : LineId) (zone : Option Int) (pat : Option Int)
  | patternSet (l : LineId) (a : PatternArgs)
  | leakClear (l : LineId) (zone : Option Int)
  | responseSet (l : LineId) (a : ResponseArgs)
  | overridePrepare (l : LineId) (ch : Option Int)
  | overrideCommit (l : LineId) (ch : Option Int)
  | overrideLockout (l : LineId)
  | valveClose (l : LineId) (cv : Option Int)
  | valveOpen (l : LineId) (cv : Option Int)
  | valveRead (l : LineId) (cv : Option Int)
  | captureRead (l : LineId)
  | captureClear (l : LineId)
  | fetch (l : LineId) (n : Option Int)
  | routeSet (l : LineId) (a : RouteArgs)
  | statusRead (l : LineId)
  | statusClear (l : LineId) (grp : Option GroupArg)
  | ping (l : LineId)
  | configSave (l : LineId)
  | configDefaults (l : LineId)
  | reset (l : LineId)
  | tallySet (l : LineId) (a : TallyArgs)
  | tallyStart (l : LineId) (ctr : Option Int)
  | tallyStop (l : LineId) (ctr : Option Int)
  | tallyClear (l : LineId) (ctr : Option Int)
  | tallyRead (l : LineId) (ctr : Option Int)
  | timeRead (l : LineId)
  | identify (l : LineId)
  | powerLoss
deriving DecidableEq, Repr

end Sys2Proof
end

