-- ==== Sys2Proof/Config.lean ====
section
/-! DEFINITION. What the part fixes once and for all, and the choices the manual leaves open.
A constant with a body is a figure of the manual. An `opaque` constant has no body: nothing can be proved
about its value, so a claim holds whatever the part does there. -/

namespace Sys2Proof.Config

/-- The stop-confirm time in ms (R16). -/
def stopConfirmMs : Nat := 1000
/-- The response timeout of a poll in ms (R79). -/
def responseTimeoutMs : Nat := 20
/-- The override window in ms (8.4). -/
def overrideWindowMs : Nat := 2000
/-- The bus hysteresis in mV (R91). -/
def hysteresisMv : Nat := 600
/-- Entries a report queue holds at most (R177). -/
def reportQueueMax : Nat := 32
/-- Lines a line buffer holds at most (R173). -/
def lineBufferMax : Nat := 4
/-- Characters of a receive text at most (R171). -/
def lineTextMax : Nat := 160
/-- Pending notices of a port at most (R173). -/
def noticesMax : Nat := 255
/-- The limit of a single tally counter (R190). -/
def tallyMax : Nat := 4294967295
/-- The limit of the paired tally counter (R190). -/
def tallyPairMax : Nat := 18446744073709551615
/-- The revision letter (R193). -/
def revision : String := "B"
/-- How many hand-overs one command may carry through (log 10). -/
def settleFuel : Nat := 4096
/-- The steps of a run taken in a row when it is ended at the reserve: 48 executed and 48 completed (log 10). -/
def planFuel : Nat := 96

/-- DESIGN CHOICE, a free value: whether the Source Controller's tests come before the queue examination,
the n-th time both would act after one evaluation (R33: "none waits for another"; log 11). -/
opaque testsFirst : Nat → Bool

/-- DESIGN CHOICE, a free value: whether the Source Controller tests input loss before the Budget Unit has
evaluated and examined its queue, the n-th time a rectifier hand-over in GRID finds input loss (R83, R95: "in no
fixed order"; log 13). -/
opaque lossFirst : Nat → Bool

/-- DESIGN CHOICE, a free value: the rank of a zone among the zones that latch at one scan, the n-th time
two or more do (R150: "taken one after the other, in either order"; log 12). -/
opaque zoneRank : Nat → Zone → Nat

end Sys2Proof.Config
end

