-- ==== Sys2Proof/Machine/Settings.lean ====
section
/-! DEFINITION. The working configuration (Table 10-1) and the factory defaults. -/

namespace Sys2Proof.Machine

/-- The settings of one channel (Table 1-1). -/
structure ChanCfg where
  configured : Bool
  alloc : Nat
  inrush : Nat
  tier : Tier
  warn : Nat
  ramp : Nat
deriving DecidableEq, Repr

/-- A START or STOP step's target (Table 3-1). -/
inductive Target where
  | chan (c : Ch)
  | gang (g : Gang)
deriving DecidableEq, Repr

/-- A plan step record (Table 3-1). -/
structure PlanStep where
  action : StepAction
  target : Option Target
  gap : Nat
  endMark : Bool
deriving DecidableEq, Repr

/-- The policy settings (R47). -/
structure PolicyCfg where
  k : Nat
  guard : Nat
  inrush : Nat
  grace : Nat
  late : Nat
  spacing : Nat
deriving DecidableEq, Repr

/-- The ride settings (Table 5-8). -/
structure RideCfg where
  target : Nat
  reserve : Nat
  eff : Nat
  cap : Nat
  thr : Nat
  deb : Nat
  qual : Nat
  walk : Nat
  round : Nat
deriving DecidableEq, Repr

/-- The charge settings (Table 6-3). -/
structure ChargeCfg where
  floor : Nat
  limit : Nat
  policy : RestorePolicy
  autoUp : Bool
  window : Nat
deriving DecidableEq, Repr

/-- The settings of one zone (Table 7-1). -/
structure ZoneCfg where
  enabled : Bool
  wet : Nat
  openLevel : Nat
  pats : List PatIx
  cpol : CablePolicy
  esc : Nat
  cnt : Nat
deriving DecidableEq, Repr

/-- A qualifier pattern (R136): enabled, selected positions with their required class, minimum length. -/
structure Pattern where
  enabled : Bool
  sel : List (Fin 16 × Wetness)
  min : Nat
deriving DecidableEq, Repr

/-- A response table entry (Table 8-1). -/
structure RespEntry where
  action : LeakAction
  chans : List Ch
  valve : Option ValveIx
  esc : EscAction
  closeAll : Bool
deriving DecidableEq, Repr

/-- The route table (R176). -/
structure Routes where
  channel : Route
  budget : Route
  plan : Route
  shelf : Route
  source : Route
  leak : Route
  valve : Route
  system : Route
deriving DecidableEq, Repr

/-- The working configuration (Table 10-1). -/
structure WorkCfg where
  chan : Vector ChanCfg 24
  steps : Vector PlanStep 48
  up : Option StepIx
  down : Option StepIx
  policy : PolicyCfg
  ride : RideCfg
  charge : ChargeCfg
  zone : Vector ZoneCfg 16
  scanPeriod : Nat
  pats : Vector Pattern 4
  resp : Vector RespEntry 16
  travel : Nat
  routes : Routes
  svc : Bool
deriving DecidableEq, Repr

/-- Channel defaults (Table 1-1). -/
def defaultChan : ChanCfg := ⟨false, 0, 0, 3, 5000, 1000⟩

/-- Plan step default (R52). -/
def defaultStep : PlanStep := ⟨.delay, none, 0, true⟩

/-- Policy defaults (R47). -/
def defaultPolicy : PolicyCfg := ⟨1, 5, 6000, 2000, 30000, 200⟩

/-- Ride defaults (Table 5-8). -/
def defaultRide : RideCfg := ⟨90, 20, 930, 2000, 1, 2, 5000, 8000, 250⟩

/-- Charge defaults (Table 6-3). -/
def defaultCharge : ChargeCfg := ⟨3000, 8000, .host, false, 0⟩

/-- Zone defaults (Table 7-1). -/
def defaultZone : ZoneCfg := ⟨true, 1200, 3800, [0], .report, 30000, 5⟩

/-- Factory default of QP0 (R136). -/
def defaultPattern0 : Pattern := ⟨true, [(0, .wet), (1, .wet), (2, .wet)], 3⟩

/-- Factory default of QP1..QP3 (R136). -/
def defaultPattern : Pattern := ⟨false, [], 1⟩

/-- Response entry default (Table 8-1). -/
def defaultResp : RespEntry := ⟨.report, [], none, .nothing, false⟩

/-- Default routes (R176). -/
def defaultRoutes : Routes :=
  { channel := .manager, budget := .manager, plan := .manager, shelf := .manager
    source := .both, leak := .both, valve := .both, system := .manager }

/-- The factory defaults of the working configuration (Table 10-1). -/
def defaultCfg : WorkCfg :=
  { chan := Vector.replicate 24 defaultChan
    steps := Vector.replicate 48 defaultStep
    up := none
    down := none
    policy := defaultPolicy
    ride := defaultRide
    charge := defaultCharge
    zone := Vector.replicate 16 defaultZone
    scanPeriod := 100
    pats := #v[defaultPattern0, defaultPattern, defaultPattern, defaultPattern]
    resp := Vector.replicate 16 defaultResp
    travel := 10000
    routes := defaultRoutes
    svc := false }

/-- The route of a group (R176). -/
def Routes.of (r : Routes) : Group → Route
  | .channel => r.channel
  | .budget => r.budget
  | .plan => r.plan
  | .shelf => r.shelf
  | .source => r.source
  | .leak => r.leak
  | .valve => r.valve
  | .system => r.system

/-- Ride threshold of a select, in mV (Table 4-9). -/
def thresholdMv (sel : Nat) : Nat :=
  if sel = 0 then 46000 else if sel = 1 then 45000 else 44000

end Sys2Proof.Machine
end

