-- ==== Sys2Proof/Machine/State.lean ====
section
/-! DEFINITION. Every piece of state the manual gives the part, as plain data, and the state right after reset.
INVENTORY.md lists each field with its rule and its reset value. -/

namespace Sys2Proof.Machine

/-- A running timer: the stamp it was started at and its length in ms. A timer that does not run is `none`. -/
structure Timer where
  start : Stamp
  ms : Nat
deriving DecidableEq, Repr

/-! ### Reports (R176) and responses (R174) -/

/-- The report kinds (00, 7.3). -/
inductive ReportKind where
  | channelFault | channelOverdraw | admissionLate | budgetDeficitShed | budgetDeficit
  | stepSkipped | planEnded | planPaused | moduleState
  | rideBegin | reserveReached | depleted | shed | rideEnd | hostSilent
  | leakWet | leakEscalated | zoneCableFault | overrideApplied
  | valveFault | valveMoved | configDefaulted | saveDone
deriving DecidableEq, Repr

/-- A report entry (R176); group and alarm class follow from the kind. -/
structure Report where
  kind : ReportKind
  stamp : Stamp
  subject : Option Nat
  v1 : Option Nat
  v2 : Option Nat
deriving DecidableEq, Repr

/-- The error codes (Table 9-3). -/
inductive Code where
  | busy | syntaxError | range | state | held | source | budget | sequence | locked | notDry | denied
deriving DecidableEq, Repr

/-- The status word of a response (R174). -/
inductive Status where
  | ok
  | adjusted
  | err (c : Code)
deriving DecidableEq, Repr

/-- The value of a result field. Lists are written with commas, an empty one as NONE. -/
inductive Val where
  | num (n : Int)
  | word (w : String)
  | yesNo (b : Bool)
  | onOff (b : Bool)
  | nums (l : List Nat)
  | words (l : List String)
  | history (l : List Wetness)
  | selection (l : List (Nat × Wetness))
deriving DecidableEq, Repr

/-- A result field of a response: keyword and value. -/
structure Field where
  key : String
  val : Val
deriving DecidableEq, Repr

/-- What a command answers: status, result fields, the report lines that follow (FETCH), and whether a warm
reset follows once the response has been sent (RESET). -/
structure Reply where
  status : Status
  fields : List Field := []
  reports : List Report := []
  resets : Bool := false
deriving DecidableEq, Repr

/-! ### Message Link Unit (Chapter 9) -/

/-- A received line: its text as it arrived, or the verb row that stands for it (log 6). -/
inductive LineBody where
  | text (t : List Char)
  | cmd (i : Instr)
deriving DecidableEq, Repr

/-- A line in a line buffer. `taken` says its response is in the output; `notices` counts the lines answered
BUSY that arrived after it and before the next line of the buffer (R173, log 31). -/
structure BufLine where
  tag : List Char
  body : LineBody
  taken : Bool
  notices : Nat
deriving DecidableEq, Repr

/-- Whether an output item answers the head of the line buffer or a line that never entered it. -/
inductive OutOwner where
  | line | busy
deriving DecidableEq, Repr

/-- A response with its report lines, waiting in the output (R173). `begun` says that the response line has been sent;
the reports of `reply` are then the report lines still to send. -/
structure OutItem where
  tag : List Char
  owner : OutOwner
  reply : Reply
  begun : Bool
deriving DecidableEq, Repr

/-- A port context (Table 9-1). The attention line follows the report queue. -/
structure PortCtx where
  rx : List Char
  overlong : Bool
  buffer : List BufLine
  output : List OutItem
  queue : List Report
  lost : Nat
  rejected : Nat
deriving DecidableEq, Repr

/-- The condition summary: one flag for each group (R176). -/
structure Flags where
  channel : Bool
  budget : Bool
  plan : Bool
  shelf : Bool
  source : Bool
  leak : Bool
  valve : Bool
  system : Bool
deriving DecidableEq, Repr

/-- The Message Link Unit's records. -/
structure Link where
  manager : PortCtx
  service : PortCtx
  flags : Flags
deriving DecidableEq, Repr

/-! ### Channel Controller (Chapter 1) -/

/-- The channel states (01, 1.3). -/
inductive ChState where
  | off | pending | ramping | on | warning | faulted
deriving DecidableEq, Repr

/-- The fault kinds (Table 1-1). -/
inductive FaultKind where
  | noFault | ramp | drop | tray | stuck
deriving DecidableEq, Repr

/-- The condition and timers of one channel (Table 1-1). -/
structure Channel where
  state : ChState
  admitted : Option Nat
  draw : Nat
  powerGood : Bool
  trayFault : Bool
  shed : Bool
  holds : List Zone
  override : Bool
  fault : FaultKind
  since : Stamp
  overdrawn : Bool
  ramp : Option Timer
  warn : Option Timer
  confirm : Option Timer
deriving DecidableEq, Repr

/-! ### Budget Unit (Chapter 2) -/

/-- The budget figures (Table 2-1) and the counted rectifiers of stage 1. -/
structure Figures where
  counted : List RmSlot
  raw : Nat
  red : Nat
  guard : Nat
  firm : Nat
  com : Nat
  m : Int
  fact : Nat
  h : Int
  o : Nat
  chg : Nat
deriving DecidableEq, Repr

/-- What an admission entry names (Table 2-3). -/
inductive EntryName where
  | single (c : Ch)
  | gang (g : Gang) (members : List Ch)
deriving DecidableEq, Repr

/-- The block that placed an entry (Table 2-3). -/
inductive Origin where
  | host | plan | restore
deriving DecidableEq, Repr

/-- An admission queue entry (Table 2-3). -/
structure Entry where
  name : EntryName
  splitFrom : Option Gang
  origin : Origin
  joined : Stamp
  lateReported : Bool
  waited : Bool
deriving DecidableEq, Repr

/-- The Budget Unit's records. -/
structure Budget where
  figs : Figures
  queue : List Entry
  spacing : Option (Gang × Timer)
  late : Option Timer
  grace : Option Timer
  reported : Bool
  inflight : List Ch
deriving DecidableEq, Repr

/-! ### Sequence Engine (Chapter 3) -/

/-- The run states but IDLE, which is the absence of a run (Table 3-3). -/
inductive RunState where
  | running | waiting | paused | done | aborted
deriving DecidableEq, Repr

/-- Who started a run, or who paused it (Table 3-2). -/
inductive RunBy where
  | host | source
deriving DecidableEq, Repr

/-- The phase of a run (Table 3-2). -/
inductive Phase where
  | step | gap
deriving DecidableEq, Repr

/-- The run context of a run (Table 3-2). -/
structure Run where
  state : RunState
  kind : RunKind
  origin : RunBy
  entry : StepIx
  endStep : StepIx
  unterminated : Bool
  cursor : StepIx
  phase : Phase
  pauseCause : Option RunBy
  gap : Option Timer
  gapLeft : Nat
  outstanding : List Ch
  done : Nat
  admitted : Nat
  skipped : Nat
  admittedSet : List Ch
  startedAt : Stamp
deriving DecidableEq, Repr

/-! ### Shelf Link Controller (Chapter 4) -/

/-- The rectifier states (R76), in the order of the codes of Table 4-7. -/
inductive RectState where
  | empty | disabled | faulted | starting | derated | online | lost
deriving DecidableEq, Repr

/-- The battery states (R76), in the order of the codes of Table 4-7. -/
inductive BattState where
  | empty | standby | charging | discharging | faulted | depleted | lost
deriving DecidableEq, Repr

/-- A rectifier slot record (Table 4-1) with its set-points (Table 4-2). -/
structure Rect where
  state : RectState
  present : Bool
  misses : Nat
  sample : Option RectReport
  time : Option Stamp
  enable : Bool
  walkIn : Option Nat
deriving DecidableEq, Repr

/-- A battery slot record (Table 4-1) with its set-points (Table 4-2). -/
structure Batt where
  state : BattState
  present : Bool
  misses : Nat
  sample : Option BattReport
  time : Option Stamp
  chargeLimit : Nat
  discharge : Bool
deriving DecidableEq, Repr

/-- The set-points that a poll carries to the module of its slot (Table 4-2). -/
inductive SetPoints where
  | rect (enable : Bool) (walkIn : Option Nat)
  | batt (chargeLimit : Nat) (discharge : Bool)
deriving DecidableEq, Repr

/-- A poll that has been sent and not yet ended: its slot, its response timeout, and the set-points of the slot as
they stood when it was sent (R78, R79). -/
structure Poll where
  slot : SlotPos
  timer : Timer
  carries : SetPoints
deriving DecidableEq, Repr

/-- The Shelf Link Controller's records. `overran` says that the round timer has expired in the running round. -/
structure Shelf where
  rect : Vector Rect 8
  batt : Vector Batt 6
  bad : Vector Nat 14
  lastBad : Option SlotPos
  rounds : Nat
  overruns : Nat
  lates : Nat
  roundTimer : Option Timer
  inRound : Bool
  overran : Bool
  poll : Option Poll
  busLow : Bool
  busMv : Nat
  debounce : Option Timer
deriving DecidableEq, Repr

/-! ### Source Controller (Chapters 5 and 6) -/

/-- The source states (Table 5-2). -/
inductive SrcState where
  | grid | ride | qualify | handback | down
deriving DecidableEq, Repr

/-- The origin of a return of input (Table 5-1). -/
inductive ReturnFrom where
  | ride | down
deriving DecidableEq, Repr

/-- The source record (Table 5-1) and the recharge and restore record (Table 6-1). -/
structure Source where
  state : SrcState
  origin : Option ReturnFrom
  since : Stamp
  outage : Stamp
  level : Nat
  reserveTaken : Bool
  qualify : Option Timer
  walkIn : Option Timer
  lastEval : Option Stamp
  cand : Vector (Option Nat) 4
  hold : Option Nat
  chargeFirst : Bool
  request : Nat
  policy : RestorePolicy
  placed : List Ch
  stage : Nat
  silence : Option Timer
deriving DecidableEq, Repr

/-! ### Leak Monitor (Chapter 7) -/

/-- The class of a reading (R134). -/
inductive LoopClass where
  | dry | wet | cable
deriving DecidableEq, Repr

/-- The zone states (Table 7-2). -/
inductive ZoneState where
  | off | watch | wet | escalated | cableFault
deriving DecidableEq, Repr

/-- The record of one zone (Table 7-1). The sample count is the length of the history. -/
structure ZoneRec where
  state : ZoneState
  reading : Option Nat
  cls : Option LoopClass
  history : List Wetness
  cable : Nat
  matched : List PatIx
  wetSince : Option Stamp
  esc : Option Timer
deriving DecidableEq, Repr

/-! ### Leak Response Unit (Chapter 8) -/

/-- The valve states, in the order of their codes (R160). -/
inductive ValveState where
  | opened | closing | closed | opening | fault
deriving DecidableEq, Repr

/-- A valve record (R160). -/
structure Valve where
  state : ValveState
  zones : List Zone
  hostClose : Bool
  travel : Option Timer
  closedContact : Bool
  openContact : Bool
deriving DecidableEq, Repr

/-- Why a zone is handed to the Leak Response Unit (R150). -/
inductive LeakCause where
  | wet | cable
deriving DecidableEq, Repr

/-- The first-fault capture (R165). -/
structure Capture where
  zone : Zone
  cause : LeakCause
  matched : List PatIx
  history : List Wetness
  stamp : Stamp
  source : SrcState
  enabled : List Ch
  load : Nat
  later : Nat
deriving DecidableEq, Repr

/-- A live override sequence (8.4). -/
structure OverrideSeq where
  port : Port
  chan : Ch
  window : Timer
deriving DecidableEq, Repr

/-- The Leak Response Unit's records; hold sets and override marks stand in the channel records. -/
structure Response where
  seq : Option OverrideSeq
  lockout : Bool
  valve : Vector Valve 4
  capture : Option Capture
deriving DecidableEq, Repr

/-! ### Configuration and Tallies (Chapter 10) -/

/-- The configuration store (R186, R187): INVALID; VALID with its image; or WRITING, with the copy that is
being written and the time of the command. -/
inductive Store where
  | invalid
  | valid (image : WorkCfg)
  | writing (copy : WorkCfg) (started : Stamp)
deriving DecidableEq, Repr

/-- The tally events, in the order of their codes (Table 10-2). -/
inductive TallyEvent where
  | channelStarts | channelFaults | admissionWaits | stepsSkipped | rideEntries
  | channelsShed | leakWetSamples | shelfLinkMisses | linesRejected | reportsLost
deriving DecidableEq, Repr

/-- A tally counter (R189). -/
structure Counter where
  event : TallyEvent
  running : Bool
  limit : AtLimit
  value : Nat
  overflow : Bool
deriving DecidableEq, Repr

/-- The four counters and the pair mode (R189). -/
structure Tally where
  ctr : Vector Counter 4
  pair : Bool
deriving DecidableEq, Repr

/-- The kinds of reset (R193). -/
inductive ResetKind where
  | cold | warmPin | warmCommand
deriving DecidableEq, Repr

/-- The reset-cause record (R193). -/
structure ResetRecord where
  kind : ResetKind
  warmCount : Nat
deriving DecidableEq, Repr

/-- Where the working configuration came from (R193, cfg=). -/
inductive CfgSource where
  | store | defaults
deriving DecidableEq, Repr

/-- The MODEL's own: no power, loading the configuration (R186: until load completion), or running. -/
inductive Power where
  | off | loading | running
deriving DecidableEq, Repr

/-- The MODEL's own: what the run has still to do in this command: execute the cursor's step, or complete it. -/
inductive PlanWork where
  | idle | exec | complete
deriving DecidableEq, Repr

/-- The MODEL's own: hand-overs between the blocks that wait inside one command (log 10): an evaluation, its
figures at the Source Controller, an examination of the queue head, an input-loss test, a ride evaluation, the
expiry of a grace of 0, plan work, an auto-restore pass, an auto power-up request. -/
structure Work where
  eval : Bool
  figs : Bool
  exam : Bool
  loss : Bool
  ride : Bool
  grace : Bool
  plan : PlanWork
  restore : Bool
  autoUp : Bool
deriving DecidableEq, Repr

/-- The state of the part. -/
structure State where
  power : Power
  now : Stamp
  cfg : WorkCfg
  cfgFrom : CfgSource
  store : Store
  chans : Vector Channel 24
  budget : Budget
  run : Option Run
  shelf : Shelf
  source : Source
  zones : Vector ZoneRec 16
  scan : Option Timer
  resp : Response
  link : Link
  tally : Tally
  cause : ResetRecord
  work : Work
  orders : Nat
  pending : List Instr
deriving DecidableEq, Repr

/-- Why the part can stop with a fault: never. No rule of the manual stops the part, so this type has no
constructor (safe: nothing can be concluded from a fault that cannot be). -/
inductive Fault where
deriving DecidableEq, Repr

/-- Why a command can be refused by the model. -/
inductive Refusal where
  /-- Raised by an arm of `exec` whose command has no meaning yet; safe, since nothing is concluded of it.
  No arm of this model raises it. -/
  | notModelled (mnemonic : String)
deriving DecidableEq, Repr

/-! ### Values at reset -/

/-- A channel record at cold start (Table 1-1); its two levels are taken at load completion (log 2). -/
def Channel.cold : Channel :=
  { state := .off, admitted := none, draw := 0, powerGood := false, trayFault := false, shed := false
    holds := [], override := false, fault := .noFault, since := 0, overdrawn := false
    ramp := none, warn := none, confirm := none }

/-- No figure before the first evaluation (R51; DESIGN CHOICE 0, log 2). -/
def Figures.zero : Figures := ⟨[], 0, 0, 0, 0, 0, 0, 0, 0, 0, 0⟩

/-- The Budget Unit at cold start (R51). -/
def Budget.cold : Budget := ⟨.zero, [], none, none, none, false, []⟩

/-- A rectifier slot at cold start (Tables 4-1 and 4-2). -/
def Rect.cold : Rect := ⟨.empty, false, 0, none, none, true, none⟩

/-- A battery slot at cold start (Tables 4-1 and 4-2). -/
def Batt.cold : Batt := ⟨.empty, false, 0, none, none, 0, false⟩

/-- The Shelf Link Controller at cold start, before its first round (R93). -/
def Shelf.cold : Shelf :=
  { rect := Vector.replicate 8 .cold, batt := Vector.replicate 6 .cold, bad := Vector.replicate 14 0
    lastBad := none, rounds := 0, overruns := 0, lates := 0, roundTimer := none, inRound := false
    overran := false, poll := none, busLow := true, busMv := 0, debounce := none }

/-- The source record and the recharge and restore record at cold start (Tables 5-1 and 6-1). -/
def Source.cold : Source :=
  { state := .down, origin := none, since := 0, outage := 0, level := 0, reserveTaken := false
    qualify := none, walkIn := none, lastEval := none, cand := Vector.replicate 4 none, hold := none
    chargeFirst := false, request := 0, policy := .host, placed := [], stage := 0, silence := none }

/-- A zone record at cold start (Table 7-1). -/
def ZoneRec.cold (enabled : Bool) : ZoneRec :=
  { state := if enabled then .watch else .off, reading := none, cls := none, history := []
    cable := 0, matched := [], wetSince := none, esc := none }

/-- A valve before its contacts are sampled (R168; DESIGN CHOICE, log 2). -/
def Valve.cold : Valve := ⟨.closed, [], false, none, false, false⟩

/-- The Leak Response Unit at cold start (R168). -/
def Response.cold : Response := ⟨none, false, Vector.replicate 4 .cold, none⟩

/-- A port context at cold start (Table 9-1). -/
def PortCtx.cold : PortCtx := ⟨[], false, [], [], [], 0, 0⟩

/-- No condition summary flag is set (R184). -/
def Flags.clear : Flags := ⟨false, false, false, false, false, false, false, false⟩

/-- The Message Link Unit at cold start (R184). -/
def Link.cold : Link := ⟨.cold, .cold, .clear⟩

/-- The tally counters at cold start (R189). -/
def Tally.cold : Tally :=
  { ctr := #v[⟨.channelStarts, false, .hold, 0, false⟩, ⟨.channelFaults, false, .hold, 0, false⟩,
      ⟨.rideEntries, false, .hold, 0, false⟩, ⟨.leakWetSamples, false, .hold, 0, false⟩]
    pair := false }

/-- No hand-over waits. -/
def Work.none : Work := ⟨false, false, false, false, false, false, .idle, false, false⟩

/-- The part at the instant of power-up (R195): all outputs released, the time base at 0, the store being read,
every record at its cold-start value. Log 1 says how commands come to act from here; log 2 names the values
that no rule gives before load completion. -/
def State.reset : State :=
  { power := .loading
    now := 0
    cfg := defaultCfg
    cfgFrom := .defaults
    store := .invalid
    chans := Vector.replicate 24 .cold
    budget := .cold
    run := none
    shelf := .cold
    source := .cold
    zones := Vector.replicate 16 (.cold true)
    scan := none
    resp := .cold
    link := .cold
    tally := .cold
    cause := ⟨.cold, 0⟩
    work := .none
    orders := 0
    pending := [] }

end Sys2Proof.Machine
end

