-- ==== Sys2Proof/Machine/Ops.lean ====
section
/-! DEFINITION. The named operations over the records: one update per block, timers, sets, counts. Every other file
reads and writes the state through these. -/

namespace Sys2Proof.Machine

/-! ### One update per block -/

def State.modBudget (f : Budget → Budget) (s : State) : State := { s with budget := f s.budget }
def State.modShelf (f : Shelf → Shelf) (s : State) : State := { s with shelf := f s.shelf }
def State.modSource (f : Source → Source) (s : State) : State := { s with source := f s.source }
def State.modResp (f : Response → Response) (s : State) : State := { s with resp := f s.resp }
def State.modLink (f : Link → Link) (s : State) : State := { s with link := f s.link }
def State.modTally (f : Tally → Tally) (s : State) : State := { s with tally := f s.tally }
def State.modWork (f : Work → Work) (s : State) : State := { s with work := f s.work }
def State.modCfg (f : WorkCfg → WorkCfg) (s : State) : State := { s with cfg := f s.cfg }
/-- Change the run context; IDLE stays IDLE. -/
def State.modRun (f : Run → Run) (s : State) : State := { s with run := s.run.map f }
def State.setRun (r : Option Run) (s : State) : State := { s with run := r }
def State.setStore (x : Store) (s : State) : State := { s with store := x }
def State.setScan (t : Option Timer) (s : State) : State := { s with scan := t }

/-- The record of a channel. -/
def State.ch (s : State) (c : Ch) : Channel := s.chans[c]
/-- The settings of a channel. -/
def State.chCfg (s : State) (c : Ch) : ChanCfg := s.cfg.chan[c]
/-- Change the record of one channel. -/
def State.modCh (c : Ch) (f : Channel → Channel) (s : State) : State :=
  { s with chans := s.chans.set c (f s.chans[c]) }
/-- Change the record of one zone. -/
def State.modZone (z : Zone) (f : ZoneRec → ZoneRec) (s : State) : State :=
  { s with zones := s.zones.set z (f s.zones[z]) }
/-- Change the record of one rectifier slot. -/
def State.modRect (n : RmSlot) (f : Rect → Rect) (s : State) : State :=
  s.modShelf fun h => { h with rect := h.rect.set n (f h.rect[n]) }
/-- Change the record of one battery slot. -/
def State.modBatt (n : BmSlot) (f : Batt → Batt) (s : State) : State :=
  s.modShelf fun h => { h with batt := h.batt.set n (f h.batt[n]) }
/-- Change the record of one valve. -/
def State.modValve (v : ValveIx) (f : Valve → Valve) (s : State) : State :=
  s.modResp fun r => { r with valve := r.valve.set v (f r.valve[v]) }

/-- The context of a port. -/
def State.port (s : State) : Port → PortCtx
  | .manager => s.link.manager
  | .service => s.link.service
/-- Change the context of a port; the other port's is untouched (09, 9.1). -/
def State.modPort (p : Port) (f : PortCtx → PortCtx) (s : State) : State :=
  s.modLink fun k => match p with
    | .manager => { k with manager := f k.manager }
    | .service => { k with service := f k.service }

/-! ### Lists of the numbered parts -/

/-- CH0..CH23 in ascending order. -/
def allCh : List Ch := List.finRange 24
/-- LZ0..LZ15 in ascending order. -/
def allZones : List Zone := List.finRange 16
/-- RM0..RM7 in ascending order. -/
def allRm : List RmSlot := List.finRange 8
/-- BM0..BM5 in ascending order. -/
def allBm : List BmSlot := List.finRange 6
/-- CV0..CV3 in ascending order. -/
def allValves : List ValveIx := List.finRange 4
/-- QP0..QP3 in ascending order. -/
def allPats : List PatIx := List.finRange 4

/-- CH(4n)..CH(4n+3), the members of a gang in index order (00, 5.3). -/
def gangMembers (g : Gang) : List Ch := allCh.filter fun c => c.val / 4 = g.val

/-- Do something for each element of a list, in order. -/
def forEach {α : Type} (l : List α) (f : α → State → State) (s : State) : State :=
  l.foldl (fun s a => f a s) s

/-! ### Sets: ascending lists without repeats -/

/-- Add an element to a set; an element already there is not added a second time. -/
def setInsert {n : Nat} (a : Fin n) : List (Fin n) → List (Fin n)
  | [] => [a]
  | b :: l => if a < b then a :: b :: l else if a = b then b :: l else b :: setInsert a l

/-- Take an element out of a set. -/
def setErase {n : Nat} (a : Fin n) (l : List (Fin n)) : List (Fin n) := l.filter (· ≠ a)

/-- The set of the elements of a list. -/
def toSet {n : Nat} (l : List (Fin n)) : List (Fin n) := l.foldr setInsert []

/-! ### Timers and counts -/

/-- A timer started now. -/
def State.timer (s : State) (ms : Nat) : Timer := ⟨s.now, ms⟩
/-- The time left on a running timer in ms. -/
def State.left (s : State) (t : Timer) : Nat := t.ms - msBetween t.start s.now
/-- Milliseconds since a stamp, modulo 2^32. -/
def State.age (s : State) (t : Stamp) : Nat := msBetween t s.now
/-- Start a running timer afresh with a full time; a timer that does not run stays so. -/
def State.restart (s : State) (t : Option Timer) (ms : Nat) : Option Timer := t.map fun _ => s.timer ms

/-- One more, saturating. -/
def satInc (limit n : Nat) : Nat := if n < limit then n + 1 else n

/-! ### Hand-overs inside a command (log 10) -/

/-- A budget evaluation is due (R26). -/
def markEval (s : State) : State := s.modWork fun w => { w with eval := true }
/-- The queue head is to be examined (R37). -/
def markExam (s : State) : State := s.modWork fun w => { w with exam := true }
/-- A ride evaluation is due (R107). -/
def markRide (s : State) : State := s.modWork fun w => { w with ride := true }
/-- The auto-restore conditions are to be examined (R124). -/
def markRestore (s : State) : State := s.modWork fun w => { w with restore := true }
/-- The run has something to do. -/
def markPlan (p : PlanWork) (s : State) : State := s.modWork fun w => { w with plan := p }

/-! ### Channel lines (R2) -/

/-- The level of a channel's enable line (R2). -/
def Channel.enabled (c : Channel) : Bool :=
  match c.state with
  | .ramping | .on | .warning => true
  | .off | .pending | .faulted => false

/-- The enable line of a channel is asserted (R2). -/
def enableLine (s : State) (c : Ch) : Bool := (s.ch c).enabled
/-- The warning line of a channel is asserted (R2). -/
def warningLine (s : State) (c : Ch) : Bool := (s.ch c).state == .warning

/-- The attention line of a port is asserted (R178). -/
def attentionLine (s : State) (p : Port) : Bool := !(s.port p).queue.isEmpty

/-- The close drive of a valve (R160); released before load completion (R195). -/
def closeDrive (s : State) (v : ValveIx) : Bool :=
  s.power == .running && (s.resp.valve[v].state == .closing || s.resp.valve[v].state == .fault)
/-- The open drive of a valve (R160); released before load completion (R195). -/
def openDrive (s : State) (v : ValveIx) : Bool :=
  s.power == .running && s.resp.valve[v].state == .opening

/-- An event that only a part with its configuration loaded takes (R186, log 5). -/
def whenRunning (f : State → State) (s : State) : State :=
  if s.power = .running then f s else s

end Sys2Proof.Machine
end

