-- ==== Sys2Proof/Machine/Flags.lean ====
section
/-! DEFINITION. Condition flags, report queues and tally counters: raising a report (R176, R177) and handing over
an event (R190). -/

namespace Sys2Proof.Machine

/-- The group of a report kind (00, 7.3). -/
def ReportKind.group : ReportKind → Group
  | .channelFault | .channelOverdraw => .channel
  | .admissionLate | .budgetDeficitShed | .budgetDeficit => .budget
  | .stepSkipped | .planEnded | .planPaused => .plan
  | .moduleState => .shelf
  | .rideBegin | .reserveReached | .depleted | .shed | .rideEnd | .hostSilent => .source
  | .leakWet | .leakEscalated | .zoneCableFault | .overrideApplied => .leak
  | .valveFault | .valveMoved => .valve
  | .configDefaulted | .saveDone => .system

/-- The six alarm kinds (00, 7.3). -/
def ReportKind.alarm : ReportKind → Bool
  | .rideBegin | .reserveReached | .depleted | .leakWet | .leakEscalated | .valveFault => true
  | .channelFault | .channelOverdraw | .admissionLate | .budgetDeficitShed | .budgetDeficit
  | .stepSkipped | .planEnded | .planPaused | .moduleState | .shed | .rideEnd | .hostSilent
  | .zoneCableFault | .overrideApplied | .valveMoved | .configDefaulted | .saveDone => false

/-- The alarm class of a report entry (R176). -/
def Report.alarm (r : Report) : Bool := r.kind.alarm

/-! ### Tally counters (R190) -/

/-- One event at a counter of the given limit: the new value and overflow mark. -/
def countUp (limit : Nat) (mode : AtLimit) (value : Nat) (overflow : Bool) : Nat × Bool :=
  if value < limit then (value + 1, overflow || value + 1 == limit)
  else match mode with
    | .hold => (value, overflow)
    | .wrap => (0, overflow)

/-- A single counter takes an event. -/
def Counter.take (e : TallyEvent) (c : Counter) : Counter :=
  if c.running && c.event == e then
    { c with value := (countUp Config.tallyMax c.limit c.value c.overflow).1
             overflow := (countUp Config.tallyMax c.limit c.value c.overflow).2 }
  else c

/-- The value of the pair: counter 1 holds the upper 32 bits, counter 0 the lower 32 (R190). -/
def Tally.paired (t : Tally) : Nat := t.ctr[1].value * 4294967296 + t.ctr[0].value

/-- Counters 0 and 1 take an event in pair mode: counter 0's event, running field and behaviour decide. -/
def Tally.takePair (e : TallyEvent) (t : Tally) : Tally :=
  let c0 := t.ctr[0]
  if c0.running && c0.event == e then
    let r := countUp Config.tallyPairMax c0.limit t.paired c0.overflow
    let c0' := { c0 with value := r.1 % 4294967296, overflow := r.2 }
    let c1' := { t.ctr[1] with value := r.1 / 4294967296 }
    { t with ctr := (t.ctr.set 0 c0').set 1 c1' }
  else t

/-- One event is offered to every counter (R190). -/
def Tally.take (e : TallyEvent) (t : Tally) : Tally :=
  let t := if t.pair then t.takePair e
    else { t with ctr := (t.ctr.set 0 (t.ctr[0].take e)).set 1 (t.ctr[1].take e) }
  { t with ctr := (t.ctr.set 2 (t.ctr[2].take e)).set 3 (t.ctr[3].take e) }

/-- Hand one event to Configuration and Tallies. -/
def count (e : TallyEvent) (s : State) : State := s.modTally (Tally.take e)

/-! ### The condition summary (R176) -/

/-- Set the flag of a group. -/
def Flags.raise (g : Group) (f : Flags) : Flags :=
  match g with
  | .channel => { f with channel := true }
  | .budget => { f with budget := true }
  | .plan => { f with plan := true }
  | .shelf => { f with shelf := true }
  | .source => { f with source := true }
  | .leak => { f with leak := true }
  | .valve => { f with valve := true }
  | .system => { f with system := true }

/-- Clear the flag of a group (R180). -/
def Flags.lower (g : Group) (f : Flags) : Flags :=
  match g with
  | .channel => { f with channel := false }
  | .budget => { f with budget := false }
  | .plan => { f with plan := false }
  | .shelf => { f with shelf := false }
  | .source => { f with source := false }
  | .leak => { f with leak := false }
  | .valve => { f with valve := false }
  | .system => { f with system := false }

/-- The flag of a group. -/
def Flags.of (f : Flags) : Group → Bool
  | .channel => f.channel
  | .budget => f.budget
  | .plan => f.plan
  | .shelf => f.shelf
  | .source => f.source
  | .leak => f.leak
  | .valve => f.valve
  | .system => f.system

/-- The eight groups in the order of R180. -/
def allGroups : List Group := [.channel, .budget, .plan, .shelf, .source, .leak, .valve, .system]

/-! ### Report queues (R177) -/

/-- The alarm entries of a queue, oldest first. -/
def alarmsOf (q : List Report) : List Report := q.filter (·.alarm)
/-- The ordinary entries of a queue, oldest first. -/
def ordinaryOf (q : List Report) : List Report := q.filter fun r => !r.alarm

/-- A new entry joins a report queue by the table of R177: the queue after it, and whether a report was lost. -/
def queueJoin (r : Report) (q : List Report) : List Report × Bool :=
  if q.length < Config.reportQueueMax then
    if r.alarm then (alarmsOf q ++ r :: ordinaryOf q, false) else (q ++ [r], false)
  else if r.alarm && !(ordinaryOf q).isEmpty then
    (alarmsOf q ++ r :: (ordinaryOf q).dropLast, true)
  else (q, true)

/-- A report joins the queue of a port; a drop or an eviction is counted and handed to the tallies (R177). -/
def joinReport (p : Port) (r : Report) (s : State) : State :=
  let j := queueJoin r (s.port p).queue
  let s := s.modPort p fun c => { c with queue := j.1, lost := if j.2 then satInc 255 c.lost else c.lost }
  if j.2 then count .reportsLost s else s

/-- Raise a report: form the entry, set its group's flag, and join the queues its route names (R176). -/
def raise (k : ReportKind) (subject v1 v2 : Option Nat) (s : State) : State :=
  let r : Report := ⟨k, s.now, subject, v1, v2⟩
  let s := s.modLink fun l => { l with flags := l.flags.raise k.group }
  match s.cfg.routes.of k.group with
  | .nowhere => s
  | .manager => joinReport .manager r s
  | .service => joinReport .service r s
  | .both => joinReport .service r (joinReport .manager r s)

end Sys2Proof.Machine
end

