-- ==== Sys2Proof/Machine/Queue.lean ====
section
/-! DEFINITION. The admission queue as a record (R35, R40 to R42) and the run's notices of admission and withdrawal
(R56): what happens to them when one channel joins, leaves or is admitted. -/

namespace Sys2Proof.Machine

/-! ### Entries -/

/-- The channels an entry names. -/
def Entry.chans (e : Entry) : List Ch :=
  match e.name with
  | .single c => [c]
  | .gang _ ms => ms

/-- An entry without a withdrawn channel; none when it is left empty (R42). -/
def Entry.drop (c : Ch) (e : Entry) : Option Entry :=
  match e.name with
  | .single d => if d = c then none else some e
  | .gang g ms => if ms.all (· == c) then none else some { e with name := .gang g (setErase c ms) }

/-- The channels named in the admission queue. -/
def queuedChans (q : List Entry) : List Ch := q.flatMap Entry.chans

/-! ### The late timer of the head (R41) -/

/-- The waiting time of an entry in ms (R41). -/
def State.waited (s : State) (e : Entry) : Nat := s.age e.joined

/-- The subject of ADMISSION LATE and its v1 (R41). -/
def Entry.subject (e : Entry) : Nat × Nat :=
  match e.name with
  | .single c => (c.val, 0)
  | .gang g _ => (g.val, 1)

/-- The check the late timer makes at its expiry: ADMISSION LATE once for the head entry (R41). -/
def lateCheck (s : State) : State :=
  match s.budget.queue with
  | [] => s
  | e :: q =>
    if e.lateReported then s
    else
      (raise .admissionLate (some e.subject.1) (some e.subject.2) (some (s.waited e)) s).modBudget
        fun b => { b with queue := { e with lateReported := true } :: q }

/-- A new head entry, or a changed late time: run the late timer to the moment the head's waiting time exceeds
the late time, or check at once if that moment has passed (R41, log 18). -/
def watchHead (s : State) : State :=
  match s.budget.queue with
  | [] => s.modBudget fun b => { b with late := none }
  | e :: _ =>
    if s.waited e ≤ s.cfg.policy.late then
      s.modBudget fun b => { b with late := some ⟨e.joined, s.cfg.policy.late + 1⟩ }
    else
      lateCheck (s.modBudget fun b => { b with late := none })

/-- The queue has lost its head entry: the spacing and late timers are dropped when it is empty (R40, R41), and
otherwise the new head is watched. -/
def headGone (s : State) : State :=
  match s.budget.queue with
  | [] => s.modBudget fun b => { b with late := none, spacing := none }
  | _ :: _ => watchHead s

/-- Remove a withdrawn channel from its entry (R42). -/
def dropFromQueue (c : Ch) (s : State) : State :=
  match s.budget.queue with
  | [] => s
  | e :: q =>
    let s' := s.modBudget fun b => { b with queue := (e :: q).filterMap (Entry.drop c) }
    match e.drop c with
    | some _ => s'
    | none => headGone s'

/-! ### The run's notices (R56) -/

/-- Why a PENDING channel is withdrawn, as the Sequence Engine is told (R56). -/
inductive Withdrawal where
  /-- a stop, a cut, a leak hold or a stuck-on finding: counted as a skip -/
  | counted
  /-- the source state leaving GRID: counted in a DOWN run only -/
  | sourceLeft
  /-- the run's own pause or abort: not counted -/
  | own
deriving DecidableEq, Repr

/-- A START step's member is skipped: counted, handed to the tallies and reported (R55). -/
def skipMember (c : Ch) (reason : Nat) (s : State) : State :=
  match s.run with
  | none => s
  | some r =>
    raise .stepSkipped (some c.val) (some r.cursor.val) (some reason)
      (count .stepsSkipped (s.modRun fun r => { r with skipped := satInc 65535 r.skipped }))

/-- After a member has left the outstanding set: the step completes when it was the last (R56). -/
def memberLeft (s : State) : State :=
  match s.run with
  | some r => if r.outstanding.isEmpty then markPlan .complete s else s
  | none => s

/-- The notice that a channel was admitted (R56). -/
def noticeAdmitted (c : Ch) (s : State) : State :=
  match s.run with
  | some r =>
    if c ∈ r.outstanding then
      memberLeft (s.modRun fun r =>
        { r with outstanding := setErase c r.outstanding, admitted := satInc 65535 r.admitted
                 admittedSet := setInsert c r.admittedSet })
    else s
  | none => s

/-- The notice that a channel was withdrawn (R56). -/
def noticeWithdrawn (c : Ch) (w : Withdrawal) (s : State) : State :=
  match s.run with
  | some r =>
    if c ∈ r.outstanding then
      let s := s.modRun fun r => { r with outstanding := setErase c r.outstanding }
      let counts : Bool := match w with
        | .counted => true
        | .sourceLeft => r.kind == .down
        | .own => false
      memberLeft (if counts then skipMember c 4 s else s)
    else s
  | none => s

/-- No channel of the admitted set is RAMPING (R60). -/
def awaitOnMet (s : State) (r : Run) : Bool :=
  r.admittedSet.all fun c => (s.ch c).state != .ramping

/-- A channel has changed state: a run waiting at an AWAIT ON step tests its admitted set (R60). -/
def noticeChanged (c : Ch) (s : State) : State :=
  match s.run with
  | some r =>
    if r.state = .waiting ∧ s.cfg.steps[r.cursor].action = .awaitOn ∧ c ∈ r.admittedSet ∧ awaitOnMet s r then
      markPlan .complete s
    else s
  | none => s

end Sys2Proof.Machine
end

