-- ==== Sys2Proof/Machine/Channels.lean ====
section
/-! DEFINITION. Output channels (Chapter 1): each way a channel changes state, with everything that happens in the
same step. -/

namespace Sys2Proof.Machine

/-- The cause of a graceful stop or a cut (01, 1.4). -/
inductive StopCause where
  | host | plan | leak | ladder | deficit | source
deriving DecidableEq, Repr

/-- The power a channel counts against the budget (Table 1-2). -/
def budgetFigure (s : State) (c : Ch) : Nat :=
  match (s.ch c).state with
  | .ramping => (s.chCfg c).alloc
  | .on | .warning => max (s.chCfg c).alloc (s.ch c).draw
  | .off | .pending | .faulted => (s.ch c).draw

/-- The record of a channel entering a state: the entered-state time is stamped, and OFF and FAULTED clear the
override mark (R18). -/
def Channel.enter (st : ChState) (now : Stamp) (c : Channel) : Channel :=
  { c with state := st, since := now
           override := match st with
             | .off | .faulted => false
             | .pending | .ramping | .on | .warning => c.override }

/-- A channel enters a state. The change is handed to the Budget Unit (R4); a channel leaving WARNING leaves the
in-flight set (R44); one becoming OFF with a shed mark lets auto-restore look (R124); a waiting AWAIT ON step
looks (R60). -/
def enterState (c : Ch) (st : ChState) (s : State) : State :=
  let old := (s.ch c).state
  let s := s.modCh c (Channel.enter st s.now)
  let s := if old = .warning then s.modBudget fun b => { b with inflight := setErase c b.inflight } else s
  let s := if st = .off ∧ (s.ch c).shed = true then markRestore s else s
  noticeChanged c (markEval s)

/-- The shed mark is set to no; the channel then leaves the restore-placed set (R17, R124). -/
def clearShed (c : Ch) (s : State) : State :=
  (s.modCh c fun r => { r with shed := false }).modSource
    fun x => { x with placed := setErase c x.placed }

/-- Enable is released: ramp and warning timers are dropped, the admitted inrush leaves the pool, the stop-confirm
timer starts (R12, R13, R14, R16, R34). -/
def releaseEnable (c : Ch) (s : State) : State :=
  s.modCh c fun r => { r with ramp := none, warn := none, admitted := none
                              confirm := some (s.timer Config.stopConfirmMs) }

/-- An output that is up is taken to OFF. -/
def switchOff (c : Ch) (s : State) : State := enterState c .off (releaseEnable c s)

/-- The fault kind as a report value (R11). -/
def FaultKind.code : FaultKind → Nat
  | .noFault => 0
  | .ramp => 1
  | .drop => 2
  | .tray => 3
  | .stuck => 4

/-- CHANNEL FAULT is raised, and counted (R11, R190). -/
def reportFault (c : Ch) (s : State) : State :=
  raise .channelFault (some c.val) (some (s.ch c).fault.code) (some (s.ch c).draw) (count .channelFaults s)

/-- A RAMPING, ON or WARNING channel enters FAULTED (R11). -/
def faultChannel (c : Ch) (k : FaultKind) (s : State) : State :=
  let s := clearShed c (releaseEnable c s)
  let s := s.modCh c fun r => { r with fault := k }
  reportFault c (enterState c .faulted s)

/-- A PENDING channel is withdrawn from the queue and becomes OFF (R15, R42). -/
def withdraw (c : Ch) (w : Withdrawal) (s : State) : State :=
  if (s.ch c).state = .pending then
    noticeWithdrawn c w (enterState c .off (dropFromQueue c s))
  else s

/-- A power-good rise (R7). -/
def takePowerGoodRise (c : Ch) (s : State) : State :=
  match (s.ch c).state with
  | .ramping =>
    enterState c .on (s.modCh c fun r =>
      { r with powerGood := true, ramp := none, overdrawn := false, admitted := none })
  | .off | .pending | .faulted =>
    s.modCh c fun r =>
      { r with powerGood := true, confirm := some (r.confirm.getD (s.timer Config.stopConfirmMs)) }
  | .on | .warning => s.modCh c fun r => { r with powerGood := true }

/-- A power-good fall (R8). -/
def takePowerGoodFall (c : Ch) (s : State) : State :=
  let s' := s.modCh c fun r => { r with powerGood := false }
  match (s.ch c).state with
  | .on => faultChannel c .drop s'
  | .warning | .ramping => s'
  | .off | .pending | .faulted => s'.modCh c fun r => { r with confirm := none }

/-- The tray fault input becomes asserted (R10). -/
def takeTrayFault (c : Ch) (s : State) : State :=
  let s' := s.modCh c fun r => { r with trayFault := true }
  match (s.ch c).state with
  | .ramping | .on | .warning => faultChannel c .tray s'
  | .off | .pending | .faulted => s'

/-- The ramp timer of a RAMPING channel expires (R9). -/
def takeRampExpiry (c : Ch) (s : State) : State :=
  if (s.ch c).ramp.isSome ∧ (s.ch c).state = .ramping then faultChannel c .ramp s else s

/-- The warning timer of a WARNING channel expires (R13). -/
def takeWarningExpiry (c : Ch) (s : State) : State :=
  if (s.ch c).warn.isSome ∧ (s.ch c).state = .warning then switchOff c s else s

/-- A channel found stuck on enters FAULTED with kind STUCK from OFF (R16). -/
def markStuck (c : Ch) (s : State) : State :=
  reportFault c (enterState c .faulted ((clearShed c s).modCh c fun r => { r with fault := .stuck }))

/-- The stop-confirm timer expires (R16). In RAMPING, ON and WARNING it never runs; there it only stops
(log 35). -/
def takeConfirmExpiry (c : Ch) (s : State) : State :=
  if (s.ch c).confirm.isSome then
    let s := s.modCh c fun r => { r with confirm := none }
    if (s.ch c).powerGood then
      match (s.ch c).state with
      | .off => markStuck c s
      | .pending => markStuck c (withdraw c .counted s)
      | .faulted =>
        if (s.ch c).fault = .stuck then s
        else reportFault c (s.modCh c fun r => { r with fault := .stuck, since := s.now })
      | .ramping | .on | .warning => s
    else s
  else s

/-- The warning time in effect for a graceful stop taken now (R13). -/
def warningTime (s : State) (c : Ch) : Nat :=
  if s.source.state = .ride then min (s.chCfg c).warn s.cfg.ride.cap else (s.chCfg c).warn

/-- An ON channel enters WARNING; a warning time of 0 expires in the same step (R12, R13). -/
def startWarning (c : Ch) (s : State) : State :=
  let t := warningTime s c
  let s := enterState c .warning (s.modCh c fun r => { r with warn := some (s.timer t) })
  if t = 0 then takeWarningExpiry c s else s

/-- What a stop or cut does to the shed mark before it acts (R17): LADDER and DEFICIT set it on an ON or RAMPING
channel, LEAK clears it in any state. -/
def markForStop (c : Ch) (cause : StopCause) (s : State) : State :=
  match cause with
  | .ladder | .deficit =>
    if (s.ch c).state = .on ∨ (s.ch c).state = .ramping then s.modCh c fun r => { r with shed := true } else s
  | .leak => clearShed c s
  | .host | .plan | .source => s

/-- A graceful stop request reaches a channel (Table 1-4). -/
def gracefulStop (cause : StopCause) (c : Ch) (s : State) : State :=
  let s' := markForStop c cause s
  match (s.ch c).state with
  | .on => startWarning c s'
  | .pending => withdraw c .counted s'
  | .ramping => switchOff c s'
  | .warning | .off | .faulted => s'

/-- A cut request reaches a channel (Table 1-5). -/
def cut (cause : StopCause) (c : Ch) (s : State) : State :=
  let s' := markForStop c cause s
  match (s.ch c).state with
  | .on | .warning | .ramping => switchOff c s'
  | .pending => withdraw c .counted s'
  | .off | .faulted => s'

/-- The Budget Unit admits a PENDING channel (R6): it becomes RAMPING, and the power-good and tray fault levels
are then taken at once, power-good first (log 34). -/
def admitChannel (c : Ch) (s : State) : State :=
  let s := s.modCh c fun r =>
    { r with admitted := some (s.chCfg c).inrush, confirm := none, ramp := some (s.timer (s.chCfg c).ramp) }
  let s := noticeAdmitted c (count .channelStarts (enterState c .ramping (clearShed c s)))
  let s := if (s.ch c).powerGood then takePowerGoodRise c s else s
  if (s.ch c).trayFault then takeTrayFault c s else s

/-- A draw reading is clamped to 0..32,767 W (R3). -/
def clampDraw (x : Int) : Nat := min x.toNat 32767

/-- The overdraw check of an ON channel after a scan (R5). -/
def overdrawCheck (c : Ch) (s : State) : State :=
  let r := s.ch c
  if r.state = .on ∧ (s.chCfg c).alloc < r.draw ∧ r.overdrawn = false then
    (raise .channelOverdraw (some c.val) (some r.draw) (some (s.chCfg c).alloc) s).modCh c
      fun r => { r with overdrawn := true }
  else s

/-- The 24 readings of a scan are stored (R3). -/
def storeDraws (readings : Vector Int 24) (s : State) : State :=
  { s with chans := Vector.ofFn fun c => { s.chans[c] with draw := clampDraw readings[c] } }

/-- The measured draw of all 24 channels, P_load (R105). -/
def loadNow (s : State) : Nat := (allCh.map fun c => (s.ch c).draw).sum

end Sys2Proof.Machine
end

