-- ==== Sys2Proof/Machine/Budget.lean ====
section
/-! DEFINITION. Power budget and admission (Chapter 2): the evaluation, the admission queue, deficit shedding, and the
charge distribution that an evaluation hands on to (R121). -/

namespace Sys2Proof.Machine

/-! ### The evaluation (R26 to R32) -/

/-- A rectifier is ONLINE or DERATED and its last sample reports input good: counted by the Budget Unit (R27). -/
def Rect.counted (r : Rect) : Bool :=
  (r.state == .online || r.state == .derated) &&
  (match r.sample with
    | some x => x.inputGood
    | none => false)

/-- The available capacity a record holds (R27). -/
def Rect.capacity (r : Rect) : Nat :=
  match r.sample with
  | some x => x.avail
  | none => 0

/-- Stage 1: the counted rectifiers (R27). -/
def countedSlots (s : State) : List RmSlot := allRm.filter fun n => s.shelf.rect[n].counted

/-- The sum of the k largest of a list of capacities. -/
def sumLargest (k : Nat) (l : List Nat) : Nat := ((l.insertionSort (· ≥ ·)).take k).sum

/-- Stages 2 to 5: raw supply, reserve, guard and firm supply of the given slots (R27 to R29). -/
def supply (s : State) (slots : List RmSlot) : Nat × Nat × Nat × Nat :=
  let caps := slots.map fun n => s.shelf.rect[n].capacity
  let raw := caps.sum
  let red := if caps.length < s.cfg.policy.k then raw else sumLargest s.cfg.policy.k caps
  let guard := ((raw - red) * s.cfg.policy.guard + 99) / 100
  (raw, red, guard, raw - red - guard)

/-- The committed load P_com (R30). -/
def committedLoad (s : State) : Nat := (allCh.map (budgetFigure s)).sum

/-- The inrush pool: the admitted inrush of the RAMPING channels (R32, R34). -/
def inrushPool (s : State) : Nat :=
  (allCh.map fun c => if (s.ch c).state = .ramping then (s.ch c).admitted.getD 0 else 0).sum

/-- All eleven stages, from the inputs as they stand (R26 to R32). -/
def figuresNow (s : State) : Figures :=
  let slots := countedSlots s
  let sup := supply s slots
  let com := committedLoad s
  let m : Int := (sup.2.2.2 : Int) - (com : Int)
  let fact := if s.source.chargeFirst then s.cfg.charge.floor else 0
  let chg := if s.source.state = .grid then min s.source.request (min s.cfg.charge.limit m.toNat) else 0
  { counted := slots, raw := sup.1, red := sup.2.1, guard := sup.2.2.1, firm := sup.2.2.2, com := com
    m := m, fact := fact, h := m - (fact : Int), o := inrushPool s, chg := chg }

/-! ### The charge distribution (R120, R121) -/

/-- A battery is eligible for charge (R120). -/
def Batt.eligible (b : Batt) : Bool :=
  match b.state, b.sample with
  | .charging, some _ => true
  | .standby, some x => decide (x.usable < x.full)
  | _, _ => false

/-- The charge request of a battery's last sample. -/
def Batt.request (b : Batt) : Nat :=
  match b.sample with
  | some x => x.request
  | none => 0

/-- The total charge request of the eligible batteries (R120). -/
def chargeRequest (s : State) : Nat :=
  (allBm.map fun n => if s.shelf.batt[n].eligible then s.shelf.batt[n].request else 0).sum

/-- Slot n receives what it asks for, or what is left; the rest is handed on (R121). -/
def giveCharge (n : BmSlot) (x : State × Nat) : State × Nat :=
  let b := x.1.shelf.batt[n]
  let got := if b.eligible then min b.request x.2 else 0
  (x.1.modBatt n fun b => { b with chargeLimit := got }, x.2 - got)

/-- P_chg is divided among the batteries in slot order (R121). -/
def distribute (s : State) : State := (allBm.foldl (fun x n => giveCharge n x) (s, s.budget.figs.chg)).1

/-! ### The deficit record (R44 to R46) -/

/-- The deficit record tests the margin after an evaluation (R44). A grace of 0 lets the expiry follow at once. -/
def deficitTest (s : State) : State :=
  if s.source.state = .grid ∧ s.budget.figs.m < 0 then
    match s.budget.grace with
    | some _ => s
    | none =>
      (s.modBudget fun b => { b with grace := some (s.timer s.cfg.policy.grace) }).modWork
        fun w => { w with grace := s.cfg.policy.grace == 0 }
  else
    (s.modBudget fun b => { b with grace := none, reported := false }).modWork fun w => { w with grace := false }

/-- An evaluation: the figures, then the hand-overs of R33. The deficit test and the distribution act here; the
queue examination and the Source Controller's tests are marked (log 10). -/
def evaluate (s : State) : State :=
  let s := s.modBudget fun b => { b with figs := figuresNow s }
  let s := distribute (deficitTest s)
  s.modWork fun w => { w with eval := false, figs := true, exam := true }

/-- The RAMPING or ON channels of a tier, in ascending index. -/
def tierLive (s : State) (t : Nat) : List Ch :=
  allCh.filter fun c =>
    (s.chCfg c).tier.val == t && ((s.ch c).state == .ramping || (s.ch c).state == .on)

/-- The grace timer restarts with the grace setting (R45, log 16). -/
def restartGrace (s : State) : State :=
  s.modBudget fun b => { b with grace := some (s.timer s.cfg.policy.grace) }

/-- Deficit shedding stops one channel: it joins the in-flight set if it is then WARNING (R45). -/
def shedForDeficit (c : Ch) (s : State) : State :=
  let s := gracefulStop .deficit c s
  let s := if (s.ch c).state = .warning then s.modBudget fun b => { b with inflight := setInsert c b.inflight } else s
  count .channelsShed s

/-- A tier is shed: BUDGET DEFICIT SHED (R45). -/
def shedTier (t : Nat) (s : State) : State :=
  let l := tierLive s t
  raise .budgetDeficitShed none (some t) (some l.length) (forEach l shedForDeficit s)

/-- BUDGET DEFICIT, once per deficit (R46). -/
def reportDeficit (s : State) : State :=
  if s.budget.reported then s
  else
    (raise .budgetDeficit none (some (-s.budget.figs.m).toNat) (some s.budget.figs.firm) s).modBudget
      fun b => { b with reported := true }

/-- The tier that deficit shedding selects: the highest of 3, 2 and 1 with a channel RAMPING or ON (R45). -/
def tierToShed (s : State) : Option Nat := [3, 2, 1].find? fun t => !(tierLive s t).isEmpty

/-- The deficit grace timer expires (R45, R46). -/
def takeGraceExpiry (s : State) : State :=
  if s.budget.grace.isSome then
    if s.budget.inflight.isEmpty then
      match tierToShed s with
      | some t => restartGrace (shedTier t s)
      | none => restartGrace (reportDeficit s)
    else restartGrace s
  else s

/-! ### Joining the queue (R36) -/

/-- The entry of a join request (R36). -/
def newEntry (name : EntryName) (o : Origin) (s : State) : Entry := ⟨name, none, o, s.now, false, false⟩

/-- A join request in GRID: one entry at the tail, its channels PENDING; outside GRID it is refused and changes
nothing (R36). -/
def join (name : EntryName) (o : Origin) (s : State) : State :=
  if s.source.state = .grid then
    let e := newEntry name o s
    let empty := s.budget.queue.isEmpty
    let s := s.modBudget fun b => { b with queue := b.queue ++ [e] }
    let s := forEach e.chans (fun c s => enterState c .pending s) s
    markExam (if empty then watchHead s else s)
  else s

/-! ### Examining the head (R37 to R40) -/

/-- The split spacing timer holds an entry back (R40). -/
def spacingHolds (s : State) (e : Entry) : Bool :=
  match s.budget.spacing, e.splitFrom with
  | some (g, _), some g' => g == g'
  | _, _ => false

/-- The channels fit the headroom and the inrush pool in GRID (R38, R39). -/
def fits (s : State) (l : List Ch) : Bool :=
  s.source.state == .grid &&
  decide (((l.map fun c => (s.chCfg c).alloc).sum : Int) ≤ s.budget.figs.h) &&
  decide (s.budget.figs.o + (l.map fun c => (s.chCfg c).inrush).sum ≤ s.cfg.policy.inrush)

/-- The head entry is admitted and removed (R38, R39); a split single starts the spacing timer, and a spacing of
0 has expired at once (R40). -/
def admitHead (e : Entry) (s : State) : State :=
  let s := s.modBudget fun b => { b with queue := b.queue.tail }
  let s := forEach e.chans admitChannel s
  let s := match e.splitFrom with
    | some g =>
      s.modBudget fun b => { b with spacing :=
        if s.cfg.policy.spacing = 0 then none else some (g, s.timer s.cfg.policy.spacing) }
    | none => s
  headGone s

/-- The head does not fit and stays: one ADMISSION WAITS event the first time (R37). -/
def headWaits (e : Entry) (s : State) : State :=
  if e.waited then s
  else count .admissionWaits (s.modBudget fun b => { b with queue := b.queue.modifyHead fun h => { h with waited := true } })

/-- A SINGLE entry at the head is tested (R38). -/
def examineSingle (e : Entry) (s : State) : State :=
  if spacingHolds s e then s else if fits s e.chans then admitHead e s else headWaits e s

/-- The singles a gang entry is degraded into (R39). -/
def degrade (e : Entry) (g : Gang) (ms : List Ch) : List Entry :=
  ms.map fun c => { e with name := .single c, splitFrom := some g, waited := false }

/-- The queue examines its head entry (R37 to R40). -/
def examine (s : State) : State :=
  match s.budget.queue with
  | [] => s
  | e :: q =>
    match e.name with
    | .single _ => examineSingle e s
    | .gang g ms =>
      if fits s ms then admitHead e s
      else
        match degrade e g ms with
        | [] => headGone (s.modBudget fun b => { b with queue := q })
        | f :: fs => examineSingle f (watchHead (s.modBudget fun b => { b with queue := f :: fs ++ q }))

/-- The source state leaves GRID: the queue is empty, its timers are dropped, and every channel it named is
withdrawn to OFF; no report is raised for the entries (R43). -/
def emptyQueue (s : State) : State :=
  let l := queuedChans s.budget.queue
  let s := s.modBudget fun b => { b with queue := [], spacing := none, late := none }
  forEach l (fun c s => withdraw c .sourceLeft s) s

/-- A run's outstanding members are withdrawn in one step (R42, R63, R66, R67). These rules do not say whether they
leave the queue together or one by one: that the entries lose them together, and a new head is watched once, is the
model's choice (log 47). -/
def withdrawAll (l : List Ch) (w : Withdrawal) (s : State) : State :=
  let headLeaves := match s.budget.queue with
    | [] => false
    | e :: _ => e.chans.all fun c => l.contains c
  let s := s.modBudget fun b => { b with queue := l.foldl (fun q c => q.filterMap (Entry.drop c)) b.queue }
  let s := if headLeaves then headGone s else s
  forEach l (fun c s => withdraw c w s) s

/-- The split spacing timer expires and the head is to be examined (R40). -/
def takeSpacingExpiry (s : State) : State :=
  if s.budget.spacing.isSome then markExam (s.modBudget fun b => { b with spacing := none }) else s

/-- The late timer expires (R41). -/
def takeLateExpiry (s : State) : State :=
  if s.budget.late.isSome then lateCheck (s.modBudget fun b => { b with late := none }) else s

end Sys2Proof.Machine
end

