-- ==== Sys2Proof/Machine/Operands.lean ====
section
/-! DEFINITION. Arguments and answers of command lines: index tests, clamping of settings (R185), result fields and
their words (R174). -/

namespace Sys2Proof.Machine

/-! ### Answers -/

/-- The answer OK with result fields. -/
def okWith (fs : List Field) : Reply := { status := .ok, fields := fs }
/-- The answer OK without fields. -/
def okReply : Reply := okWith []
/-- The answer ERR with a code. -/
def errReply (c : Code) : Reply := { status := .err c }
/-- The answer to an accepted setting command: ADJUSTED when a stored value differs from the one written (R185). -/
def setReply (adjusted : Bool) (fs : List Field) : Reply :=
  { status := if adjusted then .adjusted else .ok, fields := fs }
/-- The stored values go with ADJUSTED alone, where the command's rule names them only there (log 37). That they are all
the settings of the record which the command writes, the ones it does not name too, is the model's choice (log 50). -/
def setReplyBare (adjusted : Bool) (fs : List Field) : Reply := setReply adjusted (if adjusted then fs else [])

/-- A refused command changes nothing (R174). -/
def refuse (c : Code) (s : State) : State × Reply := (s, errReply c)

/-! ### Index arguments: never clamped (R185) -/

/-- An index in range. -/
def index? (n : Nat) (x : Int) : Option (Fin n) :=
  if h : 0 ≤ x ∧ x.toNat < n then some ⟨x.toNat, h.2⟩ else none

/-- A required index: SYNTAX when it is missing, RANGE when it is out of range. -/
def withIndex (n : Nat) (x : Option Int) (s : State) (k : Fin n → State × Reply) : State × Reply :=
  match x with
  | none => refuse .syntaxError s
  | some x =>
    match index? n x with
    | none => refuse .range s
    | some i => k i

/-- All the indices of a list, when each is in range. -/
def indices? (n : Nat) (l : List Int) : Option (List (Fin n)) := l.mapM (index? n)

/-! ### Numeric settings: clamped to their ranges (R185) -/

/-- The nearest value of a range. -/
def clampTo (lo hi : Nat) (x : Int) : Nat := (max (lo : Int) (min (hi : Int) x)).toNat

/-- The value stored for an optional numeric argument. -/
def numArg (lo hi : Nat) (x : Option Int) (old : Nat) : Nat :=
  match x with
  | some x => clampTo lo hi x
  | none => old

/-- The value written is clamped. -/
def clamps (lo hi : Nat) (x : Option Int) : Bool :=
  match x with
  | some x => decide (((clampTo lo hi x : Nat) : Int) ≠ x)
  | none => false

/-! ### Result fields -/

def fNum (k : String) (n : Nat) : Field := ⟨k, .num n⟩
def fInt (k : String) (n : Int) : Field := ⟨k, .num n⟩
def fWord (k w : String) : Field := ⟨k, .word w⟩
def fYes (k : String) (b : Bool) : Field := ⟨k, .yesNo b⟩
def fOn (k : String) (b : Bool) : Field := ⟨k, .onOff b⟩
def fNums (k : String) (l : List Nat) : Field := ⟨k, .nums l⟩
def fWords (k : String) (l : List String) : Field := ⟨k, .words l⟩
/-- A list of numbered parts. -/
def fSet {n : Nat} (k : String) (l : List (Fin n)) : Field := ⟨k, .nums (l.map Fin.val)⟩
/-- A field that is present only with a value. -/
def fOpt (k : String) (x : Option Nat) : List Field :=
  match x with
  | some n => [fNum k n]
  | none => []
/-- A field that is NONE without a value. -/
def fOrNone (k : String) (x : Option Nat) : Field :=
  match x with
  | some n => fNum k n
  | none => fWord k "NONE"
/-- The time left on a timer, present while it runs. -/
def fLeft (k : String) (s : State) (t : Option Timer) : List Field := fOpt k (t.map s.left)
/-- A time base value. -/
def fStamp (k : String) (t : Stamp) : Field := fNum k t.toNat

/-! ### Words -/

def Port.word : Port → String
  | .manager => "MANAGER"
  | .service => "SERVICE"

def ChState.word : ChState → String
  | .off => "OFF"
  | .pending => "PENDING"
  | .ramping => "RAMPING"
  | .on => "ON"
  | .warning => "WARNING"
  | .faulted => "FAULTED"

def FaultKind.word : FaultKind → String
  | .noFault => "NONE"
  | .ramp => "RAMP"
  | .drop => "DROP"
  | .tray => "TRAY"
  | .stuck => "STUCK"

def Code.word : Code → String
  | .busy => "BUSY"
  | .syntaxError => "SYNTAX"
  | .range => "RANGE"
  | .state => "STATE"
  | .held => "HELD"
  | .source => "SOURCE"
  | .budget => "BUDGET"
  | .sequence => "SEQUENCE"
  | .locked => "LOCKED"
  | .notDry => "NOTDRY"
  | .denied => "DENIED"

def Origin.word : Origin → String
  | .host => "HOST"
  | .plan => "PLAN"
  | .restore => "RESTORE"

def RunBy.word : RunBy → String
  | .host => "HOST"
  | .source => "SOURCE"

def RunState.word : RunState → String
  | .running => "RUNNING"
  | .waiting => "WAITING"
  | .paused => "PAUSED"
  | .done => "DONE"
  | .aborted => "ABORTED"

def Phase.word : Phase → String
  | .step => "STEP"
  | .gap => "GAP"

def RunKind.word : RunKind → String
  | .up => "UP"
  | .down => "DOWN"

def StepAction.word : StepAction → String
  | .start => "START"
  | .stop => "STOP"
  | .delay => "DELAY"
  | .awaitOn => "AWAITON"
  | .awaitGrid => "AWAITGRID"

def RectState.word : RectState → String
  | .empty => "EMPTY"
  | .disabled => "DISABLED"
  | .faulted => "FAULTED"
  | .starting => "STARTING"
  | .derated => "DERATED"
  | .online => "ONLINE"
  | .lost => "LOST"

def BattState.word : BattState → String
  | .empty => "EMPTY"
  | .standby => "STANDBY"
  | .charging => "CHARGING"
  | .discharging => "DISCHARGING"
  | .faulted => "FAULTED"
  | .depleted => "DEPLETED"
  | .lost => "LOST"

def SrcState.word : SrcState → String
  | .grid => "GRID"
  | .ride => "RIDE"
  | .qualify => "QUALIFY"
  | .handback => "HANDBACK"
  | .down => "DOWN"

def ReturnFrom.word : ReturnFrom → String
  | .ride => "RIDE"
  | .down => "DOWN"

def RestorePolicy.word : RestorePolicy → String
  | .host => "HOST"
  | .auto => "AUTO"

def LoopClass.word : LoopClass → String
  | .dry => "DRY"
  | .wet => "WET"
  | .cable => "CABLE"

def ZoneState.word : ZoneState → String
  | .off => "OFF"
  | .watch => "WATCH"
  | .wet => "WET"
  | .escalated => "ESCALATED"
  | .cableFault => "CABLEFAULT"

def CablePolicy.word : CablePolicy → String
  | .report => "REPORT"
  | .treatWet => "TREATWET"

def LeakAction.word : LeakAction → String
  | .report => "REPORT"
  | .isolate => "ISOLATE"
  | .cut => "CUT"

def EscAction.word : EscAction → String
  | .nothing => "NONE"
  | .isolateNoncritical => "ISOLATENC"
  | .cutAll => "CUTALL"

def LeakCause.word : LeakCause → String
  | .wet => "WET"
  | .cable => "CABLE"

def ValveState.word : ValveState → String
  | .opened => "OPEN"
  | .closing => "CLOSING"
  | .closed => "CLOSED"
  | .opening => "OPENING"
  | .fault => "FAULT"

def Route.word : Route → String
  | .nowhere => "NONE"
  | .manager => "MANAGER"
  | .service => "SERVICE"
  | .both => "BOTH"

def Group.word : Group → String
  | .channel => "CHANNEL"
  | .budget => "BUDGET"
  | .plan => "PLAN"
  | .shelf => "SHELF"
  | .source => "SOURCE"
  | .leak => "LEAK"
  | .valve => "VALVE"
  | .system => "SYSTEM"

def AtLimit.word : AtLimit → String
  | .hold => "HOLD"
  | .wrap => "WRAP"

/-- The reset kinds (R193). That WARM PIN and WARM COMMAND are written as one word is the model's choice (log 24). -/
def ResetKind.word : ResetKind → String
  | .cold => "COLD"
  | .warmPin => "WARMPIN"
  | .warmCommand => "WARMCOMMAND"

def Store.word : Store → String
  | .invalid => "INVALID"
  | .valid _ => "VALID"
  | .writing _ _ => "WRITING"

def CfgSource.word : CfgSource → String
  | .store => "STORE"
  | .defaults => "DEFAULTS"

/-- A report kind with its spaces removed, as report lines write it (R170). -/
def ReportKind.word : ReportKind → String
  | .channelFault => "CHANNELFAULT"
  | .channelOverdraw => "CHANNELOVERDRAW"
  | .admissionLate => "ADMISSIONLATE"
  | .budgetDeficitShed => "BUDGETDEFICITSHED"
  | .budgetDeficit => "BUDGETDEFICIT"
  | .stepSkipped => "STEPSKIPPED"
  | .planEnded => "PLANENDED"
  | .planPaused => "PLANPAUSED"
  | .moduleState => "MODULESTATE"
  | .rideBegin => "RIDEBEGIN"
  | .reserveReached => "RESERVEREACHED"
  | .depleted => "DEPLETED"
  | .shed => "SHED"
  | .rideEnd => "RIDEEND"
  | .hostSilent => "HOSTSILENT"
  | .leakWet => "LEAKWET"
  | .leakEscalated => "LEAKESCALATED"
  | .zoneCableFault => "ZONECABLEFAULT"
  | .overrideApplied => "OVERRIDEAPPLIED"
  | .valveFault => "VALVEFAULT"
  | .valveMoved => "VALVEMOVED"
  | .configDefaulted => "CONFIGDEFAULTED"
  | .saveDone => "SAVEDONE"

end Sys2Proof.Machine
end

