-- ==== Sys2Proof/Machine/BudgetCmds.lean ====
section
/-! DEFINITION. The budget commands (02, 2.5), as each is taken by the Budget Unit. -/

namespace Sys2Proof.Machine

/-- The policy settings as result fields (R48). -/
def policyFields (p : PolicyCfg) : List Field :=
  [fNum "k" p.k, fNum "guard" p.guard, fNum "inrush" p.inrush, fNum "grace" p.grace, fNum "late" p.late,
    fNum "spacing" p.spacing]

/-- The policy settings after POLICY SET, each clamped to its range (R47). -/
def applyPolicy (a : PolicyArgs) (old : PolicyCfg) : PolicyCfg :=
  { k := numArg 0 2 a.k old.k
    guard := numArg 0 25 a.guard old.guard
    inrush := numArg 0 60000 a.inrush old.inrush
    grace := numArg 0 10000 a.grace old.grace
    late := numArg 1000 600000 a.late old.late
    spacing := numArg 0 5000 a.spacing old.spacing }

/-- A value of POLICY SET is clamped. -/
def policyAdjusts (a : PolicyArgs) : Bool :=
  clamps 0 2 a.k || clamps 0 25 a.guard || clamps 0 60000 a.inrush || clamps 0 10000 a.grace ||
    clamps 1000 600000 a.late || clamps 0 5000 a.spacing

/-- Accepted policy settings are stored: an evaluation starts, and a changed late time acts on the head's late
timer at once (R47, R41). -/
def storePolicy (p : PolicyCfg) (s : State) : State :=
  let old := s.cfg.policy
  let s := s.modCfg fun w => { w with policy := p }
  markEval (if p.late = old.late then s else watchHead s)

/-- POLICY SET (R47). -/
def doPolicySet (a : PolicyArgs) (s : State) : State × Reply :=
  if a = {} then refuse .syntaxError s
  else
    let p := applyPolicy a s.cfg.policy
    (storePolicy p s, setReplyBare (policyAdjusts a) (policyFields p))

/-- BUDGET READ (R48). The ascending order of inf= is the model's choice (log 52). -/
def doBudgetRead (sel : Option BudgetSel) (s : State) : State × Reply :=
  let f := s.budget.figs
  match sel.getD .fig with
  | .fig =>
    (s, okWith [fNum "raw" f.raw, fNum "red" f.red, fNum "grd" f.guard, fNum "firm" f.firm, fNum "com" f.com,
      fInt "m" f.m, fNum "fact" f.fact, fInt "h" f.h, fNum "o" f.o, fNum "lim" s.cfg.policy.inrush,
      fNum "chg" f.chg])
  | .state =>
    (s, okWith (fSet "cnt" f.counted :: fLeft "gl" s s.budget.grace ++
      [fYes "def" s.budget.reported, fSet "inf" s.budget.inflight, fYes "cf" s.source.chargeFirst]))
  | .policy => (s, okWith (policyFields s.cfg.policy))

/-- The fields of an admission queue entry (R49). Their keywords (log 24) and the ascending order of a gang's members
(log 52) are the model's choice. -/
def entryFields (s : State) (e : Entry) : List Field :=
  (match e.name with
    | .single c => [fWord "kind" "SINGLE", fNum "ch" c.val]
    | .gang g ms => [fWord "kind" "GANG", fNum "gang" g.val, fSet "mem" ms]) ++
  fOpt "split" (e.splitFrom.map Fin.val) ++
  [fWord "org" e.origin.word, fStamp "join" e.joined, fNum "wait" (s.waited e), fYes "lrep" e.lateReported,
    fYes "waited" e.waited]

/-- The time left on the split spacing timer. -/
def spacingLeft (s : State) : List Field := fLeft "sp" s (s.budget.spacing.map Prod.snd)

/-- ADMISSION READ (R49). -/
def doAdmissionRead (pos : Option Int) (s : State) : State × Reply :=
  let q := s.budget.queue
  let n := fNum "n" q.length
  match pos with
  | none =>
    let head := match q with
      | [] => []
      | e :: _ => entryFields s e
    (s, okWith (n :: head ++ spacingLeft s ++ fLeft "lt" s s.budget.late))
  | some p =>
    match index? 24 p with
    | none => refuse .range s
    | some i =>
      match q[i.val]? with
      | none => refuse .range s
      | some e => (s, okWith (n :: entryFields s e))

end Sys2Proof.Machine
end

