-- ==== Sys2Proof/Machine/Plans.lean ====
section
/-! DEFINITION. Sequence plans (Chapter 3): steps, pause, resume, abort and the end of a run. -/

namespace Sys2Proof.Machine

/-- A run is active while RUNNING, WAITING or PAUSED (Table 3-3). -/
def Run.active (r : Run) : Bool :=
  match r.state with
  | .running | .waiting | .paused => true
  | .done | .aborted => false

/-- A plan run is active. -/
def runActive (s : State) : Bool :=
  match s.run with
  | some r => r.active
  | none => false

/-- A step is a protected step of the active run (R53). -/
def isProtected (s : State) (n : StepIx) : Bool :=
  match s.run with
  | some r => r.active && decide (r.entry ≤ n) && decide (n ≤ r.endStep)
  | none => false

/-- The end step of a plan: the first step at or after the entry with an end mark, else step 47 (R53). -/
def endStepOf (s : State) (entry : StepIx) : StepIx :=
  ((List.finRange 48).find? fun n => decide (entry ≤ n) && s.cfg.steps[n].endMark).getD 47

/-- A run ends: the gap timer is dropped, the outstanding set emptied, PLAN ENDED is raised (R62). -/
def endRun (st : RunState) (code : Nat) (s : State) : State :=
  match s.run with
  | none => s
  | some r =>
    let s := markPlan .idle (s.modRun fun r =>
      { r with state := st, gap := none, gapLeft := 0, outstanding := [], pauseCause := none })
    raise .planEnded (some r.cursor.val) (some code) (some r.done) s

/-- The current step has completed (R54): the run ends at its end step, or the gap runs; a gap of 0 expires at
once and the next step is to be executed. -/
def completeStep (s : State) : State :=
  match s.run with
  | none => s
  | some r =>
    let s := s.modRun fun r => { r with done := r.done + 1 }
    if r.cursor = r.endStep then endRun .done (if r.unterminated then 1 else 0) s
    else
      let gap := s.cfg.steps[r.cursor].gap
      if gap = 0 then
        markPlan .exec (s.modRun fun r =>
          { r with state := .running, phase := .step, cursor := r.cursor + 1, gap := none, gapLeft := 0 })
      else
        s.modRun fun r =>
          { r with state := .running, phase := .gap, gap := some (s.timer gap), gapLeft := gap }

/-- The gap timer expires and the cursor moves on (R54). -/
def takeGapExpiry (s : State) : State :=
  match s.run with
  | some r =>
    if r.state = .running ∧ r.phase = .gap ∧ r.gap.isSome then
      markPlan .exec (s.modRun fun r =>
        { r with phase := .step, cursor := r.cursor + 1, gap := none, gapLeft := 0 })
    else s
  | none => s

/-- The tests of CHANNEL START on one channel: not configured, not OFF, held without override; the reason of the
first that fails (R19, R55). -/
def startReason (s : State) (c : Ch) : Option Nat :=
  if !(s.chCfg c).configured then some 1
  else if (s.ch c).state ≠ .off then some 2
  else if !(s.ch c).holds.isEmpty && !(s.ch c).override then some 3
  else none

/-- The members of a target in index order (R55). -/
def Target.members : Target → List Ch
  | .chan c => [c]
  | .gang g => gangMembers g

/-- The members of a step's target. -/
def PlanStep.members (p : PlanStep) : List Ch :=
  match p.target with
  | some t => t.members
  | none => []

/-- A member is skipped when it fails a test of CHANNEL START in the state the step began in (R55). -/
def skipFailing (s : State) (c : Ch) (t : State) : State :=
  match startReason s c with
  | some reason => skipMember c reason t
  | none => t

/-- A START step in GRID: the failing members are skipped, the others join as one entry (R55). -/
def startStep (p : PlanStep) (s : State) : State :=
  let ms := p.members
  let pass := ms.filter fun c => (startReason s c).isNone
  let s := forEach ms (skipFailing s) s
  match pass with
  | [] => markPlan .complete s
  | c :: _ =>
    let name := match p.target with
      | some (.gang g) => EntryName.gang g pass
      | _ => EntryName.single c
    join name .plan (s.modRun fun r => { r with state := .waiting, outstanding := pass })

/-- The cursor's step is executed (R54 to R61). -/
def executeStep (s : State) : State :=
  match s.run with
  | none => s
  | some r =>
    let s := s.modRun fun r => { r with state := .running, phase := .step, outstanding := [] }
    let p := s.cfg.steps[r.cursor]
    match p.action with
    | .start =>
      if s.source.state = .grid then startStep p s
      else match r.kind with
        | .down => markPlan .complete s
        | .up => s
    | .stop => markPlan .complete (forEach p.members (gracefulStop .plan) s)
    | .delay => markPlan .complete s
    | .awaitOn =>
      if awaitOnMet s r then markPlan .complete s else s.modRun fun r => { r with state := .waiting }
    | .awaitGrid =>
      if s.source.state = .grid then markPlan .complete s else s.modRun fun r => { r with state := .waiting }

/-- What the run has to do in this command is done: a step is completed or executed (log 10). -/
def planWork (s : State) : State :=
  let w := s.work.plan
  let s := markPlan .idle s
  match w with
  | .idle => s
  | .exec => executeStep s
  | .complete => completeStep s

/-- A run is started from an entry (R68). -/
def startRun (kind : RunKind) (entry : StepIx) (o : RunBy) (s : State) : State :=
  let e := endStepOf s entry
  let r : Run :=
    { state := .running, kind := kind, origin := o, entry := entry, endStep := e
      unterminated := !s.cfg.steps[e].endMark, cursor := entry, phase := .step, pauseCause := none
      gap := none, gapLeft := 0, outstanding := [], done := 0, admitted := 0, skipped := 0
      admittedSet := [], startedAt := s.now }
  markPlan .exec (s.setRun (some r))

/-- Outstanding members are taken out of the queue without being counted (R63, R66, R67). -/
def withdrawOutstanding (l : List Ch) (s : State) : State :=
  withdrawAll l .own (s.modRun fun r => { r with outstanding := [] })

/-- A pause of a RUNNING or WAITING run (R63). -/
def pauseRun (cause : RunBy) (s : State) : State :=
  match s.run with
  | some r =>
    if r.state = .running ∨ r.state = .waiting then
      let left := match r.gap with
        | some t => s.left t
        | none => 0
      let s := withdrawOutstanding r.outstanding s
      let s := markPlan .idle (s.modRun fun r =>
        { r with state := .paused, pauseCause := some cause, gap := none, gapLeft := left })
      raise .planPaused (some r.cursor.val) (some (match cause with | .host => 0 | .source => 1))
        (some r.outstanding.length) s
    else s
  | none => s

/-- A PAUSED run continues from its phase (R69). -/
def resumeRun (s : State) : State :=
  match s.run with
  | some r =>
    let s := s.modRun fun r => { r with state := .running, pauseCause := none }
    match r.phase with
    | .step => markPlan .exec s
    | .gap =>
      if r.gapLeft = 0 then
        markPlan .exec (s.modRun fun r => { r with phase := .step, cursor := r.cursor + 1, gap := none })
      else s.modRun fun r => { r with gap := some (s.timer r.gapLeft) }
  | none => s

/-- An active run is ended as ABORTED with an ending code (R66, R67). -/
def abortRun (code : Nat) (s : State) : State :=
  match s.run with
  | some r =>
    if r.active then endRun .aborted code (withdrawOutstanding r.outstanding s) else s
  | none => s

/-- The source state has left GRID (R64). -/
def planLeftGrid (s : State) : State :=
  match s.run with
  | some r =>
    match r.kind with
    | .up => pauseRun .source s
    | .down => s
  | none => s

/-- The source state has entered GRID (R65). -/
def planEnteredGrid (s : State) : State :=
  match s.run with
  | some r =>
    match r.kind with
    | .up => if r.state = .paused ∧ r.pauseCause = some .source then resumeRun s else s
    | .down =>
      if r.state = .waiting ∧ s.cfg.steps[r.cursor].action = .awaitGrid then markPlan .complete s else s
  | none => s

/-- The steps that are already due are taken one after another until the run waits for something (R54): a completion
that stands, and after a gap of 0 the next step. -/
def drainPlan : Nat → State → State
  | 0, s => s
  | n + 1, s => if s.work.plan = .idle then s else drainPlan n (planWork s)

/-- A reserve request with the down-entry (R66). A step that has completed by then counts before the abort (R56, R60). -/
def reserveRequest (d : Option StepIx) (s : State) : State :=
  let s := abortRun 3 (drainPlan Config.planFuel s)
  match d with
  | some e => startRun .down e .source s
  | none => s

/-- The Source Controller asks for an UP run from U; refused when a run is active or U is NONE (R68, R126). -/
def requestUpRun (s : State) : State :=
  if runActive s then s
  else match s.cfg.up with
    | some e => startRun .up e .source s
    | none => s

end Sys2Proof.Machine
end

