-- ==== Sys2Proof/Machine/Recharge.lean ====
section
/-! DEFINITION. Hold time (05, 5.4), charge-first, restore of shed channels and host-silence supervision (Chapter 6). -/

namespace Sys2Proof.Machine

/-! ### Hold time (R105, R106) -/

/-- A battery is available (R85). -/
def Batt.available (b : Batt) : Bool :=
  match b.state with
  | .standby | .charging | .discharging => true
  | .empty | .faulted | .depleted | .lost => false

/-- Usable energy of the last sample. -/
def Batt.energy (b : Batt) : Nat :=
  match b.sample with
  | some x => x.usable
  | none => 0

/-- Discharge limit of the last sample. -/
def Batt.limit (b : Batt) : Nat :=
  match b.sample with
  | some x => x.dischargeLimit
  | none => 0

/-- E_total: the usable energy of the available batteries (R105). -/
def energyTotal (s : State) : Nat :=
  (allBm.map fun n => if s.shelf.batt[n].available then s.shelf.batt[n].energy else 0).sum

/-- D_total: the discharge limit of the available batteries (R105). -/
def dischargeTotal (s : State) : Nat :=
  (allBm.map fun n => if s.shelf.batt[n].available then s.shelf.batt[n].limit else 0).sum

/-- The hold time T(P) for an energy and an efficiency (R106). -/
def holdTimeOf (energy eff load : Nat) : Nat :=
  if load = 0 then 65535 else min 65535 (energy * eff / load)

/-- T(P) with the records as they stand (R106). -/
def holdTime (s : State) (load : Nat) : Nat := holdTimeOf (energyTotal s) s.cfg.ride.eff load

/-! ### Charge-first (R118) -/

/-- The charge-first decision a test would make now (R118). -/
def chargeFirstNow (s : State) : Bool :=
  s.source.state == .grid && decide (holdTime s (loadNow s) < s.cfg.ride.target)

/-- The charge-first test: a changed decision is recorded and handed to the Budget Unit, and auto-restore looks
(R118, R124). -/
def chargeFirstTest (s : State) : State :=
  let d := chargeFirstNow s
  if d = s.source.chargeFirst then s
  else markRestore (markEval (s.modSource fun x => { x with chargeFirst := d }))

/-! ### Restore (R122 to R125) -/

/-- A channel is eligible for restore (R122). -/
def eligibleForRestore (s : State) (c : Ch) : Bool :=
  (s.ch c).state == .off && (s.ch c).shed && (s.ch c).holds.isEmpty && (s.chCfg c).configured

/-- The channels of a tier that are eligible for restore, in ascending index. -/
def eligibleOfTier (s : State) (t : Nat) : List Ch :=
  allCh.filter fun c => (s.chCfg c).tier.val == t && eligibleForRestore s c

/-- The eligible channels in ascending tier and, within a tier, ascending index (R122). -/
def eligibleInOrder (s : State) : List Ch := [0, 1, 2, 3].flatMap (eligibleOfTier s)

/-- Restore places one channel as a SINGLE entry with origin RESTORE (R122). -/
def placeRestore (c : Ch) (s : State) : State := join (.single c) .restore s

/-- Auto-restore places one channel and remembers it in the restore-placed set (R124). -/
def autoPlace (c : Ch) (s : State) : State :=
  (placeRestore c s).modSource fun x => { x with placed := setInsert c x.placed }

/-- The three conditions of an auto-restore pass (R124). -/
def autoRestoreHolds (s : State) : Bool :=
  s.source.policy == .auto && s.source.state == .grid && !s.source.chargeFirst

/-- The conditions are examined, and a pass is taken when they hold (R124). -/
def autoRestore (s : State) : State :=
  if autoRestoreHolds s then
    forEach ((eligibleInOrder s).filter fun c => !s.source.placed.contains c) autoPlace s
  else s

/-! ### Host silence (R127, R128) -/

/-- The silence timer with the full window, or not running when the window is 0 (R127). -/
def silenceTimer (s : State) : Option Timer :=
  if s.cfg.charge.window = 0 then none else some (s.timer (s.cfg.charge.window * 1000))

/-- The effective restore policy takes a value; auto-restore looks when it changes (R124). -/
def setPolicy (p : RestorePolicy) (s : State) : State :=
  if s.source.policy = p then s else markRestore (s.modSource fun x => { x with policy := p })

/-- A silence ends, and the silence timer restarts with the full window (R127, R128). -/
def endSilence (s : State) : State :=
  let s := if s.source.stage = 0 then s
    else setPolicy s.cfg.charge.policy (s.modSource fun x => { x with stage := 0 })
  s.modSource fun x => { x with silence := silenceTimer s }

/-- The silence timer expires (R127). -/
def takeSilenceExpiry (s : State) : State :=
  if s.source.silence.isSome then
    if s.source.stage = 0 then
      raise .hostSilent none (some 1) (some s.cfg.charge.window)
        (s.modSource fun x => { x with stage := 1, silence := silenceTimer s })
    else if s.source.stage = 1 then
      raise .hostSilent none (some 2) (some s.cfg.charge.window)
        (setPolicy .auto (s.modSource fun x => { x with stage := 2, silence := none }))
    else s.modSource fun x => { x with silence := none }
  else s

end Sys2Proof.Machine
end

