-- ==== Sys2Proof/Machine/ChannelCmds.lean ====
section
/-! DEFINITION. The channel commands (01, 1.6), as each is taken by the block that owns it. -/

namespace Sys2Proof.Machine

/-- The code a failing start test answers: 1 and 2 are STATE, 3 is HELD (R19). -/
def reasonCode (n : Nat) : Code := if n = 3 then .held else .state

/-- CHANNEL START ch= (R19). -/
def doChannelStart (a : TargetArgs) (s : State) : State × Reply :=
  match a.gang with
  | some _ => refuse .syntaxError s
  | none =>
    withIndex 24 a.ch s fun c =>
      match startReason s c with
      | some n => refuse (reasonCode n) s
      | none =>
        if s.source.state ≠ .grid then refuse .source s
        else (join (.single c) .host s, okWith [fWord "state" "PENDING"])

/-- A refused member of a gang start, with its code, as a list element. R20 names both and not their written form:
the channel's number with the code word right behind it, 2STATE, is the model's choice (log 39). -/
def refusedMember (s : State) (c : Ch) : Option String :=
  (startReason s c).map fun n => toString c.val ++ (reasonCode n).word

/-- CHANNEL START gang= (R20). The ascending order of joined= and refused= is the model's choice (log 52). -/
def doChannelStartGang (a : TargetArgs) (s : State) : State × Reply :=
  match a.ch with
  | some _ => refuse .syntaxError s
  | none =>
    withIndex 6 a.gang s fun g =>
      if s.source.state ≠ .grid then refuse .source s
      else
        let ms := gangMembers g
        let pass := ms.filter fun c => (startReason s c).isNone
        let bad := ms.filterMap (refusedMember s)
        match pass, ms.filterMap (startReason s) with
        | [], n :: _ => refuse (reasonCode n) s
        | [], [] => refuse .state s
        | _ :: _, _ =>
          (join (.gang g pass) .host s,
            okWith (fSet "joined" pass :: (if bad.isEmpty then [] else [fWords "refused" bad])))

/-- The channels that ch= or gang= names: exactly one of them, in range (01, 1.6). -/
def withTarget (a : TargetArgs) (s : State) (k : List Ch → State × Reply) : State × Reply :=
  match a.ch, a.gang with
  | some _, none => withIndex 24 a.ch s fun c => k [c]
  | none, some _ => withIndex 6 a.gang s fun g => k (gangMembers g)
  | some _, some _ => refuse .syntaxError s
  | none, none => refuse .syntaxError s

/-- The states of the named channels after a stop or cut (R21), for a gang in index order (log 52). -/
def statesOf (s : State) (l : List Ch) : Field := fWords "state" (l.map fun c => (s.ch c).state.word)

/-- CHANNEL STOP (R21). -/
def doChannelStop (a : TargetArgs) (s : State) : State × Reply :=
  withTarget a s fun l =>
    let t := forEach l (gracefulStop .host) s
    (t, okWith [statesOf t l])

/-- CHANNEL CUT (R21). -/
def doChannelCut (a : TargetArgs) (s : State) : State × Reply :=
  withTarget a s fun l =>
    let t := forEach l (cut .host) s
    (t, okWith [statesOf t l])

/-- A FAULTED channel returns to OFF (R22). -/
def clearFault (c : Ch) (s : State) : State :=
  enterState c .off (s.modCh c fun r => { r with fault := .noFault })

/-- CHANNEL CLEAR (R22). -/
def doChannelClear (ch : Option Int) (s : State) : State × Reply :=
  withIndex 24 ch s fun c =>
    if (s.ch c).state = .faulted ∧ (s.ch c).powerGood = false then (clearFault c s, okReply)
    else refuse .state s

/-- The settings of a channel after CHANNEL SET, each clamped to its range in Table 1-1 (R23). -/
def applyChannelSet (a : ChannelSetArgs) (old : ChanCfg) : ChanCfg :=
  { configured := a.cfg.getD old.configured
    alloc := numArg 0 20000 a.alloc old.alloc
    inrush := numArg 0 20000 a.inrush old.inrush
    tier := match a.tier with
      | some x => Fin.ofNat 4 (clampTo 0 3 x)
      | none => old.tier
    warn := numArg 0 60000 a.warn old.warn
    ramp := numArg 100 10000 a.ramp old.ramp }

/-- A value of CHANNEL SET is clamped. -/
def channelSetAdjusts (a : ChannelSetArgs) : Bool :=
  clamps 0 20000 a.alloc || clamps 0 20000 a.inrush || clamps 0 3 a.tier || clamps 0 60000 a.warn ||
    clamps 100 10000 a.ramp

/-- The stored settings of a channel as result fields. -/
def chanCfgFields (g : ChanCfg) : List Field :=
  [fYes "cfg" g.configured, fNum "alloc" g.alloc, fNum "inrush" g.inrush, fNum "tier" g.tier.val,
    fNum "warn" g.warn, fNum "ramp" g.ramp]

/-- Accepted channel settings are stored and take effect (R23, R17, R124). -/
def storeChanCfg (c : Ch) (g : ChanCfg) (s : State) : State :=
  let old := s.chCfg c
  let s := s.modCfg fun w => { w with chan := w.chan.set c g }
  let s := if g.alloc = old.alloc then s else markEval s
  let s := if g.tier = 0 then clearShed c s else s
  if old.configured = false ∧ g.configured = true ∧ (s.ch c).state = .off ∧ (s.ch c).shed = true then markRestore s
  else s

/-- CHANNEL SET (R23). That ADJUSTED carries all six settings of the channel is the model's choice (log 50), and when such a
command is answered OK is log 37. -/
def doChannelSet (ch : Option Int) (a : ChannelSetArgs) (s : State) : State × Reply :=
  if a = {} then refuse .syntaxError s
  else
    withIndex 24 ch s fun c =>
      let old := s.chCfg c
      let g := applyChannelSet a old
      let st := (s.ch c).state
      if a.cfg = some false ∧ (st = .pending ∨ st = .ramping ∨ st = .on ∨ st = .warning) then refuse .state s
      else if (st = .ramping ∨ st = .on ∨ st = .warning) ∧ old.alloc < g.alloc ∧
          s.budget.figs.h < (g.alloc : Int) - (old.alloc : Int) then refuse .budget s
      else (storeChanCfg c g s, setReplyBare (channelSetAdjusts a) (chanCfgFields g))

/-- CHANNEL READ (R24). The keywords and the words YES and NO of the two levels, pg=YES for power-good present and tf=YES
for tray fault asserted, are the model's (log 24). -/
def doChannelRead (ch : Option Int) (s : State) : State × Reply :=
  withIndex 24 ch s fun c =>
    let r := s.ch c
    (s, okWith (fWord "state" r.state.word :: chanCfgFields (s.chCfg c) ++
      fOpt "adm" r.admitted ++
      [fNum "draw" r.draw, fNum "fig" (budgetFigure s c), fYes "pg" r.powerGood, fYes "tf" r.trayFault,
        fYes "shed" r.shed, fSet "hold" r.holds, fYes "ovr" r.override, fWord "fault" r.fault.word,
        fStamp "since" r.since] ++
      fLeft "tl" s (r.ramp <|> r.warn) ++ fLeft "sc" s r.confirm))

/-- RESTORE (R125). -/
def doRestore (tier : Option TierArg) (s : State) : State × Reply :=
  let place := fun (l : List Ch) => (forEach l placeRestore s, okWith [fSet "joined" l])
  match tier with
  | none => refuse .syntaxError s
  | some .all => if s.source.state = .grid then place (eligibleInOrder s) else refuse .source s
  | some (.tier x) =>
    match index? 4 x with
    | none => refuse .range s
    | some t => if s.source.state = .grid then place (eligibleOfTier s t.val) else refuse .source s

end Sys2Proof.Machine
end

