-- ==== Sys2Proof/Machine/Source.lean ====
section
/-! DEFINITION. Ride-through (Chapter 5): input loss and return, the source transitions and the ride evaluation. -/

namespace Sys2Proof.Machine

/-- The code of a source state (Table 5-2). -/
def SrcState.code : SrcState → Nat
  | .grid => 0
  | .ride => 1
  | .qualify => 2
  | .handback => 3
  | .down => 4

/-! ### The source state and its set-points (R95) -/

/-- The discharge set-points follow the source state: PERMIT in RIDE and HANDBACK (R95). -/
def dischargeOf : SrcState → Bool
  | .ride | .handback => true
  | .grid | .qualify | .down => false

/-- Set every battery slot's discharge set-point and every rectifier slot's walk-in set-point (R95). -/
def setSetPoints (discharge : Bool) (walk : Option Nat) (s : State) : State :=
  s.modShelf fun h =>
    { h with rect := Vector.ofFn fun n => { h.rect[n] with walkIn := walk }
             batt := Vector.ofFn fun n => { h.batt[n] with discharge := discharge } }

/-- The source state changes: since is stamped, set-points follow, charge-first does not hold outside GRID (R118),
and the change is handed to the Budget Unit (R95). The walk-in set-points are absent outside HANDBACK. -/
def enterSource (st : SrcState) (origin : Option ReturnFrom) (s : State) : State :=
  let s := s.modSource fun x =>
    { x with state := st, origin := origin, since := s.now, qualify := none, walkIn := none
             chargeFirst := if st = .grid then x.chargeFirst else false }
  markRestore (markEval (setSetPoints (dischargeOf st)
    (if st = .handback then some s.cfg.ride.walk else none) s))

/-- RIDE END (R102, R104, R108): the ladder level, how the ride ended, and the time since outage start. -/
def raiseRideEnd (level code : Nat) (s : State) : State :=
  raise .rideEnd (some level) (some code) (some (s.age s.source.outage)) s

/-! ### Input loss and return (R96, R97) -/

/-- At least one rectifier is ONLINE or DERATED with input good. -/
def anyCounted (s : State) : Bool := allRm.any fun n => s.shelf.rect[n].counted

/-- Input loss holds (R96). -/
def inputLoss (s : State) : Bool := s.shelf.busLow || !anyCounted s

/-- Input return holds (R97). -/
def inputReturn (s : State) : Bool :=
  !s.shelf.busLow && anyCounted s && decide (s.budget.figs.com ≤ s.budget.figs.firm)

/-- The ground of a loss: 1 bus, 2 rectifiers, 3 both (R98). -/
def lossGround (s : State) : Nat :=
  if s.shelf.busLow then (if anyCounted s then 1 else 3) else 2

/-- RIDE BEGIN with the code of the state left, one RIDE ENTRIES event, and a ride evaluation (R98, R99). -/
def beginRide (left : SrcState) (s : State) : State :=
  markRide (count .rideEntries (raise .rideBegin none (some left.code) (some (lossGround s)) s))

/-- Input loss in GRID (R98). R95 leaves open in which order the neighbours are told. That the Sequence Engine is told
before the Budget Unit empties the queue is the model's choice, with the example of 03, 3.6 (PLAN PAUSED there counts the
member still outstanding); an entry that so becomes the head may raise ADMISSION LATE before it is removed (log 40). That a step of a DOWN run which
the emptied queue completes (R57) is carried through behind RIDE BEGIN is the model's choice too (log 48). -/
def rideFromGrid (s : State) : State :=
  let s := enterSource .ride none s
  let s := s.modSource fun x => { x with outage := s.now }
  beginRide .grid (emptyQueue (planLeftGrid s))

/-- Input loss is tested (R96). -/
def testLoss (s : State) : State :=
  if inputLoss s then
    match s.source.state, s.source.origin with
    | .grid, _ => rideFromGrid s
    | .qualify, some .ride => beginRide .qualify (enterSource .ride none s)
    | .handback, some .ride => beginRide .handback (enterSource .ride none s)
    | .qualify, some .down => enterSource .down none s
    | .handback, some .down => enterSource .down none s
    | .qualify, none => s
    | .handback, none => s
    | .ride, _ => s
    | .down, _ => s
  else s

/-- An UP run paused by the source is resumed at an entry into GRID (R65). -/
def resumesAtGrid (s : State) : Bool :=
  match s.run with
  | some r => r.kind == .up && r.state == .paused && r.pauseCause == some .source
  | none => false

/-- The walk-in has ended and the rack enters GRID (R102): the ladder is re-armed, charge-first is decided before
the hand-over (R118), the run is told (R65), RIDE END is raised, auto-restore looks with an empty restore-placed
set (R124), and after an outage with origin DOWN an UP run is asked for when all this has been carried through (R126);
an UP run that this entry resumes stands against it however soon it ends (R68, log 15). The run is told before RIDE END is
raised and its step is carried through after: that the reports of that step join the queues behind RIDE END is the
model's choice (log 48). -/
def enterGrid (s : State) : State :=
  let level := s.source.level
  let origin := s.source.origin
  let s := enterSource .grid none s
  let s := s.modSource fun x => { x with level := 0, reserveTaken := false, placed := [] }
  let s := s.modSource fun x => { x with chargeFirst := chargeFirstNow s }
  let ask := s.cfg.charge.autoUp && decide (origin = some ReturnFrom.down) && !resumesAtGrid s
  let s := planEnteredGrid s
  let s := raiseRideEnd level (if origin = some .down then 3 else 0) s
  s.modWork fun w => { w with autoUp := ask }

/-- The qualify timer has expired: HANDBACK (R101). A walk-in time of 0 expires at once. -/
def enterHandback (s : State) : State :=
  let s := enterSource .handback s.source.origin s
  if s.cfg.ride.walk = 0 then enterGrid s
  else s.modSource fun x => { x with walkIn := some (s.timer s.cfg.ride.walk) }

/-- Input return in RIDE or DOWN: QUALIFY (R100). A qualify time of 0 expires at once. -/
def enterQualify (o : ReturnFrom) (s : State) : State :=
  let s := enterSource .qualify (some o) s
  if s.cfg.ride.qual = 0 then enterHandback s
  else s.modSource fun x => { x with qualify := some (s.timer s.cfg.ride.qual) }

/-- Input return is tested (R97). -/
def testReturn (s : State) : State :=
  if inputReturn s then
    match s.source.state with
    | .ride => enterQualify .ride s
    | .down => enterQualify .down s
    | .grid | .qualify | .handback => s
  else s

/-- The qualify timer expires (R101). -/
def takeQualifyExpiry (s : State) : State :=
  if s.source.qualify.isSome ∧ s.source.state = .qualify then enterHandback s else s

/-- The walk-in timer expires (R102). -/
def takeWalkInExpiry (s : State) : State :=
  if s.source.walkIn.isSome ∧ s.source.state = .handback then enterGrid s else s

/-- Every channel is OFF or FAULTED. -/
def allOff (s : State) : Bool :=
  allCh.all fun c => (s.ch c).state == .off || (s.ch c).state == .faulted

/-- After the reserve action, with every channel OFF or FAULTED, the rack goes DOWN (R104). -/
def testAllOff (s : State) : State :=
  if s.source.state = .ride ∧ s.source.reserveTaken = true ∧ allOff s = true then
    raiseRideEnd s.source.level 1 (enterSource .down none s)
  else s

/-! ### The ride evaluation (R107 to R112) -/

/-- The channels that are RAMPING, ON or WARNING, in ascending index. -/
def liveChans (s : State) : List Ch := allCh.filter fun c => (s.ch c).enabled

/-- The depletion cut (R108). -/
def deplete (s : State) : State :=
  let l := liveChans s
  let e := energyTotal s
  let s := forEach l (cut .source) s
  let s := raise .depleted none (some e) (some l.length) s
  raiseRideEnd s.source.level 2 (enterSource .down none s)

/-- What a channel draws with the tiers of a ladder level shed: nothing when WARNING, or RAMPING or ON in a tier
from 4 − level to 3 (R109). -/
def drawAfter (s : State) (level : Nat) (c : Ch) : Nat :=
  match (s.ch c).state with
  | .warning => 0
  | .ramping | .on => if 4 ≤ (s.chCfg c).tier.val + level then 0 else (s.ch c).draw
  | .off | .pending | .faulted => (s.ch c).draw

/-- The candidate load P_after(level) (R109). -/
def candidate (s : State) (level : Nat) : Nat := (allCh.map (drawAfter s level)).sum

/-- A level's candidate can be delivered and holds for the target (R110). -/
def levelHolds (s : State) (level : Nat) : Bool :=
  decide (candidate s level ≤ dischargeTotal s) && decide (s.cfg.ride.target ≤ holdTime s (candidate s level))

/-- The new ladder level: the smallest from the present level up that holds, else 3 (R110). -/
def chooseLevel (s : State) : Nat :=
  ([0, 1, 2, 3].find? fun l => decide (s.source.level ≤ l) && levelHolds s l).getD 3

/-- The RAMPING or ON channels of a tier are stopped with cause LADDER, and SHED is raised for a tier newly
included or with a channel stopped (R110). -/
def shedLadderTier (old new : Nat) (t : Nat) (s : State) : State :=
  if 4 ≤ t + new then
    let l := tierLive s t
    let s := forEach l (fun c s => count .channelsShed (gracefulStop .ladder c s)) s
    if t + old < 4 ∨ !l.isEmpty then raise .shed (some new) (some t) (some l.length) s else s
  else s

/-- The ladder stage (R109, R110) and the predicted hold time (R111). -/
def ladder (s : State) : State :=
  let old := s.source.level
  let new := chooseLevel s
  let cand : Vector (Option Nat) 4 :=
    Vector.ofFn fun l => if old ≤ l.val then some (candidate s l.val) else none
  let hold := holdTime s (candidate s new)
  let s := s.modSource fun x => { x with level := new, cand := cand, hold := some hold }
  forEach [3, 2, 1] (shedLadderTier old new) s

/-- The final reserve stage (R112). -/
def reserveStage (s : State) : State :=
  if s.source.reserveTaken = false ∧ s.source.hold.getD 0 ≤ s.cfg.ride.reserve then
    let s := s.modSource fun x => { x with reserveTaken := true }
    let s := raise .reserveReached (s.cfg.down.map Fin.val) (some (s.source.hold.getD 0)) (some s.source.level) s
    let s := reserveRequest s.cfg.down s
    match s.cfg.down with
    | some _ => s
    | none => forEach (liveChans s) (cut .source) s
  else s

/-- A ride evaluation, in RIDE (R107). That the entry step of a DOWN run which the reserve starts is executed after
the all-off test (R104), so that RIDE END can stand before that run's own reports, is the model's choice (log 49). -/
def rideEvaluation (s : State) : State :=
  if s.source.state = .ride then
    let s := s.modSource fun x => { x with lastEval := some s.now }
    if (allBm.any fun n => s.shelf.batt[n].available) = false ∨ energyTotal s = 0 then deplete s
    else testAllOff (reserveStage (ladder s))
  else s

end Sys2Proof.Machine
end

