-- ==== Sys2Proof/Machine/LeakResponse.lean ====
section
/-! DEFINITION. Leak response and coolant valves (Chapter 8): holds, stops, valve demands and movements, the capture,
the override sequence. -/

namespace Sys2Proof.Machine

/-! ### Valves (R160 to R162) -/

/-- The code of a valve state (R160). -/
def ValveState.code : ValveState → Nat
  | .opened => 0
  | .closing => 1
  | .closed => 2
  | .opening => 3
  | .fault => 4

/-- The contact levels as a report value: 0 neither, 1 closed, 2 open, 3 both (R162). -/
def Valve.contacts (v : Valve) : Nat := (if v.closedContact then 1 else 0) + (if v.openContact then 2 else 0)

/-- The demand is non-empty (R160). -/
def Valve.demanded (v : Valve) : Bool := !v.zones.isEmpty || v.hostClose

/-- A valve enters a state other than FAULT: VALVE MOVED (R160). -/
def moveValve (n : ValveIx) (st : ValveState) (t : Option Timer) (s : State) : State :=
  let old := s.resp.valve[n].state
  raise .valveMoved (some n.val) (some st.code) (some old.code)
    (s.modValve n fun v => { v with state := st, travel := t })

/-- A valve enters CLOSING with a fresh travel timer; a present closed contact takes it on to CLOSED (R161). -/
def driveClosed (n : ValveIx) (s : State) : State :=
  let s := moveValve n .closing (some (s.timer s.cfg.travel)) s
  if s.resp.valve[n].closedContact then moveValve n .closed none s else s

/-- A valve enters OPENING with a fresh travel timer; a present open contact takes it on to OPEN (R161). -/
def driveOpen (n : ValveIx) (s : State) : State :=
  let s := moveValve n .opening (some (s.timer s.cfg.travel)) s
  if s.resp.valve[n].openContact then moveValve n .opened none s else s

/-- A zone joins a valve's demand set (R161). -/
def joinDemand (z : Zone) (n : ValveIx) (s : State) : State :=
  let st := s.resp.valve[n].state
  if s.resp.valve[n].zones.contains z then s
  else
    let s := s.modValve n fun v => { v with zones := setInsert z v.zones }
    match st with
    | .opened | .opening => driveClosed n s
    | .closing | .closed | .fault => s

/-- A confirm contact becomes present (R162). -/
def takeContact (n : ValveIx) (e : ValveEnd) (s : State) : State :=
  match e with
  | .closed =>
    let s := s.modValve n fun v => { v with closedContact := true }
    if s.resp.valve[n].state = .closing then moveValve n .closed none s else s
  | .opened =>
    let s := s.modValve n fun v => { v with openContact := true }
    if s.resp.valve[n].state = .opening then moveValve n .opened none s else s

/-- A confirm contact becomes absent (R162). -/
def dropContact (n : ValveIx) (e : ValveEnd) (s : State) : State :=
  match e with
  | .closed => s.modValve n fun v => { v with closedContact := false }
  | .opened => s.modValve n fun v => { v with openContact := false }

/-- A valve enters FAULT: VALVE FAULT with its cause (R162, R168). -/
def faultValve (n : ValveIx) (cause : Nat) (s : State) : State :=
  let s := s.modValve n fun v => { v with state := .fault, travel := none }
  raise .valveFault (some n.val) (some cause) (some s.resp.valve[n].contacts) s

/-- The travel timer of a moving valve expires (R162). -/
def takeTravelExpiry (n : ValveIx) (s : State) : State :=
  if s.resp.valve[n].travel.isSome then
    match s.resp.valve[n].state with
    | .closing => faultValve n 1 s
    | .opening => faultValve n 2 s
    | .opened | .closed | .fault => s
  else s

/-! ### The first-fault capture (R165) -/

/-- A zone's latch is captured when the capture is empty, and counted otherwise (R165). -/
def captureEntry (z : Zone) (cause : LeakCause) (s : State) : State :=
  match s.resp.capture with
  | some c => s.modResp fun r => { r with capture := some { c with later := satInc 255 c.later } }
  | none =>
    let rec' := s.zones[z]
    let c : Capture :=
      { zone := z, cause := cause
        matched := match cause with
          | .wet => rec'.matched
          | .cable => []
        history := rec'.history, stamp := s.now, source := s.source.state
        enabled := allCh.filter (enableLine s), load := loadNow s, later := 0 }
    s.modResp fun r => { r with capture := some c }

/-- An entry into ESCALATED is counted while the capture is valid (R165). -/
def countLaterAlarm (s : State) : State :=
  s.modResp fun r => { r with capture := r.capture.map fun c => { c with later := satInc 255 c.later } }

/-! ### Holds (R150 to R153) -/

/-- A zone joins a channel's hold set; a join clears the override mark (R151). -/
def joinHold (z : Zone) (c : Ch) (s : State) : State :=
  if (s.ch c).holds.contains z then s
  else s.modCh c fun r => { r with holds := setInsert z r.holds, override := false }

/-- A leak stop or cut reaches a channel that carries no override mark (R150, R152). -/
def leakStop (stop : Ch → State → State) (c : Ch) (s : State) : State :=
  if (s.ch c).override then s else stop c s

/-- The response of a zone's entry into WET, or into CABLE FAULT under TREAT WET (R150). -/
def applyResponse (z : Zone) (cause : LeakCause) (s : State) : State :=
  let e := s.cfg.resp[z]
  let s := captureEntry z cause s
  let s := match e.action with
    | .report => s
    | .isolate => forEach e.chans (leakStop (gracefulStop .leak)) (forEach e.chans (joinHold z) s)
    | .cut => forEach e.chans (leakStop (cut .leak)) (forEach e.chans (joinHold z) s)
  match e.valve with
  | some v => joinDemand z v s
  | none => s

/-- The override mark of a channel is set to no. -/
def clearOverride (c : Ch) (s : State) : State := s.modCh c fun r => { r with override := false }

/-- The escalation action of a zone's entry into ESCALATED (R152). -/
def applyEscalation (z : Zone) (s : State) : State :=
  let e := s.cfg.resp[z]
  let s := countLaterAlarm s
  let s := match e.esc with
    | .nothing => s
    | .isolateNoncritical =>
      let l := allCh.filter fun c => decide ((s.chCfg c).tier ≠ 0)
      forEach l (leakStop (gracefulStop .leak)) (forEach l (joinHold z) s)
    | .cutAll =>
      forEach allCh (cut .leak) (forEach allCh clearOverride (forEach allCh (joinHold z) s))
  if e.closeAll then forEach allValves (joinDemand z) s else s

/-- A channel loses a zone from its hold set; one left OFF with a shed mark and no hold lets auto-restore look
(R153, R124). -/
def leaveHold (z : Zone) (c : Ch) (s : State) : State :=
  if (s.ch c).holds.contains z then
    let s := s.modCh c fun r => { r with holds := setErase z r.holds }
    if (s.ch c).holds.isEmpty ∧ (s.ch c).state = .off ∧ (s.ch c).shed = true then markRestore s else s
  else s

/-- A valve loses a zone from its demand set and keeps its state (R161). -/
def leaveDemand (z : Zone) (v : ValveIx) (s : State) : State :=
  s.modValve v fun x => { x with zones := setErase z x.zones }

/-- A cleared zone leaves every hold set and every demand set (R153). -/
def releaseZone (z : Zone) (s : State) : State :=
  forEach allValves (leaveDemand z) (forEach allCh (leaveHold z) s)

/-! ### The override sequence (R155 to R157) -/

/-- A live sequence of a port is cancelled (R156). -/
def cancelOverride (p : Port) (s : State) : State :=
  match s.resp.seq with
  | some q => if q.port = p then s.modResp fun r => { r with seq := none } else s
  | none => s

/-- The window timer expires (R156). -/
def takeWindowExpiry (s : State) : State := s.modResp fun r => { r with seq := none }

/-- Tests 1 to 4 of R155 on a channel. -/
def overrideTest (s : State) (c : Ch) : Option Code :=
  if s.resp.lockout then some .locked
  else if (s.ch c).state ≠ .off then some .state
  else if (s.ch c).holds.isEmpty then some .state
  else if (s.ch c).holds.any fun z => s.zones[z].state == .escalated then some .state
  else none

end Sys2Proof.Machine
end

