-- ==== Sys2Proof/Machine/Leak.lean ====
section
/-! DEFINITION. Leak detection (Chapter 7): classification, history, patterns and zone states. -/

namespace Sys2Proof.Machine

/-- The code of a zone state (R132). -/
def ZoneState.code : ZoneState → Nat
  | .off => 0
  | .watch => 1
  | .wet => 2
  | .escalated => 3
  | .cableFault => 4

/-- A set of patterns as a report value: QP0 counts 1, QP1 2, QP2 4, QP3 8 (R132). -/
def patsNum (l : List PatIx) : Nat := (l.map fun p => 2 ^ p.val).sum

/-- The class of a reading (R134). -/
def classify (z : ZoneCfg) (reading : Nat) : LoopClass :=
  if z.openLevel ≤ reading then .cable else if reading ≤ z.wet then .wet else .dry

/-- A class enters a history of at most 16 at position 0 (R135). -/
def pushHistory (w : Wetness) (h : List Wetness) : List Wetness := (w :: h).take 16

/-- The history and the consecutive cable count after a sample (R135). -/
def takeClass (r : ZoneRec) (c : LoopClass) : ZoneRec :=
  let latched := r.state == .wet || r.state == .escalated
  match c with
  | .wet => { r with cls := some c, history := pushHistory .wet r.history, cable := 0 }
  | .dry => { r with cls := some c, history := pushHistory .dry r.history, cable := 0 }
  | .cable => { r with cls := some c, cable := satInc 255 r.cable
                       history := if latched then r.history else pushHistory .dry r.history }

/-- A selected position is held in the history and holds the required class (R137). -/
def positionHolds (h : List Wetness) (p : Fin 16 × Wetness) : Bool := h[p.1.val]? == some p.2

/-- A pattern matches a history, apart from being applicable (R137). -/
def Pattern.holds (p : Pattern) (h : List Wetness) : Bool :=
  p.enabled && !p.sel.isEmpty && decide (p.min ≤ h.length) && p.sel.all (positionHolds h)

/-- The applicable patterns that match a zone now (R137). -/
def matching (s : State) (z : Zone) : List PatIx :=
  allPats.filter fun p => (s.cfg.zone[z].pats.contains p) && s.cfg.pats[p].holds s.zones[z].history

/-- A zone enters WET (R138): the record; its hand-over and report follow in `latchZone`. -/
def enterWet (z : Zone) (s : State) : State :=
  let m := matching s z
  let esc := s.cfg.zone[z].esc
  s.modZone z fun r => { r with state := .wet, matched := m, wetSince := some s.now
                                esc := if esc = 0 then none else some (s.timer esc) }

/-- A zone enters CABLE FAULT and reports it (R139); under TREAT WET its hand-over follows in `latchZone`. -/
def enterCableFault (z : Zone) (s : State) : State :=
  let s := s.modZone z fun r => { r with state := .cableFault, wetSince := some s.now }
  raise .zoneCableFault (some z.val)
    (some (match s.cfg.zone[z].cpol with | .report => 0 | .treatWet => 1)) s.zones[z].reading s

/-- A WATCH zone judges its patterns and then its cable count (R138, R139): the state, and what is handed over. -/
def judgeWatch (z : Zone) (s : State) : State × Option LeakCause :=
  if (matching s z).isEmpty then
    if s.zones[z].cls = some .cable ∧ s.cfg.zone[z].cnt ≤ s.zones[z].cable then
      (enterCableFault z s, match s.cfg.zone[z].cpol with | .report => none | .treatWet => some .cable)
    else (s, none)
  else (enterWet z s, some .wet)

/-- A zone takes its reading of a scan (R133 to R141): the state, and what is handed to the Leak Response Unit. -/
def sampleZone (z : Zone) (reading : Nat) (s : State) : State × Option LeakCause :=
  let s := s.modZone z fun r => { r with reading := some reading }
  if s.zones[z].state = .off then (s, none)
  else
    let c := classify s.cfg.zone[z] reading
    let s := s.modZone z fun r => takeClass r c
    let s := if c = .wet then count .leakWetSamples s else s
    match s.zones[z].state with
    | .watch => judgeWatch z s
    | .cableFault =>
      match s.cfg.zone[z].cpol with
      | .treatWet => (s, none)
      | .report =>
        if c = .cable then (s, none)
        else judgeWatch z (s.modZone z fun r => { r with state := .watch, wetSince := none })
    | .wet | .escalated | .off => (s, none)

/-- All zones take their readings, in index order; zones touch separate records (R133). The zones that latch are
collected with their causes. That the ZONE CABLE FAULT reports of one scan join the queues in index order, and before
the reports of the responses, is the model's choice (log 44). -/
def sampleAll (readings : Vector Nat 16) (s : State) : State × List (Zone × LeakCause) :=
  allZones.foldl (fun x z =>
    let y := sampleZone z readings[z] x.1
    match y.2 with
    | some c => (y.1, x.2 ++ [(z, c)])
    | none => (y.1, x.2)) (s, [])

/-- The order in which zones that latch at one scan are taken: as they stand when there is one, and by a free rank
when there are more (R138, R150, log 12). -/
def latchOrder (n : Nat) (l : List (Zone × LeakCause)) : List (Zone × LeakCause) :=
  match l with
  | [] => []
  | [x] => [x]
  | l => l.insertionSort fun a b => Config.zoneRank n a.1 ≤ Config.zoneRank n b.1

/-- A latched zone is handed over: its response is applied, and LEAK WET is raised for WET (R138, R139, R150). -/
def latchZone (x : Zone × LeakCause) (s : State) : State :=
  let s := applyResponse x.1 x.2 s
  match x.2 with
  | .wet => raise .leakWet (some x.1.val) (some (patsNum s.zones[x.1].matched)) s.zones[x.1].reading s
  | .cable => s

/-- A leak scan (R133): the scan timer restarts, readings are stored and judged, latched zones are handed over. -/
def takeLeakScan (readings : Vector Nat 16) (s : State) : State :=
  let s := s.setScan (some (s.timer s.cfg.scanPeriod))
  let x := sampleAll readings s
  let l := latchOrder x.1.orders x.2
  let s := if 2 ≤ x.2.length then { x.1 with orders := x.1.orders + 1 } else x.1
  forEach l latchZone s

/-- The escalation timer of a WET zone expires (R140). -/
def takeEscalation (z : Zone) (s : State) : State :=
  if s.zones[z].esc.isSome ∧ s.zones[z].state = .wet then
    let s := s.modZone z fun r => { r with state := .escalated, esc := none }
    let s := applyEscalation z s
    raise .leakEscalated (some z.val)
      (some (match s.zones[z].wetSince with | some t => s.age t | none => 0))
      (some (patsNum s.zones[z].matched)) s
  else s

/-- LEAK CLEAR has been taken: the zone enters WATCH and is released (R142, R153). -/
def clearZone (z : Zone) (s : State) : State :=
  releaseZone z (s.modZone z fun r =>
    { r with state := .watch, esc := none, matched := [], wetSince := none })

/-- A zone is enabled (R143): OFF enters WATCH with an empty history. -/
def enableZone (z : Zone) (s : State) : State :=
  if s.zones[z].state = .off then
    s.modZone z fun r => { r with state := .watch, history := [], cable := 0, cls := none }
  else s

/-- A zone is disabled (R143), where that is not refused. -/
def disableZone (z : Zone) (s : State) : State :=
  match s.zones[z].state with
  | .watch => s.modZone z fun r => { r with state := .off }
  | .cableFault => s.modZone z fun r => { r with state := .off, wetSince := none }
  | .off | .wet | .escalated => s

/-- Disabling a zone is refused while it is latched (R143). -/
def zoneLatched (s : State) (z : Zone) : Bool :=
  match s.zones[z].state with
  | .wet | .escalated => true
  | .cableFault => s.cfg.zone[z].cpol == .treatWet
  | .off | .watch => false

end Sys2Proof.Machine
end

