-- ==== Sys2Proof/Machine/LeakCmds.lean ====
section
/-! DEFINITION. The zone and pattern commands (07, 7.5 and 7.7), as each is taken by the Leak Monitor. -/

namespace Sys2Proof.Machine

/-! ### LEAK CLEAR (R142) -/

/-- LEAK CLEAR refused on its zone: the matching patterns stand in mat= (R142), in ascending order by the
model's choice (log 52). -/
def refuseClear (c : Code) (mat : List PatIx) (s : State) : State × Reply :=
  (s, { status := .err c, fields := [fSet "mat" mat] })

/-- LEAK CLEAR (R142). A refusal for the last class answers NONE in mat=, one by another of the three tests the patterns
that match now. That a refusal for a missing zone= or one above 15 carries no mat= is the model's choice (log 51). -/
def doLeakClear (zone : Option Int) (s : State) : State × Reply :=
  withIndex 16 zone s fun z =>
    let r := s.zones[z]
    if r.state = .off ∨ r.state = .watch then refuseClear .state (matching s z) s
    else if r.cls ≠ some .dry then refuseClear .notDry [] s
    else
      match matching s z with
      | [] => (clearZone z s, okWith [fWord "state" "WATCH"])
      | l => refuseClear .notDry l s

/-! ### ZONE SET (R143, R144) -/

/-- The arguments of ZONE SET that belong to a zone are all absent. -/
def noZoneArgs (a : ZoneArgs) : Bool :=
  a.en.isNone && a.wet.isNone && a.openLevel.isNone && a.pats.isNone && a.cpol.isNone && a.esc.isNone && a.cnt.isNone

/-- The form of ZONE SET is refused with SYNTAX (R144, test 1). -/
def zoneSetMalformed (a : ZoneArgs) : Bool :=
  (a.zone.isNone && (!noZoneArgs a || a.scan.isNone)) ||
  (match a.pats with
    | some l => !decide l.Nodup
    | none => false)

/-- The zone settings after ZONE SET, numbers clamped to their ranges (R144). -/
def applyZone (a : ZoneArgs) (pats : List PatIx) (old : ZoneCfg) : ZoneCfg :=
  { enabled := a.en.getD old.enabled
    wet := numArg 0 4095 a.wet old.wet
    openLevel := numArg 0 4095 a.openLevel old.openLevel
    pats := match a.pats with
      | some _ => pats
      | none => old.pats
    cpol := a.cpol.getD old.cpol
    esc := numArg 0 600000 a.esc old.esc
    cnt := numArg 1 16 a.cnt old.cnt }

/-- A value of ZONE SET is clamped. -/
def zoneAdjusts (a : ZoneArgs) : Bool :=
  clamps 0 4095 a.wet || clamps 0 4095 a.openLevel || clamps 0 600000 a.esc || clamps 1 16 a.cnt ||
    clamps 20 1000 a.scan

/-- The scan period is stored (R144). -/
def storeScan (scan : Option Int) (s : State) : State :=
  s.modCfg fun w => { w with scanPeriod := numArg 20 1000 scan w.scanPeriod }

/-- Accepted zone settings are stored, and en= acts on the zone (R143, R144). -/
def storeZone (z : Zone) (g : ZoneCfg) (en : Option Bool) (s : State) : State :=
  let s := s.modCfg fun w => { w with zone := w.zone.set z g }
  match en with
  | some true => enableZone z s
  | some false => disableZone z s
  | none => s

/-- The settings of a zone as result fields (R144), pats= in ascending order (log 52). -/
def zoneCfgFields (g : ZoneCfg) : List Field :=
  [fYes "en" g.enabled, fNum "wet" g.wet, fNum "open" g.openLevel, fSet "pats" g.pats,
    fWord "cpol" (CablePolicy.word g.cpol), fNum "esc" g.esc, fNum "cnt" g.cnt]

/-- cpol= names a policy other than the present one while the zone is in CABLE FAULT (R144, test 5). -/
def cablePolicyLocked (s : State) (z : Zone) (cpol : Option CablePolicy) : Bool :=
  match cpol with
  | some p => s.zones[z].state == .cableFault && p != s.cfg.zone[z].cpol
  | none => false

/-- ZONE SET (R144). -/
def doZoneSet (a : ZoneArgs) (s : State) : State × Reply :=
  if zoneSetMalformed a then refuse .syntaxError s
  else
    match a.zone, indices? 4 (a.pats.getD []) with
    | none, _ =>
      let t := storeScan a.scan s
      (t, setReply (zoneAdjusts a) [fNum "scan" t.cfg.scanPeriod])
    | some _, none => refuse .range s
    | some _, some pats =>
      withIndex 16 a.zone s fun z =>
        let g := applyZone a (toSet pats) s.cfg.zone[z]
        if g.openLevel ≤ g.wet then refuse .range s
        else if a.en = some false ∧ zoneLatched s z = true then refuse .state s
        else if cablePolicyLocked s z a.cpol then refuse .state s
        else
          let t := storeZone z g a.en (storeScan a.scan s)
          (t, setReply (zoneAdjusts a) (zoneCfgFields g ++ [fNum "scan" t.cfg.scanPeriod]))

/-! ### PATTERN SET (R145) -/

/-- The form of PATTERN SET is refused with SYNTAX (R145). -/
def patternSetMalformed (a : PatternArgs) : Bool :=
  a.pat.isNone || (a.en.isNone && a.sel.isNone && a.min.isNone) ||
  (match a.sel with
    | some l => !decide (l.map Prod.fst).Nodup
    | none => false)

/-- A selection with every position in range. -/
def selection? (l : List (Int × Wetness)) : Option (List (Fin 16 × Wetness)) :=
  l.mapM fun p => (index? 16 p.1).map fun i => (i, p.2)

/-- The pattern after PATTERN SET (R145). -/
def applyPattern (a : PatternArgs) (sel : List (Fin 16 × Wetness)) (old : Pattern) : Pattern :=
  { enabled := a.en.getD old.enabled
    sel := match a.sel with
      | some _ => sel
      | none => old.sel
    min := numArg 1 16 a.min old.min }

/-- A pattern as result fields (R146). The order of sel=, as PATTERN SET wrote it, is the model's choice (log 52), and the
keywords are log 24. -/
def patternFields (p : Pattern) : List Field :=
  [fYes "en" p.enabled, ⟨"sel", .selection (p.sel.map fun x => (x.1.val, x.2))⟩, fNum "min" p.min]

/-- PATTERN SET (R145). -/
def doPatternSet (a : PatternArgs) (s : State) : State × Reply :=
  if patternSetMalformed a then refuse .syntaxError s
  else
    match selection? (a.sel.getD []) with
    | none => refuse .range s
    | some sel =>
      withIndex 4 a.pat s fun n =>
        let p := applyPattern a sel s.cfg.pats[n]
        (s.modCfg fun w => { w with pats := w.pats.set n p }, setReply (clamps 1 16 a.min) (patternFields p))

/-! ### ZONE READ (R146) -/

/-- A zone as ZONE READ returns it (R146). The ascending order of pats=, mset= and mat= is the model's choice (log 52). -/
def zoneFields (s : State) (z : Zone) : List Field :=
  let r := s.zones[z]
  [fWord "st" r.state.word] ++ zoneCfgFields s.cfg.zone[z] ++ fOpt "rd" r.reading ++
    (match r.cls with
      | some c => [fWord "cls" c.word]
      | none => []) ++
    [⟨"hist", .history r.history⟩, fNum "cnt" r.history.length, fNum "cab" r.cable, fSet "mset" r.matched] ++
    fOpt "since" (r.wetSince.map BitVec.toNat) ++ fLeft "et" s r.esc ++ [fSet "mat" (matching s z)]

/-- ZONE READ (R146). -/
def doZoneRead (zone pat : Option Int) (s : State) : State × Reply :=
  match zone, pat with
  | some _, some _ => refuse .syntaxError s
  | some _, none => withIndex 16 zone s fun z => (s, okWith (zoneFields s z))
  | none, some _ => withIndex 4 pat s fun n => (s, okWith (patternFields s.cfg.pats[n]))
  | none, none =>
    (s, okWith [fNums "st" (allZones.map fun z => s.zones[z].state.code), fNum "scan" s.cfg.scanPeriod])

end Sys2Proof.Machine
end

