-- ==== Sys2Proof/Machine/LinkCmds.lean ====
section
/-! DEFINITION. The link commands (09, 9.5 and 9.6), as each is taken by the Message Link Unit. -/

namespace Sys2Proof.Machine

/-- Entries leave the head of the port's queue and its lost count is cleared (R179). -/
def fetchEntries (p : Port) (n : Nat) (s : State) : State × Reply :=
  let q := (s.port p).queue
  (s.modPort p fun c => { c with queue := c.queue.drop n, lost := 0 },
    { status := .ok
      fields := [fNum "n" (q.take n).length, fNum "lost" (s.port p).lost, fNum "rem" (q.drop n).length]
      reports := q.take n })

/-- FETCH (R179). -/
def doFetch (p : Port) (n : Option Int) (s : State) : State × Reply :=
  match n with
  | none => fetchEntries p 8 s
  | some x => if 1 ≤ x ∧ x ≤ 8 then fetchEntries p x.toNat s else refuse .range s

/-- The route table after ROUTE SET (R181). -/
def applyRoutes (a : RouteArgs) (old : Routes) : Routes :=
  { channel := a.channel.getD old.channel
    budget := a.budget.getD old.budget
    plan := a.plan.getD old.plan
    shelf := a.shelf.getD old.shelf
    source := a.source.getD old.source
    leak := a.leak.getD old.leak
    valve := a.valve.getD old.valve
    system := a.system.getD old.system }

/-- The link settings as result fields (R181). -/
def routeFields (w : WorkCfg) : List Field :=
  [fWord "channel" (Route.word w.routes.channel), fWord "budget" (Route.word w.routes.budget),
    fWord "plan" (Route.word w.routes.plan), fWord "shelf" (Route.word w.routes.shelf),
    fWord "source" (Route.word w.routes.source), fWord "leak" (Route.word w.routes.leak),
    fWord "valve" (Route.word w.routes.valve), fWord "system" (Route.word w.routes.system), fOn "svc" w.svc]

/-- ROUTE SET (R181). -/
def doRouteSet (a : RouteArgs) (s : State) : State × Reply :=
  if a = {} then refuse .syntaxError s
  else
    let t := s.modCfg fun w => { w with routes := applyRoutes a w.routes, svc := a.svc.getD w.svc }
    (t, okWith (routeFields t.cfg))

/-- The groups whose flags are set, in order, as a result field (R180). -/
def flagField (s : State) : Field :=
  fWords "flg" ((allGroups.filter fun g => s.link.flags.of g).map Group.word)

/-- STATUS READ (R180). -/
def doStatusRead (s : State) : State × Reply :=
  let m := s.link.manager
  let v := s.link.service
  (s, okWith [flagField s, fNum "mq" m.queue.length, fNum "sq" v.queue.length, fNum "ma" (alarmsOf m.queue).length,
    fNum "sa" (alarmsOf v.queue).length, fNum "ml" m.lost, fNum "sl" v.lost, fNum "mr" m.rejected,
    fNum "sr" v.rejected, fNum "mb" m.buffer.length, fNum "sb" v.buffer.length, fOn "svc" s.cfg.svc])

/-- STATUS CLEAR (R180). -/
def doStatusClear (grp : Option GroupArg) (s : State) : State × Reply :=
  let clear := fun (l : List Group) =>
    let t := s.modLink fun k => { k with flags := l.foldl (fun f g => f.lower g) k.flags }
    (t, okWith [flagField t])
  match grp with
  | none => refuse .syntaxError s
  | some .all => clear allGroups
  | some (.groups l) => clear l

/-- PING (R182). -/
def doPing (p : Port) (s : State) : State × Reply := (s, okWith [fWord "port" (Port.word p)])

end Sys2Proof.Machine
end

