-- ==== Sys2Proof/Machine/Settle.lean ====
section
/-! DEFINITION. The hand-overs between blocks inside one command, carried through until none is left (R26, R33; log 10). -/

namespace Sys2Proof.Machine

/-- The Source Controller's tests at a hand-over of figures: all off after the reserve (R104), input return (R97),
charge-first (R118). No rule orders the first two, which can come to hold together; that the all-off test is made first
is the model's choice (log 42). -/
def sourceTests (s : State) : State := chargeFirstTest (testReturn (testAllOff s))

/-- The charge-first test would change the decision. -/
def testsAct (s : State) : Bool := chargeFirstNow s != s.source.chargeFirst

/-- An examination could act: the queue is not empty. -/
def examActs (s : State) : Bool := !s.budget.queue.isEmpty

/-- Figures wait for the charge-first test and for the queue, and both would act: the manual gives no order (R33). -/
def bothAct (s : State) : Bool := s.work.figs && s.work.exam && examActs s && testsAct s

/-- The figures go to the Source Controller before the queue is examined; where both would act a free choice
decides (log 11). -/
def figsFirst (s : State) : Bool := if bothAct s then Config.testsFirst s.orders else true

/-- A free choice is used up where one was taken. -/
def useOrder (s : State) : State := if bothAct s then { s with orders := s.orders + 1 } else s

/-- The next hand-over. The evaluation comes before all else, so that nothing reads figures of the inputs before; a
plan step that has completed or is due comes before a ride evaluation can abort the run (R54, R98); a ride evaluation
comes before the tests that could leave RIDE, so that each entry into RIDE gets its own (R99, R107). For a scan or a
battery sample in RIDE, where no rule orders the two, that is the model's choice (log 14). -/
def handOver (s : State) : State :=
  let w := s.work
  if w.eval then evaluate s
  else if w.plan ≠ .idle then planWork s
  else if w.ride then rideEvaluation (s.modWork fun w => { w with ride := false })
  else if w.figs = true ∧ figsFirst s = true then sourceTests ((useOrder s).modWork fun w => { w with figs := false })
  else if w.exam then examine ((useOrder s).modWork fun w => { w with exam := false })
  else if w.loss then testLoss (s.modWork fun w => { w with loss := false })
  else if w.grace then takeGraceExpiry (s.modWork fun w => { w with grace := false })
  else if w.restore then autoRestore (s.modWork fun w => { w with restore := false })
  else if w.autoUp then requestUpRun (s.modWork fun w => { w with autoUp := false })
  else s

/-- No hand-over waits. -/
def Work.settled (w : Work) : Bool := w == Work.none

/-- Hand-overs are carried through until none waits. What is left when the count runs out stays in `work` and goes
on at the next command (log 10). -/
def settleN : Nat → State → State
  | 0, s => s
  | n + 1, s => if s.work.settled then s else settleN n (handOver s)

/-- All hand-overs of one command. -/
def settle (s : State) : State := settleN Config.settleFuel s

end Sys2Proof.Machine
end

