-- ==== Sys2Proof/Machine/PlanCmds.lean ====
section
/-! DEFINITION. The plan commands (03, 3.5), as each is taken by the Sequence Engine. -/

namespace Sys2Proof.Machine

/-- A target as result fields. -/
def targetFields : Option Target → List Field
  | none => []
  | some (.chan c) => [fNum "ch" c.val]
  | some (.gang g) => [fNum "gang" g.val]

/-- A step record as result fields (R72). -/
def stepFields (p : PlanStep) : List Field :=
  [fWord "act" (StepAction.word p.action)] ++ targetFields p.target ++ [fNum "gap" p.gap, fYes "end" p.endMark]

/-- A step argument without step=. -/
def strayStepArg (a : PlanWriteArgs) : Bool :=
  a.step.isNone && (a.act.isSome || a.target.ch.isSome || a.target.gang.isSome || a.gap.isSome || a.endMark.isSome)

/-- The target arguments do not fit the action: START and STOP take exactly one, the others none (R71). -/
def targetMisfits (act : StepAction) (t : TargetArgs) : Bool :=
  match act with
  | .start | .stop => t.ch.isSome == t.gang.isSome
  | .delay | .awaitOn | .awaitGrid => t.ch.isSome || t.gang.isSome

/-- The form of PLAN WRITE is refused with SYNTAX (R71). -/
def planWriteMalformed (a : PlanWriteArgs) : Bool :=
  (a.step.isNone && a.up.isNone && a.down.isNone) || strayStepArg a ||
  (a.step.isSome && (match a.act with
    | none => true
    | some act => targetMisfits act a.target))

/-- An entry argument in range: a step index or NONE. -/
def entryArg? : IndexArg → Option (Option StepIx)
  | .absent => some none
  | .index n => (index? 48 n).map some

/-- An optional entry argument in range; an omitted one keeps the stored entry. -/
def entryOr (x : Option IndexArg) (old : Option StepIx) : Option (Option StepIx) :=
  match x with
  | none => some old
  | some x => entryArg? x

/-- The target that ch= or gang= names, in range; absent when neither is given. -/
def target? (t : TargetArgs) : Option (Option Target) :=
  match t.ch, t.gang with
  | some c, _ => (index? 24 c).map fun c => some (.chan c)
  | none, some g => (index? 6 g).map fun g => some (.gang g)
  | none, none => some none

/-- The step record that PLAN WRITE names, with every index in range (R71). -/
def stepRecord? (a : PlanWriteArgs) : Option (Option (StepIx × PlanStep)) :=
  match a.step, a.act with
  | some n, some act =>
    match index? 48 n, target? a.target with
    | some i, some t =>
      some (some (i, { action := act, target := t, gap := numArg 0 65535 a.gap 0, endMark := a.endMark.getD false }))
    | _, _ => none
  | _, _ => some none

/-- The record and the entries are stored (R71). -/
def storePlan (r : Option (StepIx × PlanStep)) (up down : Option StepIx) (s : State) : State :=
  s.modCfg fun w =>
    { w with up := up, down := down
             steps := match r with
               | some (i, p) => w.steps.set i p
               | none => w.steps }

/-- PLAN WRITE (R71). -/
def doPlanWrite (a : PlanWriteArgs) (s : State) : State × Reply :=
  if planWriteMalformed a then refuse .syntaxError s
  else
    match stepRecord? a, entryOr a.up s.cfg.up, entryOr a.down s.cfg.down with
    | some r, some up, some down =>
      match r with
      | some (i, p) =>
        if isProtected s i then refuse .state s
        else (storePlan r up down s, setReplyBare (clamps 0 65535 a.gap) (fNum "step" i.val :: stepFields p))
      | none => (storePlan r up down s, okReply)
    | _, _, _ => refuse .range s

/-- PLAN READ (R72). -/
def doPlanRead (step : Option Int) (s : State) : State × Reply :=
  match step with
  | some x =>
    match index? 48 x with
    | none => refuse .range s
    | some i =>
      (s, okWith (stepFields s.cfg.steps[i] ++ (if isProtected s i then [fYes "prot" true] else [])))
  | none =>
    let range := match s.run with
      | some r => if r.active then [fNum "pfrom" r.entry.val, fNum "pto" r.endStep.val] else []
      | none => []
    (s, okWith ([fOrNone "up" (s.cfg.up.map Fin.val), fOrNone "down" (s.cfg.down.map Fin.val)] ++ range))

/-- The entry for a kind of run. -/
def entryOf (s : State) : RunKind → Option StepIx
  | .up => s.cfg.up
  | .down => s.cfg.down

/-- PLAN START (R68). -/
def doPlanStart (kind : Option RunKind) (s : State) : State × Reply :=
  match kind with
  | none => refuse .syntaxError s
  | some k =>
    if runActive s then refuse .state s
    else
      match entryOf s k with
      | none => refuse .range s
      | some e =>
        if k = .up ∧ s.source.state ≠ .grid then refuse .source s
        else
          let last := endStepOf s e
          (startRun k e .host s,
            okWith [fNum "entry" e.val, fNum "end" last.val, fYes "unt" (!s.cfg.steps[last].endMark)])

/-- PLAN PAUSE (R70). -/
def doPlanPause (s : State) : State × Reply :=
  match s.run with
  | none => refuse .state s
  | some r =>
    match r.state with
    | .running | .waiting => (pauseRun .host s, okReply)
    | .paused => (s.modRun fun r => { r with pauseCause := some .host }, okReply)
    | .done | .aborted => refuse .state s

/-- The state of the run as a result field. -/
def runStateField (s : State) : Field :=
  match s.run with
  | some r => fWord "state" r.state.word
  | none => fWord "state" "IDLE"

/-- PLAN RESUME (R69). The step or gap is taken up, with all that follows, before the response is formed (log 25). -/
def doPlanResume (s : State) : State × Reply :=
  match s.run with
  | none => refuse .state s
  | some r =>
    if r.state ≠ .paused then refuse .state s
    else if r.kind = .up ∧ s.source.state ≠ .grid then refuse .source s
    else
      let t := settle (resumeRun s)
      (t, okWith [runStateField t])

/-- PLAN STOP (R67). -/
def doPlanStop (s : State) : State × Reply :=
  if runActive s then (abortRun 2 s, okReply) else refuse .state s

/-- The gap remaining as PLAN STATUS returns it (R73). -/
def gapFields (s : State) (r : Run) : List Field :=
  match r.gap with
  | some t => [fNum "gap" (s.left t)]
  | none => if r.state = .paused ∧ r.phase = .gap then [fNum "gap" r.gapLeft] else []

/-- PLAN STATUS (R73). -/
def doPlanStatus (s : State) : State × Reply :=
  match s.run with
  | none => (s, okWith [fWord "state" "IDLE"])
  | some r =>
    (s, okWith ([fWord "state" r.state.word, fWord "kind" (RunKind.word r.kind), fWord "org" r.origin.word,
        fNum "entry" r.entry.val, fNum "end" r.endStep.val, fYes "unt" r.unterminated, fNum "cur" r.cursor.val,
        fWord "phase" r.phase.word] ++
      (match r.pauseCause with
        | some c => [fWord "pcause" c.word]
        | none => []) ++
      gapFields s r ++
      [fSet "out" r.outstanding, fNum "done" r.done, fNum "adm" r.admitted, fNum "skip" r.skipped,
        fSet "aset" r.admittedSet, fStamp "start" r.startedAt]))

end Sys2Proof.Machine
end

