-- ==== Sys2Proof/Machine/RespCmds.lean ====
section
/-! DEFINITION. The leak response, override, valve and capture commands (08), as each is taken by the Leak Response
Unit. -/

namespace Sys2Proof.Machine

/-! ### RESPONSE SET (R154) -/

/-- The arguments of RESPONSE SET that belong to a zone are all absent. -/
def noEntryArgs (a : ResponseArgs) : Bool :=
  a.act.isNone && a.chs.isNone && a.valve.isNone && a.esc.isNone && a.vall.isNone

/-- The form of RESPONSE SET is refused with SYNTAX (R154). -/
def responseSetMalformed (a : ResponseArgs) : Bool :=
  (a.zone.isNone && (!noEntryArgs a || a.travel.isNone)) ||
  (match a.chs with
    | some l => !decide l.Nodup
    | none => false)

/-- The valve argument in range; an omitted one keeps the stored valve. -/
def valveOr (x : Option IndexArg) (old : Option ValveIx) : Option (Option ValveIx) :=
  match x with
  | none => some old
  | some .absent => some none
  | some (.index n) => (index? 4 n).map some

/-- The response entry after RESPONSE SET (R154). -/
def applyResp (a : ResponseArgs) (chs : List Ch) (valve : Option ValveIx) (old : RespEntry) : RespEntry :=
  { action := a.act.getD old.action
    chans := match a.chs with
      | some _ => chs
      | none => old.chans
    valve := valve
    esc := a.esc.getD old.esc
    closeAll := a.vall.getD old.closeAll }

/-- The valve travel timeout is stored (R154). -/
def storeTravel (travel : Option Int) (s : State) : State :=
  s.modCfg fun w => { w with travel := numArg 1000 60000 travel w.travel }

/-- A response entry as result fields (R154), chs= in ascending order (log 52). -/
def respFields (e : RespEntry) : List Field :=
  [fWord "act" (LeakAction.word e.action), fSet "chs" e.chans, fOrNone "valve" (e.valve.map Fin.val),
    fWord "esc" (EscAction.word e.esc), fYes "vall" e.closeAll]

/-- RESPONSE SET (R154). -/
def doResponseSet (a : ResponseArgs) (s : State) : State × Reply :=
  if responseSetMalformed a then refuse .syntaxError s
  else
    match a.zone, indices? 24 (a.chs.getD []) with
    | none, _ =>
      let t := storeTravel a.travel s
      (t, setReply (clamps 1000 60000 a.travel) [fNum "travel" t.cfg.travel])
    | some _, none => refuse .range s
    | some _, some chs =>
      withIndex 16 a.zone s fun z =>
        match valveOr a.valve s.cfg.resp[z].valve with
        | none => refuse .range s
        | some v =>
          let e := applyResp a (toSet chs) v s.cfg.resp[z]
          let t := (storeTravel a.travel s).modCfg fun w => { w with resp := w.resp.set z e }
          (t, setReply (clamps 1000 60000 a.travel) (respFields e ++ [fNum "travel" t.cfg.travel]))

/-! ### The override (R155 to R159) -/

/-- OVERRIDE PREPARE (R155). -/
def doOverridePrepare (p : Port) (ch : Option Int) (s : State) : State × Reply :=
  withIndex 24 ch s fun c =>
    match overrideTest s c with
    | some code => refuse code s
    | none =>
      (s.modResp fun r => { r with seq := some ⟨p, c, s.timer Config.overrideWindowMs⟩ },
        okWith [fNum "win" Config.overrideWindowMs])

/-- The override mark is set, and OVERRIDE APPLIED is raised (R157). -/
def applyOverride (p : Port) (c : Ch) (s : State) : State :=
  let s := s.modCh c fun r => { r with override := true }
  raise .overrideApplied (some c.val) (some (s.ch c).holds.length)
    (some (match p with | .manager => 0 | .service => 1)) s

/-- OVERRIDE COMMIT for a channel in range (R157). -/
def commitOverride (p : Port) (c : Ch) (s : State) : State × Reply :=
  match s.resp.seq with
  | none => refuse .sequence s
  | some q =>
    if q.port ≠ p then refuse .sequence s
    else
      let s := cancelOverride p s
      if q.chan ≠ c then refuse .sequence s
      else
        match overrideTest s c with
        | some code => refuse code s
        | none => (applyOverride p c s, okReply)

/-- OVERRIDE COMMIT (R157). A missing or wrong ch= cancels a live sequence on the port. -/
def doOverrideCommit (p : Port) (ch : Option Int) (s : State) : State × Reply :=
  match ch with
  | none => refuse .syntaxError (cancelOverride p s)
  | some x =>
    match index? 24 x with
    | none => refuse .range (cancelOverride p s)
    | some c => commitOverride p c s

/-- OVERRIDE LOCKOUT (R159). -/
def doOverrideLockout (s : State) : State × Reply := (s.modResp fun r => { r with lockout := true }, okReply)

/-! ### Valves (R163, R164) -/

/-- The valve's state as a result field. -/
def valveStateField (s : State) (v : ValveIx) : Field := fWord "st" s.resp.valve[v].state.word

/-- The host demands a valve closed (R163). -/
def closeByHost (v : ValveIx) (s : State) : State :=
  let s := s.modValve v fun x => { x with hostClose := true }
  match s.resp.valve[v].state with
  | .opened | .opening | .fault => driveClosed v s
  | .closing | .closed => s

/-- VALVE CLOSE (R163). -/
def doValveClose (cv : Option Int) (s : State) : State × Reply :=
  withIndex 4 cv s fun v =>
    let t := closeByHost v s
    (t, okWith [valveStateField t v])

/-- The host opens a valve that no zone demands (R163). -/
def openByHost (v : ValveIx) (s : State) : State :=
  let s := s.modValve v fun x => { x with hostClose := false }
  match s.resp.valve[v].state with
  | .closed | .fault | .closing => driveOpen v s
  | .opened | .opening => s

/-- VALVE OPEN (R163). -/
def doValveOpen (cv : Option Int) (s : State) : State × Reply :=
  withIndex 4 cv s fun v =>
    if s.resp.valve[v].zones.isEmpty then
      let t := openByHost v s
      (t, okWith [valveStateField t v])
    else refuse .state s

/-- A level as a word. -/
def levelWord (b : Bool) : String := if b then "ASSERTED" else "RELEASED"
/-- A contact level as a word. -/
def contactWord (b : Bool) : String := if b then "PRESENT" else "ABSENT"

/-- VALVE READ (R164). -/
def doValveRead (cv : Option Int) (s : State) : State × Reply :=
  match cv with
  | none =>
    (s, okWith [fNums "st" (allValves.map fun v => s.resp.valve[v].state.code), fNum "travel" s.cfg.travel])
  | some _ =>
    withIndex 4 cv s fun v =>
      let x := s.resp.valve[v]
      (s, okWith ([valveStateField s v, fSet "dem" x.zones, fYes "hc" x.hostClose,
        fWords "drv" [levelWord (closeDrive s v), levelWord (openDrive s v)],
        fWords "con" [contactWord x.closedContact, contactWord x.openContact]] ++ fLeft "tt" s x.travel))

/-! ### The capture (R166) -/

/-- The capture as result fields (R166). -/
def captureFields (s : State) : List Field :=
  match s.resp.capture with
  | none => [fYes "valid" false]
  | some c =>
    [fYes "valid" true, fNum "zone" c.zone.val, fWord "cause" c.cause.word, fSet "mset" c.matched,
      ⟨"hist", .history c.history⟩, fNum "cnt" c.history.length, fStamp "t" c.stamp, fWord "src" c.source.word,
      fSet "chs" c.enabled, fNum "pl" c.load, fNum "later" c.later]

/-- CAPTURE READ (R166). -/
def doCaptureRead (s : State) : State × Reply :=
  (s, okWith (captureFields s ++ [fYes "lock" s.resp.lockout]))

/-- CAPTURE CLEAR (R166). -/
def doCaptureClear (s : State) : State × Reply := (s.modResp fun r => { r with capture := none }, okReply)

end Sys2Proof.Machine
end

