-- ==== Sys2Proof/Machine/Shelf.lean ====
section
/-! DEFINITION. Shelf modules and bus monitoring (Chapter 4): the polling rotation, samples, misses and the bus monitor. -/

namespace Sys2Proof.Machine

/-! ### Codes and reports (R86) -/

/-- The code of a rectifier state (Table 4-7). -/
def RectState.code : RectState → Nat
  | .empty => 0
  | .disabled => 1
  | .faulted => 2
  | .starting => 3
  | .derated => 4
  | .online => 5
  | .lost => 6

/-- The code of a battery state (Table 4-7). -/
def BattState.code : BattState → Nat
  | .empty => 0
  | .standby => 1
  | .charging => 2
  | .discharging => 3
  | .faulted => 4
  | .depleted => 5
  | .lost => 6

/-- What a slot position names. -/
inductive Slot where
  | rect (n : RmSlot)
  | batt (n : BmSlot)
deriving DecidableEq, Repr

/-- RM0..RM7 are positions 0..7, BM0..BM5 are 8..13 (Chapter 4). -/
def slotOf (p : SlotPos) : Slot :=
  if h : p.val < 8 then .rect ⟨p.val, h⟩ else .batt ⟨p.val - 8, by omega⟩

/-- The position of a slot. -/
def Slot.pos : Slot → SlotPos
  | .rect n => ⟨n.val, by omega⟩
  | .batt n => ⟨n.val + 8, by omega⟩

/-- A slot enters a rectifier state: MODULE STATE is raised at a change (R86). -/
def setRectState (n : RmSlot) (st : RectState) (s : State) : State :=
  let old := s.shelf.rect[n].state
  if old = st then s
  else raise .moduleState (some n.val) (some st.code) (some old.code)
    (s.modRect n fun r => { r with state := st })

/-- A slot enters a battery state: MODULE STATE is raised at a change (R86). -/
def setBattState (n : BmSlot) (st : BattState) (s : State) : State :=
  let old := s.shelf.batt[n].state
  if old = st then s
  else raise .moduleState (some (n.val + 8)) (some st.code) (some old.code)
    (s.modBatt n fun b => { b with state := st })

/-! ### Hand-overs (R83, R85) -/

/-- A rectifier hand-over: the Budget Unit is to evaluate, and the Source Controller tests input loss. In GRID the
two are told of it in no fixed order, and a free choice says which acts first when input loss holds; elsewhere the
order makes no difference (R83, R95, R96, log 13). Input return is tested when the figures are handed over (R97). -/
def handRect (s : State) : State :=
  let s := markEval s
  if s.source.state = .grid ∧ inputLoss s = true then
    let t := { s with orders := s.orders + 1 }
    if Config.lossFirst s.orders then testLoss t else t.modWork fun w => { w with loss := true }
  else testLoss s

/-- A battery hand-over: the total charge request is formed anew (R120), the Budget Unit is to evaluate, and in
RIDE a ride evaluation is due (R85, R107). -/
def handBatt (s : State) : State :=
  let s := markEval (s.modSource fun x => { x with request := chargeRequest s })
  if s.source.state = .ride then markRide s else s

/-! ### Samples (R82 to R85) -/

/-- A rectifier sample clamped into its ranges (Table 4-3). -/
def clampRect (r : RectReport) : RectReport :=
  { r with rated := min r.rated 20000, avail := min (min r.avail 20000) (min r.rated 20000), power := min r.power 32767 }

/-- A battery sample clamped into its ranges (Table 4-5). -/
def clampBatt (b : BattReport) : BattReport :=
  { b with full := min b.full 65535, usable := min (min b.usable 65535) (min b.full 65535)
           dischargeLimit := min b.dischargeLimit 32767, request := min b.request 32767 }

/-- The rectifier state decision (Table 4-4). -/
def decideRect (enable : Bool) (x : RectReport) : RectState :=
  if enable = false then .disabled
  else if x.fault then .faulted
  else if x.ready = false then .starting
  else if x.avail < x.rated then .derated
  else .online

/-- The battery state decision (Table 4-6). -/
def decideBatt (x : BattReport) : BattState :=
  if x.fault then .faulted
  else if x.empty = true ∨ x.usable = 0 then .depleted
  else if x.discharging then .discharging
  else if x.charging then .charging
  else .standby

/-- A rectifier sample is taken (R79, R82, R83). MODULE STATE joins the queues before the reports that the hand-overs
of the same step raise: the model's choice (log 41). -/
def takeRectSample (n : RmSlot) (x : RectReport) (s : State) : State :=
  let y := clampRect x
  let s := s.modRect n fun r => { r with present := true, misses := 0, sample := some y, time := some s.now }
  handRect (setRectState n (decideRect s.shelf.rect[n].enable y) s)

/-- A battery sample is taken (R79, R84, R85). MODULE STATE comes first here too (log 41). -/
def takeBattSample (n : BmSlot) (x : BattReport) (s : State) : State :=
  let y := clampBatt x
  let s := s.modBatt n fun b => { b with present := true, misses := 0, sample := some y, time := some s.now }
  handBatt (setBattState n (decideBatt y) s)

/-! ### Misses (R80, R81) -/

/-- A check failure of the polled slot (R80). -/
def checkFailure (p : SlotPos) (s : State) : State :=
  s.modShelf fun h => { h with bad := h.bad.set p (satInc 65535 h.bad[p]), lastBad := some p }

/-- A miss at a rectifier slot (R81). MODULE STATE comes before the hand-over's reports (log 41). -/
def missRect (n : RmSlot) (s : State) : State :=
  if s.shelf.rect[n].present then
    let s := count .shelfLinkMisses (s.modRect n fun r => { r with misses := satInc 3 r.misses })
    if s.shelf.rect[n].misses = 3 ∧ s.shelf.rect[n].state ≠ .lost then handRect (setRectState n .lost s) else s
  else s

/-- A miss at a battery slot (R81). MODULE STATE comes before the hand-over's reports (log 41). -/
def missBatt (n : BmSlot) (s : State) : State :=
  if s.shelf.batt[n].present then
    let s := count .shelfLinkMisses (s.modBatt n fun b => { b with misses := satInc 3 b.misses })
    if s.shelf.batt[n].misses = 3 ∧ s.shelf.batt[n].state ≠ .lost then handBatt (setBattState n .lost s) else s
  else s

/-- A miss at the polled slot (R81). -/
def miss (p : SlotPos) (s : State) : State :=
  match slotOf p with
  | .rect n => missRect n s
  | .batt n => missBatt n s

/-! ### The rotation (R77) -/

/-- The set-points of a slot as its record holds them (Table 4-2). -/
def Shelf.setPoints (h : Shelf) (p : SlotPos) : SetPoints :=
  match slotOf p with
  | .rect n => .rect h.rect[n].enable h.rect[n].walkIn
  | .batt n => .batt h.batt[n].chargeLimit h.batt[n].discharge

/-- A poll is sent to a slot with a fresh response timeout and the slot's set-points as they stand now: one that is
changed later waits for the slot's next poll (R77, R78, R79). -/
def sendPoll (p : SlotPos) (s : State) : State :=
  s.modShelf fun h => { h with poll := some ⟨p, s.timer Config.responseTimeoutMs, h.setPoints p⟩ }

/-- A round begins: the round timer restarts with the round period and RM0 is polled (R77). -/
def beginRound (s : State) : State :=
  sendPoll 0 (s.modShelf fun h =>
    { h with inRound := true, overran := false, roundTimer := some (s.timer s.cfg.ride.round) })

/-- The round ends: it is counted, and after an overrun the next begins at once (R77). -/
def endRound (s : State) : State :=
  let again := s.shelf.overran
  let s := s.modShelf fun h =>
    { h with inRound := false, overran := false, poll := none, rounds := (h.rounds + 1) % 4294967296 }
  if again then beginRound s else s

/-- A poll has ended and the next slot in rotation order is polled at once, or the round ends after BM5 (R77). -/
def nextPoll (p : SlotPos) (s : State) : State :=
  if p.val = 13 then endRound s else sendPoll (p + 1) s

/-- The round timer expires (R77). -/
def takeRoundExpiry (s : State) : State :=
  if s.shelf.roundTimer.isSome then
    if s.shelf.inRound then
      s.modShelf fun h =>
        { h with overruns := satInc 65535 h.overruns, overran := true, roundTimer := none }
    else beginRound s
  else s

/-- A poll has ended with a sample or a miss, `f` being what that does to the records. The next poll is sent before
it, with the set-points as they stand then, so that a change of source state or of the charge division which the ended
poll brings reaches that slot with its poll of the next round: the model's choice (log 45). -/
def endPoll (p : SlotPos) (f : State → State) (s : State) : State :=
  f (nextPoll p (s.modShelf fun h => { h with poll := none }))

/-- The response timeout expires: the poll ends with a miss (R79). -/
def takeResponseTimeout (s : State) : State :=
  match s.shelf.poll with
  | some x => endPoll x.slot (miss x.slot) s
  | none => s

/-- The position of the slot a response names. -/
def reportPos : SlotReport → SlotPos
  | .rect n _ => (Slot.rect n).pos
  | .batt n _ => (Slot.batt n).pos

/-- The sample of a response is taken. -/
def takeSample : SlotReport → State → State
  | .rect n r, s => takeRectSample n r s
  | .batt n b, s => takeBattSample n b s

/-- A late response is counted and otherwise discarded (R79). -/
def lateResponse (s : State) : State := s.modShelf fun h => { h with lates := satInc 65535 h.lates }

/-- A response arrives on the shelf link (R79). -/
def takeResponse (r : ShelfReply) (s : State) : State :=
  if r.late then lateResponse s
  else match s.shelf.poll with
    | none => lateResponse s
    | some x =>
      endPoll x.slot (fun s =>
        if r.checkGood = true ∧ reportPos r.content = x.slot then takeSample r.content s
        else miss x.slot (checkFailure x.slot s)) s

/-! ### The bus monitor (R91) -/

/-- The debounce timer has expired: the bus is declared low (R91, R96). -/
def declareLow (s : State) : State := testLoss (s.modShelf fun h => { h with busLow := true, debounce := none })

/-- A bus sample is stored and judged (R91). A debounce of 0 expires at once. -/
def takeBusSample (mv : Nat) (s : State) : State :=
  let v := min mv 65535
  let thr := thresholdMv s.cfg.ride.thr
  let s := s.modShelf fun h => { h with busMv := v }
  if s.shelf.busLow then
    if thr + Config.hysteresisMv < v then testReturn (s.modShelf fun h => { h with busLow := false }) else s
  else if v < thr then
    match s.shelf.debounce with
    | some _ => s
    | none =>
      if s.cfg.ride.deb = 0 then declareLow s
      else s.modShelf fun h => { h with debounce := some (s.timer s.cfg.ride.deb) }
  else s.modShelf fun h => { h with debounce := none }

/-- The debounce timer expires (R91). -/
def takeDebounceExpiry (s : State) : State :=
  if s.shelf.debounce.isSome then declareLow s else s

end Sys2Proof.Machine
end

