-- ==== Sys2Proof/Machine/ShelfCmds.lean ====
section
/-! DEFINITION. The shelf commands (04, 4.4 and 4.5), as each is taken by the Shelf Link Controller. -/

namespace Sys2Proof.Machine

/-- The slot's state as a result field. -/
def rectStateField (s : State) (n : RmSlot) : Field := fWord "state" s.shelf.rect[n].state.word

/-- The firm supply that stages 1 to 5 give with a slot not counted (R87). -/
def firmWithout (s : State) (n : RmSlot) : Nat := (supply s ((countedSlots s).filter (· ≠ n))).2.2.2

/-- The output set-point becomes DISABLE; a present slot that is not LOST becomes DISABLED and is handed over
(R87). -/
def disableRect (n : RmSlot) (s : State) : State :=
  let s := s.modRect n fun r => { r with enable := false }
  if s.shelf.rect[n].present = true ∧ s.shelf.rect[n].state ≠ .lost then handRect (setRectState n .disabled s) else s

/-- RECTIFIER DISABLE (R87). -/
def doRectifierDisable (rm : Option Int) (s : State) : State × Reply :=
  withIndex 8 rm s fun n =>
    if s.shelf.rect[n].enable = false then (s, okReply)
    else if s.shelf.rect[n].counted = true ∧ firmWithout s n < s.budget.figs.com then refuse .budget s
    else
      let t := disableRect n s
      (t, okWith [rectStateField t n])

/-- The output set-point becomes ENABLE; a DISABLED slot becomes STARTING and is handed over (R88). -/
def enableRect (n : RmSlot) (s : State) : State :=
  let s := s.modRect n fun r => { r with enable := true }
  if s.shelf.rect[n].state = .disabled then handRect (setRectState n .starting s) else s

/-- RECTIFIER ENABLE (R88). -/
def doRectifierEnable (rm : Option Int) (s : State) : State × Reply :=
  withIndex 8 rm s fun n =>
    if s.shelf.rect[n].enable then (s, okReply)
    else
      let t := enableRect n s
      (t, okWith [rectStateField t n])

/-- The time since a slot's sample time (R89). -/
def ageFields (s : State) (t : Option Stamp) : List Field := fOpt "age" (t.map s.age)

/-- A rectifier sample as result fields (Table 4-3). -/
def rectSampleFields : Option RectReport → List Field
  | none => []
  | some x => [fNum "rated" x.rated, fNum "avail" x.avail, fYes "ready" x.ready, fYes "in" x.inputGood,
      fYes "flt" x.fault, fNum "pow" x.power]

/-- A battery sample as result fields (Table 4-5). -/
def battSampleFields : Option BattReport → List Field
  | none => []
  | some x => [fNum "full" x.full, fNum "use" x.usable, fNum "dlim" x.dischargeLimit, fNum "req" x.request,
      fYes "chg" x.charging, fYes "dis" x.discharging, fYes "flt" x.fault, fYes "empty" x.empty]

/-- A rectifier slot as MODULE READ returns it (R89). -/
def rectFields (s : State) (n : RmSlot) : List Field :=
  let r := s.shelf.rect[n]
  [fWord "state" r.state.word, fYes "pres" r.present, fNum "mis" r.misses] ++ rectSampleFields r.sample ++
    ageFields s r.time ++
    [fYes "counted" r.counted, fWord "out" (if r.enable then "ENABLE" else "DISABLE")] ++ fOpt "walk" r.walkIn

/-- A battery slot as MODULE READ returns it (R89). -/
def battFields (s : State) (n : BmSlot) : List Field :=
  let b := s.shelf.batt[n]
  [fWord "state" b.state.word, fYes "pres" b.present, fNum "mis" b.misses] ++ battSampleFields b.sample ++
    ageFields s b.time ++
    [fYes "avail" b.available, fNum "clim" b.chargeLimit, fWord "dset" (if b.discharge then "PERMIT" else "FORBID")]

/-- The state codes of the 14 slots in position order (R89). -/
def slotCodes (s : State) : List Nat :=
  (allRm.map fun n => s.shelf.rect[n].state.code) ++ (allBm.map fun n => s.shelf.batt[n].state.code)

/-- MODULE READ (R89). -/
def doModuleRead (rm bm : Option Int) (s : State) : State × Reply :=
  match rm, bm with
  | some _, some _ => refuse .syntaxError s
  | some _, none => withIndex 8 rm s fun n => (s, okWith (rectFields s n))
  | none, some _ => withIndex 6 bm s fun n => (s, okWith (battFields s n))
  | none, none =>
    (s, okWith ([fNums "st" (slotCodes s), fNum "bus" s.shelf.busMv,
      fWord "bst" (if s.shelf.busLow then "LOW" else "NORMAL"), fNum "thr" (thresholdMv s.cfg.ride.thr)] ++
      fLeft "deb" s s.shelf.debounce))

/-- The name of a slot. -/
def slotName (p : SlotPos) : String :=
  match slotOf p with
  | .rect n => "RM" ++ toString n.val
  | .batt n => "BM" ++ toString n.val

/-- LINK STATS (R90). -/
def doLinkStats (s : State) : State × Reply :=
  let lbs := match s.shelf.lastBad with
    | some p => slotName p
    | none => "NONE"
  (s, okWith [fNum "per" s.cfg.ride.round, fNum "rnd" s.shelf.rounds, fNum "ovr" s.shelf.overruns,
    fNum "late" s.shelf.lates, fNums "bad" s.shelf.bad.toList, fWord "lbs" lbs,
    fNums "mis" ((allRm.map fun n => s.shelf.rect[n].misses) ++ (allBm.map fun n => s.shelf.batt[n].misses))])

end Sys2Proof.Machine
end

