-- ==== Sys2Proof/Machine/SourceCmds.lean ====
section
/-! DEFINITION. The source and charge commands (05, 5.6; 06, 6.7), as each is taken by the Source Controller. -/

namespace Sys2Proof.Machine

/-- The ride settings as result fields (Table 5-8). -/
def rideFields (r : RideCfg) : List Field :=
  [fNum "target" r.target, fNum "reserve" r.reserve, fNum "eff" r.eff, fNum "cap" r.cap, fNum "thr" r.thr,
    fNum "deb" r.deb, fNum "qual" r.qual, fNum "walk" r.walk, fNum "round" r.round]

/-- The final reserve that RIDE SET asks for, clamped to its own range alone. -/
def reserveAsked (a : RideArgs) (old : RideCfg) : Nat := numArg 0 600 a.reserve old.reserve

/-- The ride settings after RIDE SET: each clamped to its range, then the final reserve to at most the target
less 1, with the target as this command leaves it (R113). -/
def applyRide (a : RideArgs) (old : RideCfg) : RideCfg :=
  let target := numArg 10 3600 a.target old.target
  { target := target
    reserve := min (reserveAsked a old) (target - 1)
    eff := numArg 700 1000 a.eff old.eff
    cap := numArg 0 60000 a.cap old.cap
    thr := numArg 0 2 a.thr old.thr
    deb := numArg 0 50 a.deb old.deb
    qual := numArg 0 120000 a.qual old.qual
    walk := numArg 0 60000 a.walk old.walk
    round := numArg 100 1000 a.round old.round }

/-- A value of RIDE SET is clamped, or the final reserve is lowered by the target (R113). -/
def rideAdjusts (a : RideArgs) (old : RideCfg) : Bool :=
  clamps 10 3600 a.target || clamps 0 600 a.reserve || clamps 700 1000 a.eff || clamps 0 60000 a.cap ||
    clamps 0 2 a.thr || clamps 0 50 a.deb || clamps 0 120000 a.qual || clamps 0 60000 a.walk ||
    clamps 100 1000 a.round || decide ((applyRide a old).reserve < reserveAsked a old)

/-- Accepted ride settings are stored; in RIDE a ride evaluation is due (R107), and in GRID a changed target or
efficiency is tested for charge-first (R118). -/
def storeRide (r : RideCfg) (s : State) : State :=
  let old := s.cfg.ride
  let s := s.modCfg fun w => { w with ride := r }
  match s.source.state with
  | .ride => markRide s
  | .grid => if r.target = old.target ∧ r.eff = old.eff then s else chargeFirstTest s
  | .qualify | .handback | .down => s

/-- RIDE SET (R113). -/
def doRideSet (a : RideArgs) (s : State) : State × Reply :=
  if a = {} then refuse .syntaxError s
  else
    let r := applyRide a s.cfg.ride
    (storeRide r s, setReply (rideAdjusts a s.cfg.ride) (rideFields r))

/-- The figures of the last ride evaluation, absent before the first (R114). -/
def rideRecordFields (s : State) : List Field :=
  match s.source.lastEval with
  | none => []
  | some t =>
    fOpt "ph" s.source.hold ++
      [fWords "cand" (s.source.cand.toList.map fun x => match x with
        | some n => toString n
        | none => "NONE"), fStamp "at" t]

/-- SOURCE READ (R114). -/
def doSourceRead (settings : Bool) (s : State) : State × Reply :=
  if settings then (s, okWith (rideFields s.cfg.ride))
  else
    let x := s.source
    (s, okWith ([fWord "src" x.state.word] ++
      (match x.origin with
        | some o => [fWord "org" o.word]
        | none => []) ++
      [fStamp "since" x.since, fStamp "ost" x.outage, fNum "lvl" x.level, fYes "rsv" x.reserveTaken] ++
      fLeft "qt" s x.qualify ++ fLeft "wt" s x.walkIn ++
      [fWord "bus" (if s.shelf.busLow then "LOW" else "NORMAL"), fYes "loss" (inputLoss s),
        fYes "ret" (inputReturn s), fNum "et" (energyTotal s), fNum "dt" (dischargeTotal s), fNum "pl" (loadNow s),
        fNum "ht" (holdTime s (loadNow s))] ++
      rideRecordFields s ++ [fYes "cf" x.chargeFirst, fYes "sil" (x.stage != 0)]))

/-- The charge settings after CHARGE SET, each clamped to its range (R129). -/
def applyCharge (a : ChargeArgs) (old : ChargeCfg) : ChargeCfg :=
  { floor := numArg 0 20000 a.floor old.floor
    limit := numArg 0 40000 a.limit old.limit
    policy := a.restore.getD old.policy
    autoUp := a.autoUp.getD old.autoUp
    window := numArg 0 600 a.silence old.window }

/-- A value of CHARGE SET is clamped. -/
def chargeAdjusts (a : ChargeArgs) : Bool :=
  clamps 0 20000 a.floor || clamps 0 40000 a.limit || clamps 0 600 a.silence

/-- Accepted charge settings are stored: an evaluation starts, a changed window ends a silence (R128, log 23),
and the configured policy becomes the effective one unless the silence stage is 2 (R129). -/
def storeCharge (g : ChargeCfg) (s : State) : State :=
  let old := s.cfg.charge
  let s := markEval (s.modCfg fun w => { w with charge := g })
  let s := if g.window = old.window then s else endSilence s
  if s.source.stage = 2 then s else setPolicy g.policy s

/-- The charge settings, the effective policy and the silence stage as result fields (R129). -/
def chargeFields (s : State) : List Field :=
  let g := s.cfg.charge
  [fNum "floor" g.floor, fNum "limit" g.limit, fWord "restore" (RestorePolicy.word g.policy), fOn "autoup" g.autoUp,
    fNum "silence" g.window, fWord "epol" (RestorePolicy.word s.source.policy), fNum "stg" s.source.stage]

/-- CHARGE SET (R129). -/
def doChargeSet (a : ChargeArgs) (s : State) : State × Reply :=
  if a = {} then refuse .syntaxError s
  else
    let t := storeCharge (applyCharge a s.cfg.charge) s
    (t, setReply (chargeAdjusts a) (chargeFields t))

end Sys2Proof.Machine
end

