-- ==== Sys2Proof/Machine/SystemCmds.lean ====
section
/-! DEFINITION. The system and tally commands (10), as each is taken by Configuration and Tallies. -/

namespace Sys2Proof.Machine

/-! ### The configuration store (R187, R188) -/

/-- CONFIG SAVE (R187). -/
def doConfigSave (s : State) : State × Reply :=
  match s.store with
  | .writing _ _ => refuse .busy s
  | .invalid | .valid _ => (s.setStore (.writing s.cfg s.now), okReply)

/-- A channel is PENDING, RAMPING, ON or WARNING. -/
def anyChannelInUse (s : State) : Bool :=
  allCh.any fun c => match (s.ch c).state with
    | .pending | .ramping | .on | .warning => true
    | .off | .faulted => false

/-- A zone is in CABLE FAULT under TREAT WET. -/
def anyTreatedFault (s : State) : Bool :=
  allZones.any fun z => s.zones[z].state == .cableFault && s.cfg.zone[z].cpol == .treatWet

/-- The working configuration takes the factory defaults, and each block acts as if they had been written (R188). -/
def loadDefaults (s : State) : State :=
  let s := { (s.modCfg fun _ => defaultCfg) with cfgFrom := .defaults }
  let s := forEach allZones enableZone s
  let s := setPolicy defaultCfg.charge.policy (endSilence s)
  let s := if s.source.state = .ride then markRide s else s
  raise .configDefaulted none (some 1) none (markEval s)

/-- CONFIG DEFAULTS (R188). -/
def doConfigDefaults (s : State) : State × Reply :=
  if anyChannelInUse s then refuse .state s
  else if runActive s then refuse .state s
  else if anyTreatedFault s then refuse .state s
  else (loadDefaults s, okReply)

/-- RESET on the manager port (R194): the warm reset begins when this response has been sent (R183). -/
def doReset (s : State) : State × Reply := (s, { status := .ok, resets := true })

/-! ### Tallies (R191) -/

/-- The code of a tally event (Table 10-2). -/
def TallyEvent.code : TallyEvent → Nat
  | .channelStarts => 0
  | .channelFaults => 1
  | .admissionWaits => 2
  | .stepsSkipped => 3
  | .rideEntries => 4
  | .channelsShed => 5
  | .leakWetSamples => 6
  | .shelfLinkMisses => 7
  | .linesRejected => 8
  | .reportsLost => 9

/-- The event of a code (Table 10-2). -/
def tallyEvent (n : Fin 10) : TallyEvent :=
  match n with
  | 0 => .channelStarts
  | 1 => .channelFaults
  | 2 => .admissionWaits
  | 3 => .stepsSkipped
  | 4 => .rideEntries
  | 5 => .channelsShed
  | 6 => .leakWetSamples
  | 7 => .shelfLinkMisses
  | 8 => .linesRejected
  | 9 => .reportsLost

/-- The value of a counter, the paired value for counter 0 in pair mode; counter 1 has none of its own there
(R191). -/
def counterValue (t : Tally) (c : CtrIx) : Option Nat :=
  if t.pair then
    if c = 0 then some t.paired else if c = 1 then none else some t.ctr[c].value
  else some t.ctr[c].value

/-- A counter as result fields (R191). -/
def counterFields (t : Tally) (c : CtrIx) : List Field :=
  let x := t.ctr[c]
  [fNum "ev" x.event.code, fYes "run" x.running, fWord "lim" (AtLimit.word x.limit)] ++
    fOpt "val" (counterValue t c) ++ [fYes "ovf" x.overflow] ++
    (if t.pair = true ∧ c.val ≤ 1 then [fOn "pair" true] else [])

/-- The form of TALLY SET is refused with SYNTAX (R191). -/
def tallySetMalformed (a : TallyArgs) : Bool :=
  (a.ev.isNone && a.lim.isNone && a.pair.isNone) || (a.ctr.isNone && (a.ev.isSome || a.lim.isSome))

/-- TALLY SET is refused with STATE (R191). -/
def tallySetBlocked (t : Tally) (c : Option CtrIx) (a : TallyArgs) : Bool :=
  ((a.ev.isSome || a.lim.isSome) && (match c with
    | some c => t.ctr[c].running || (t.pair && decide (c = 1))
    | none => false)) ||
  (a.pair.isSome && (t.ctr[0].running || t.ctr[1].running))

/-- A counter with its event and at-limit behaviour written. -/
def writeCounter (ev : Option TallyEvent) (lim : Option AtLimit) (x : Counter) : Counter :=
  { x with event := ev.getD x.event, limit := lim.getD x.limit }

/-- A counter's value and overflow mark cleared. -/
def clearCounter (x : Counter) : Counter := { x with value := 0, overflow := false }

/-- The pair mode is written; a change clears counters 0 and 1 (R191). -/
def writePair (p : Option Bool) (t : Tally) : Tally :=
  match p with
  | none => t
  | some b =>
    if b = t.pair then t
    else { t with pair := b, ctr := (t.ctr.set 0 (clearCounter t.ctr[0])).set 1 (clearCounter t.ctr[1]) }

/-- An optional index in range; an omitted one is none. -/
def optIndex? (n : Nat) (x : Option Int) : Option (Option (Fin n)) :=
  match x with
  | none => some none
  | some x => (index? n x).map some

/-- The answer of TALLY SET: the counter's fields and the pair mode (R191). -/
def tallySetFields (t : Tally) (c : Option CtrIx) : List Field :=
  (match c with
    | some c => (counterFields t c).filter fun f => f.key != "pair"
    | none => []) ++ [fOn "pair" t.pair]

/-- TALLY SET (R191). -/
def doTallySet (a : TallyArgs) (s : State) : State × Reply :=
  if tallySetMalformed a then refuse .syntaxError s
  else
    match optIndex? 4 a.ctr, optIndex? 10 a.ev with
    | some c, some ev =>
      if tallySetBlocked s.tally c a then refuse .state s
      else
        let write := fun (t : Tally) => match c with
          | some c => { t with ctr := t.ctr.set c (writeCounter (ev.map tallyEvent) a.lim t.ctr[c]) }
          | none => t
        let t := s.modTally fun t => writePair a.pair (write t)
        (t, okWith (tallySetFields t.tally c))
    | _, _ => refuse .range s

/-- A command on one counter, which may not be counter 1 in pair mode (R191). -/
def onCounter (ctr : Option Int) (s : State) (f : CtrIx → Tally → Tally) : State × Reply :=
  withIndex 4 ctr s fun c =>
    if s.tally.pair = true ∧ c = 1 then refuse .state s else (s.modTally (f c), okReply)

/-- TALLY START (R191). -/
def doTallyStart (ctr : Option Int) (s : State) : State × Reply :=
  onCounter ctr s fun c t => { t with ctr := t.ctr.set c { t.ctr[c] with running := true } }

/-- TALLY STOP (R191). -/
def doTallyStop (ctr : Option Int) (s : State) : State × Reply :=
  onCounter ctr s fun c t => { t with ctr := t.ctr.set c { t.ctr[c] with running := false } }

/-- The value of a counter becomes 0 and its overflow mark no; in pair mode counter 0 takes both halves (R191). -/
def clearTally (c : CtrIx) (t : Tally) : Tally :=
  let t' := { t with ctr := t.ctr.set c (clearCounter t.ctr[c]) }
  if t.pair = true ∧ c = 0 then { t' with ctr := t'.ctr.set 1 { t'.ctr[1] with value := 0 } } else t'

/-- TALLY CLEAR (R191). -/
def doTallyClear (ctr : Option Int) (s : State) : State × Reply := onCounter ctr s clearTally

/-- TALLY READ (R191). -/
def doTallyRead (ctr : Option Int) (s : State) : State × Reply :=
  let t := s.tally
  match ctr with
  | some _ => withIndex 4 ctr s fun c => (s, okWith (counterFields t c))
  | none =>
    let v0 := if t.pair then t.paired else t.ctr[0].value
    (s, okWith [fNums "val" [v0, t.ctr[1].value, t.ctr[2].value, t.ctr[3].value], fOn "pair" t.pair])

/-! ### Time base and identity (R192, R193) -/

/-- TIME READ (R192). -/
def doTimeRead (s : State) : State × Reply := (s, okWith [fStamp "t" s.now])

/-- IDENTIFY (R193). -/
def doIdentify (s : State) : State × Reply :=
  (s, okWith [fWord "part" "PK24", fWord "rev" Config.revision, fWord "rst" s.cause.kind.word,
    fNum "wrc" s.cause.warmCount, fWord "store" s.store.word, fWord "cfg" s.cfgFrom.word])

end Sys2Proof.Machine
end

