-- ==== Sys2Proof/WellFormed.lean ====
section
/-! DEFINITION. Well-formed commands: what the outside world can send. A meaning answers on ill-formed commands too. -/

namespace Sys2Proof

/-- A letter or a digit of ASCII (R170). -/
def isTagChar (c : Char) : Bool :=
  ('0' ≤ c && c ≤ '9') || ('A' ≤ c && c ≤ 'Z') || ('a' ≤ c && c ≤ 'z')

/-- 1 to 4 letters or digits (R170). -/
def isTag (t : List Char) : Bool :=
  !t.isEmpty && decide (t.length ≤ 4) && t.all isTagChar

/-- The characters before a CR LF: ASCII, with no CR and no LF among them (R170). -/
def isLineText (t : List Char) : Bool :=
  t.all fun c => decide (c.toNat < 128) && c != '\r' && c != '\n'

/-- A loop reading is 0..4,095 counts (R133). -/
def isLoopReading (n : Nat) : Bool := decide (n ≤ 4095)

/-- The line a verb's row came in on, for the 53 verb rows. -/
def Instr.line? : Instr → Option LineId
  | .channelStart l _ => some l
  | .channelStartGang l _ => some l
  | .channelStop l _ => some l
  | .channelCut l _ => some l
  | .channelClear l _ => some l
  | .channelSet l _ _ => some l
  | .channelRead l _ => some l
  | .policySet l _ => some l
  | .budgetRead l _ => some l
  | .admissionRead l _ => some l
  | .planWrite l _ => some l
  | .planRead l _ => some l
  | .planStart l _ => some l
  | .planPause l => some l
  | .planResume l => some l
  | .planStop l => some l
  | .planStatus l => some l
  | .moduleRead l _ _ => some l
  | .rectifierEnable l _ => some l
  | .rectifierDisable l _ => some l
  | .linkStats l => some l
  | .sourceRead l _ => some l
  | .rideSet l _ => some l
  | .chargeSet l _ => some l
  | .restore l _ => some l
  | .zoneSet l _ => some l
  | .zoneRead l _ _ => some l
  | .patternSet l _ => some l
  | .leakClear l _ => some l
  | .responseSet l _ => some l
  | .overridePrepare l _ => some l
  | .overrideCommit l _ => some l
  | .overrideLockout l => some l
  | .valveClose l _ => some l
  | .valveOpen l _ => some l
  | .valveRead l _ => some l
  | .captureRead l => some l
  | .captureClear l => some l
  | .fetch l _ => some l
  | .routeSet l _ => some l
  | .statusRead l => some l
  | .statusClear l _ => some l
  | .ping l => some l
  | .configSave l => some l
  | .configDefaults l => some l
  | .reset l => some l
  | .tallySet l _ => some l
  | .tallyStart l _ => some l
  | .tallyStop l _ => some l
  | .tallyClear l _ => some l
  | .tallyRead l _ => some l
  | .timeRead l => some l
  | .identify l => some l
  | .powerUp => none
  | .loadCompletion _ => none
  | .resetPin => none
  | .resetResponseSent => none
  | .channelSenseScan _ => none
  | .powerGoodRise _ => none
  | .powerGoodFall _ => none
  | .trayFaultAsserted _ => none
  | .trayFaultReleased _ => none
  | .rampTimerExpiry _ => none
  | .warningTimerExpiry _ => none
  | .stopConfirmExpiry _ => none
  | .splitSpacingExpiry => none
  | .lateTimerExpiry => none
  | .deficitGraceExpiry => none
  | .gapTimerExpiry => none
  | .roundTimerExpiry => none
  | .shelfResponse _ => none
  | .responseTimeout => none
  | .busSample _ => none
  | .debounceTimerExpiry => none
  | .qualifyExpiry => none
  | .walkInExpiry => none
  | .silenceTimerExpiry => none
  | .leakScan _ => none
  | .escalationTimerExpiry _ => none
  | .overrideWindowExpiry => none
  | .closedContactPresent _ => none
  | .openContactPresent _ => none
  | .contactAbsent _ _ => none
  | .travelTimerExpiry _ => none
  | .lineArrival _ _ => none
  | .outputLineSent _ => none
  | .saveCompletion => none
  | .powerLoss => none

/-- The command is one the outside world can send: loop readings in range, line text of the port's
character set, a gang start that names a gang alone (every other CHANNEL START line is the row CHANNEL_START), and
a tag of the right form on a verb's line. -/
def Instr.wellFormed (i : Instr) : Bool :=
  (match i with
    | .leakScan r => r.toList.all isLoopReading
    | .lineArrival _ t => isLineText t
    | .channelStart _ a => !(a.ch.isNone && a.gang.isSome)
    | .channelStartGang _ a => a.ch.isNone && a.gang.isSome
    | _ => true) &&
  (match i.line? with
    | some l => isTag l.tag
    | none => true)

end Sys2Proof
end

