-- ==== Sys2Proof/Machine/Text.lean ====
section
/-! DEFINITION. The text of lines (R170 to R172): the tests a received text must pass, the parse of a command line into a
command, and the text of response and report lines. A text here is a line without its CR LF. -/

namespace Sys2Proof.Machine

/-! ### Tests at CR LF (R171) -/

/-- The parts of a text between its occurrences of a character. -/
def splitAtChar (c : Char) : List Char → List (List Char)
  | [] => [[]]
  | x :: xs =>
    if x = c then [] :: splitAtChar c xs
    else
      match splitAtChar c xs with
      | [] => [[x]]
      | p :: ps => (x :: p) :: ps

/-- The value of a hexadecimal digit, in either case (R170). -/
def hexDigit (c : Char) : Option Nat :=
  if '0' ≤ c ∧ c ≤ '9' then some (c.toNat - 48)
  else if 'A' ≤ c ∧ c ≤ 'F' then some (c.toNat - 55)
  else if 'a' ≤ c ∧ c ≤ 'f' then some (c.toNat - 87)
  else none

/-- The sum of the character codes, modulo 256 (R170). -/
def checkSum (t : List Char) : Nat := (t.map Char.toNat).sum % 256

/-- The value of the two check digits. -/
def hexPair (a b : Char) : Option Nat :=
  match hexDigit a, hexDigit b with
  | some x, some y => some (16 * x + y)
  | _, _ => none

/-- The text up to and including the space before the asterisk, when the final field is an asterisk and two
hexadecimal digits preceded by a single space, and the sum equals the digits (R171, log 22). -/
def checkedBody (t : List Char) : Option (List Char) :=
  match t.reverse with
  | b :: a :: '*' :: ' ' :: c :: rest =>
    let body := (' ' :: c :: rest).reverse
    if c ≠ ' ' ∧ hexPair a b = some (checkSum body) then some body else none
  | _ => none

/-- The tag of a text, when it has one (R171). -/
def tagOf (t : List Char) : Option (List Char) :=
  match splitAtChar ' ' t with
  | tag :: _ :: _ => if isTag tag then some tag else none
  | _ => none

/-- The tag and the checked body of a text that is not discarded; none when it is (R171). -/
def receivedLine (t : List Char) : Option (List Char × List Char) :=
  if Config.lineTextMax < t.length then none
  else
    match tagOf t, checkedBody t with
    | some tag, some body => some (tag, body)
    | _, _ => none

/-! ### Structure (R172) -/

/-- An argument as written: keyword and value. -/
abbrev RawArg := List Char × List Char

/-- A part of the form keyword=value with a non-empty keyword and value (R172, test 1). That the value is all behind the
first '=' and may hold another one is the model's choice (log 53). -/
def splitArg (w : List Char) : Option RawArg :=
  let k := w.takeWhile (· ≠ '=')
  match w.drop k.length with
  | _ :: v => if k.isEmpty || v.isEmpty then none else some (k, v)
  | [] => none

/-- The parts between the tag and the check field. -/
def partsOf (body : List Char) : List (List Char) := (splitAtChar ' ' body.dropLast).tail

/-- The verb words and the arguments of a line of good structure (R172, test 1). -/
def structureOf (body : List Char) : Option (List (List Char) × List RawArg) :=
  let ps := partsOf body
  let verb := ps.takeWhile fun w => !w.contains '='
  if ps.any List.isEmpty || verb.isEmpty || decide (2 < verb.length) then none
  else ((ps.drop verb.length).mapM splitArg).map fun args => (verb, args)

/-! ### Verbs (R172, test 2) -/

/-- The verb index (Table 9-6), each verb with its command without arguments. -/
def verbTable (l : LineId) : List (String × Instr) :=
  [("CHANNEL START", .channelStart l {}), ("CHANNEL STOP", .channelStop l {}), ("CHANNEL CUT", .channelCut l {}),
    ("CHANNEL CLEAR", .channelClear l none), ("CHANNEL SET", .channelSet l none {}),
    ("CHANNEL READ", .channelRead l none), ("BUDGET READ", .budgetRead l none),
    ("ADMISSION READ", .admissionRead l none), ("POLICY SET", .policySet l {}), ("PLAN WRITE", .planWrite l {}),
    ("PLAN START", .planStart l none), ("PLAN PAUSE", .planPause l), ("PLAN RESUME", .planResume l),
    ("PLAN STOP", .planStop l), ("PLAN READ", .planRead l none), ("PLAN STATUS", .planStatus l)] ++
  [("MODULE READ", .moduleRead l none none), ("LINK STATS", .linkStats l),
    ("RECTIFIER ENABLE", .rectifierEnable l none), ("RECTIFIER DISABLE", .rectifierDisable l none),
    ("SOURCE READ", .sourceRead l false), ("RIDE SET", .rideSet l {}), ("CHARGE SET", .chargeSet l {}),
    ("RESTORE", .restore l none), ("ZONE SET", .zoneSet l {}), ("PATTERN SET", .patternSet l {}),
    ("LEAK CLEAR", .leakClear l none), ("ZONE READ", .zoneRead l none none), ("RESPONSE SET", .responseSet l {}),
    ("OVERRIDE PREPARE", .overridePrepare l none), ("OVERRIDE COMMIT", .overrideCommit l none),
    ("OVERRIDE LOCKOUT", .overrideLockout l)] ++
  [("VALVE CLOSE", .valveClose l none), ("VALVE OPEN", .valveOpen l none), ("CAPTURE CLEAR", .captureClear l),
    ("VALVE READ", .valveRead l none), ("CAPTURE READ", .captureRead l), ("FETCH", .fetch l none),
    ("STATUS CLEAR", .statusClear l none), ("PING", .ping l), ("STATUS READ", .statusRead l),
    ("ROUTE SET", .routeSet l {}), ("CONFIG SAVE", .configSave l), ("CONFIG DEFAULTS", .configDefaults l),
    ("RESET", .reset l), ("TALLY SET", .tallySet l {}), ("TALLY START", .tallyStart l none),
    ("TALLY STOP", .tallyStop l none), ("TALLY CLEAR", .tallyClear l none), ("TALLY READ", .tallyRead l none),
    ("TIME READ", .timeRead l), ("IDENTIFY", .identify l)]

/-- Words joined by single spaces. -/
def joinWords : List (List Char) → List Char
  | [] => []
  | [w] => w
  | w :: ws => w ++ ' ' :: joinWords ws

/-- The command that the verb words name, without arguments. -/
def verbOf (l : LineId) (ws : List (List Char)) : Option Instr :=
  ((verbTable l).find? fun x => x.1.toList == joinWords ws).map Prod.snd

/-! ### Values -/

/-- A decimal digit. -/
def digitVal (c : Char) : Option Nat := if '0' ≤ c ∧ c ≤ '9' then some (c.toNat - 48) else none

/-- Digits read onto a value. -/
def readDigits : Nat → List Char → Option Nat
  | n, [] => some n
  | n, c :: cs =>
    match digitVal c with
    | some d => readDigits (10 * n + d) cs
    | none => none

/-- A decimal number without a sign. -/
def readNat (v : List Char) : Option Nat := if v.isEmpty then none else readDigits 0 v

/-- A decimal number, with a leading minus sign when negative (R170, log 21). -/
def readInt (v : List Char) : Option Int :=
  match v with
  | '-' :: ds => (readNat ds).map fun n => -(n : Int)
  | ds => (readNat ds).map fun n => (n : Int)

/-- One of the words of a table. -/
def readWord {α : Type} (tbl : List (String × α)) (v : List Char) : Option α :=
  (tbl.find? fun x => x.1.toList == v).map Prod.snd

/-- A list written with commas. -/
def readList {α : Type} (f : List Char → Option α) (v : List Char) : Option (List α) :=
  (splitAtChar ',' v).mapM f

/-- A list written with commas, or NONE. -/
def readListOrNone {α : Type} (f : List Char → Option α) (v : List Char) : Option (List α) :=
  if v == "NONE".toList then some [] else readList f v

/-- An index or NONE. -/
def readIndexArg (v : List Char) : Option IndexArg :=
  if v == "NONE".toList then some .absent else (readInt v).map .index

/-- A position and class pair, such as 0W (R145). -/
def readPair (v : List Char) : Option (Int × Wetness) :=
  match v.getLast?, readInt v.dropLast with
  | some 'W', some n => some (n, .wet)
  | some 'D', some n => some (n, .dry)
  | _, _ => none

/-- YES or NO. -/
def readYesNo : List Char → Option Bool := readWord [("YES", true), ("NO", false)]
/-- ON or OFF. -/
def readOnOff : List Char → Option Bool := readWord [("ON", true), ("OFF", false)]
/-- A run kind (R68). -/
def readKind : List Char → Option RunKind := readWord [("UP", .up), ("DOWN", .down)]
/-- A step action (R71). -/
def readAction : List Char → Option StepAction :=
  readWord [("START", .start), ("STOP", .stop), ("DELAY", .delay), ("AWAITON", .awaitOn), ("AWAITGRID", .awaitGrid)]
/-- A set of fields of BUDGET READ (R48). -/
def readSel : List Char → Option BudgetSel := readWord [("FIG", .fig), ("STATE", .state), ("POLICY", .policy)]
/-- A restore policy (R129). -/
def readPolicy : List Char → Option RestorePolicy := readWord [("HOST", .host), ("AUTO", .auto)]
/-- A cable policy (R144). -/
def readCablePolicy : List Char → Option CablePolicy := readWord [("REPORT", .report), ("TREATWET", .treatWet)]
/-- A response action (R154). -/
def readLeakAction : List Char → Option LeakAction :=
  readWord [("REPORT", .report), ("ISOLATE", .isolate), ("CUT", .cut)]
/-- An escalation action (R154). -/
def readEscAction : List Char → Option EscAction :=
  readWord [("NONE", .nothing), ("ISOLATENC", .isolateNoncritical), ("CUTALL", .cutAll)]
/-- A route (R181). -/
def readRoute : List Char → Option Route :=
  readWord [("NONE", .nowhere), ("MANAGER", .manager), ("SERVICE", .service), ("BOTH", .both)]
/-- A report group (R180). -/
def readGroup : List Char → Option Group := readWord (allGroups.map fun g => (Group.word g, g))
/-- At-limit behaviour (R191). -/
def readLimit : List Char → Option AtLimit := readWord [("HOLD", .hold), ("WRAP", .wrap)]
/-- The tier of RESTORE: a number or ALL (R125). -/
def readTier (v : List Char) : Option TierArg :=
  if v == "ALL".toList then some .all else (readInt v).map .tier
/-- The groups of STATUS CLEAR: a list of names or ALL (R180). -/
def readGroups (v : List Char) : Option GroupArg :=
  if v == "ALL".toList then some .all else (readList readGroup v).map .groups

/-! ### Arguments (R172, test 4) -/

/-- The value written for a keyword. -/
def rawArg (k : String) (args : List RawArg) : Option (List Char) :=
  (args.find? fun a => a.1 == k.toList).map Prod.snd

/-- An optional argument read with a reader: outer none when the value is not of the reader's form. -/
def arg {α : Type} (k : String) (f : List Char → Option α) (args : List RawArg) : Option (Option α) :=
  match rawArg k args with
  | none => some none
  | some v => (f v).map some

/-- A numeric argument. -/
def num (k : String) (args : List RawArg) : Option (Option Int) := arg k readInt args

/-- The keywords a command takes. -/
def keywordsOf : Instr → List String
  | .channelStart _ _ | .channelStartGang _ _ | .channelStop _ _ | .channelCut _ _ => ["ch", "gang"]
  | .channelClear _ _ | .channelRead _ _ | .overridePrepare _ _ | .overrideCommit _ _ => ["ch"]
  | .channelSet _ _ _ => ["ch", "cfg", "alloc", "inrush", "tier", "warn", "ramp"]
  | .policySet _ _ => ["k", "guard", "inrush", "grace", "late", "spacing"]
  | .budgetRead _ _ | .sourceRead _ _ => ["sel"]
  | .admissionRead _ _ => ["pos"]
  | .planWrite _ _ => ["step", "act", "ch", "gang", "gap", "end", "up", "down"]
  | .planRead _ _ => ["step"]
  | .planStart _ _ => ["kind"]
  | .moduleRead _ _ _ => ["rm", "bm"]
  | .rectifierEnable _ _ | .rectifierDisable _ _ => ["rm"]
  | .rideSet _ _ => ["target", "reserve", "eff", "cap", "thr", "deb", "qual", "walk", "round"]
  | .chargeSet _ _ => ["floor", "limit", "restore", "autoup", "silence"]
  | .restore _ _ => ["tier"]
  | .zoneSet _ _ => ["zone", "en", "wet", "open", "pats", "cpol", "esc", "cnt", "scan"]
  | .zoneRead _ _ _ => ["zone", "pat"]
  | .patternSet _ _ => ["pat", "en", "sel", "min"]
  | .leakClear _ _ => ["zone"]
  | .responseSet _ _ => ["zone", "act", "chs", "valve", "esc", "vall", "travel"]
  | .valveClose _ _ | .valveOpen _ _ | .valveRead _ _ => ["cv"]
  | .fetch _ _ => ["n"]
  | .routeSet _ _ => ["channel", "budget", "plan", "shelf", "source", "leak", "valve", "system", "svc"]
  | .statusClear _ _ => ["grp"]
  | .tallySet _ _ => ["ctr", "ev", "lim", "pair"]
  | .tallyStart _ _ | .tallyStop _ _ | .tallyClear _ _ | .tallyRead _ _ => ["ctr"]
  | _ => []

/-- Every keyword is one the verb takes, and none is given twice. -/
def keywordsFit (i : Instr) (args : List RawArg) : Bool :=
  (args.all fun a => (keywordsOf i).any fun k => k.toList == a.1) && decide (args.map Prod.fst).Nodup

/-- ch= and gang=. -/
def readTarget (args : List RawArg) : Option TargetArgs := do
  return { ch := ← num "ch" args, gang := ← num "gang" args }

/-- The arguments of CHANNEL SET. -/
def readChannelSet (args : List RawArg) : Option ChannelSetArgs := do
  return { cfg := ← arg "cfg" readYesNo args, alloc := ← num "alloc" args, inrush := ← num "inrush" args
           tier := ← num "tier" args, warn := ← num "warn" args, ramp := ← num "ramp" args }

/-- The arguments of POLICY SET. -/
def readPolicySet (args : List RawArg) : Option PolicyArgs := do
  return { k := ← num "k" args, guard := ← num "guard" args, inrush := ← num "inrush" args
           grace := ← num "grace" args, late := ← num "late" args, spacing := ← num "spacing" args }

/-- The arguments of PLAN WRITE. -/
def readPlanWrite (args : List RawArg) : Option PlanWriteArgs := do
  return { step := ← num "step" args, act := ← arg "act" readAction args, target := ← readTarget args
           gap := ← num "gap" args, endMark := ← arg "end" readYesNo args
           up := ← arg "up" readIndexArg args, down := ← arg "down" readIndexArg args }

/-- The arguments of RIDE SET. -/
def readRideSet (args : List RawArg) : Option RideArgs := do
  return { target := ← num "target" args, reserve := ← num "reserve" args, eff := ← num "eff" args
           cap := ← num "cap" args, thr := ← num "thr" args, deb := ← num "deb" args
           qual := ← num "qual" args, walk := ← num "walk" args, round := ← num "round" args }

/-- The arguments of CHARGE SET. -/
def readChargeSet (args : List RawArg) : Option ChargeArgs := do
  return { floor := ← num "floor" args, limit := ← num "limit" args, restore := ← arg "restore" readPolicy args
           autoUp := ← arg "autoup" readOnOff args, silence := ← num "silence" args }

/-- The arguments of ZONE SET. -/
def readZoneSet (args : List RawArg) : Option ZoneArgs := do
  return { zone := ← num "zone" args, en := ← arg "en" readYesNo args, wet := ← num "wet" args
           openLevel := ← num "open" args, pats := ← arg "pats" (readListOrNone readInt) args
           cpol := ← arg "cpol" readCablePolicy args, esc := ← num "esc" args, cnt := ← num "cnt" args
           scan := ← num "scan" args }

/-- The arguments of PATTERN SET. -/
def readPatternSet (args : List RawArg) : Option PatternArgs := do
  return { pat := ← num "pat" args, en := ← arg "en" readYesNo args
           sel := ← arg "sel" (readListOrNone readPair) args, min := ← num "min" args }

/-- The arguments of RESPONSE SET. -/
def readResponseSet (args : List RawArg) : Option ResponseArgs := do
  return { zone := ← num "zone" args, act := ← arg "act" readLeakAction args
           chs := ← arg "chs" (readListOrNone readInt) args, valve := ← arg "valve" readIndexArg args
           esc := ← arg "esc" readEscAction args, vall := ← arg "vall" readYesNo args
           travel := ← num "travel" args }

/-- The arguments of ROUTE SET. -/
def readRouteSet (args : List RawArg) : Option RouteArgs := do
  return { channel := ← arg "channel" readRoute args, budget := ← arg "budget" readRoute args
           plan := ← arg "plan" readRoute args, shelf := ← arg "shelf" readRoute args
           source := ← arg "source" readRoute args, leak := ← arg "leak" readRoute args
           valve := ← arg "valve" readRoute args, system := ← arg "system" readRoute args
           svc := ← arg "svc" readOnOff args }

/-- The arguments of TALLY SET. -/
def readTallySet (args : List RawArg) : Option TallyArgs := do
  return { ctr := ← num "ctr" args, ev := ← num "ev" args, lim := ← arg "lim" readLimit args
           pair := ← arg "pair" readOnOff args }

/-- The command of a verb with its arguments read; CHANNEL START with gang= alone is the gang start. -/
def readArgs (i : Instr) (args : List RawArg) : Option Instr :=
  match i with
  | .channelStart l _ => (readTarget args).map fun t =>
      if t.ch.isNone && t.gang.isSome then .channelStartGang l t else .channelStart l t
  | .channelStop l _ => (readTarget args).map (.channelStop l)
  | .channelCut l _ => (readTarget args).map (.channelCut l)
  | .channelClear l _ => (num "ch" args).map (.channelClear l)
  | .channelSet l _ _ => (num "ch" args).bind fun c => (readChannelSet args).map (.channelSet l c)
  | .channelRead l _ => (num "ch" args).map (.channelRead l)
  | .policySet l _ => (readPolicySet args).map (.policySet l)
  | .budgetRead l _ => (arg "sel" readSel args).map (.budgetRead l)
  | .admissionRead l _ => (num "pos" args).map (.admissionRead l)
  | .planWrite l _ => (readPlanWrite args).map (.planWrite l)
  | .planRead l _ => (num "step" args).map (.planRead l)
  | .planStart l _ => (arg "kind" readKind args).map (.planStart l)
  | .moduleRead l _ _ => (num "rm" args).bind fun r => (num "bm" args).map (.moduleRead l r)
  | .rectifierEnable l _ => (num "rm" args).map (.rectifierEnable l)
  | .rectifierDisable l _ => (num "rm" args).map (.rectifierDisable l)
  | .sourceRead l _ => (arg "sel" (readWord [("SET", ())]) args).map fun x => .sourceRead l x.isSome
  | .rideSet l _ => (readRideSet args).map (.rideSet l)
  | .chargeSet l _ => (readChargeSet args).map (.chargeSet l)
  | .restore l _ => (arg "tier" readTier args).map (.restore l)
  | .zoneSet l _ => (readZoneSet args).map (.zoneSet l)
  | .zoneRead l _ _ => (num "zone" args).bind fun z => (num "pat" args).map (.zoneRead l z)
  | .patternSet l _ => (readPatternSet args).map (.patternSet l)
  | .leakClear l _ => (num "zone" args).map (.leakClear l)
  | .responseSet l _ => (readResponseSet args).map (.responseSet l)
  | .overridePrepare l _ => (num "ch" args).map (.overridePrepare l)
  | .overrideCommit l _ => (num "ch" args).map (.overrideCommit l)
  | .valveClose l _ => (num "cv" args).map (.valveClose l)
  | .valveOpen l _ => (num "cv" args).map (.valveOpen l)
  | .valveRead l _ => (num "cv" args).map (.valveRead l)
  | .fetch l _ => (num "n" args).map (.fetch l)
  | .routeSet l _ => (readRouteSet args).map (.routeSet l)
  | .statusClear l _ => (arg "grp" readGroups args).map (.statusClear l)
  | .tallySet l _ => (readTallySet args).map (.tallySet l)
  | .tallyStart l _ => (num "ctr" args).map (.tallyStart l)
  | .tallyStop l _ => (num "ctr" args).map (.tallyStop l)
  | .tallyClear l _ => (num "ctr" args).map (.tallyClear l)
  | .tallyRead l _ => (num "ctr" args).map (.tallyRead l)
  | i => some i

/-- The command of a verb with the arguments of its line; none is a SYNTAX refusal (R172, test 4). -/
def withArgs (i : Instr) (args : List RawArg) : Option Instr :=
  if keywordsFit i args then readArgs i args else none

/-! ### The text of response and report lines (R170, R174) -/

/-- A number in decimal. -/
def natText (n : Nat) : List Char := Nat.toDigits 10 n

/-- A number in decimal, with a leading minus sign when negative. -/
def intText (n : Int) : List Char :=
  match n with
  | .ofNat k => natText k
  | .negSucc k => '-' :: natText (k + 1)

/-- A list written with commas, an empty one as NONE. -/
def listText (l : List (List Char)) : List Char :=
  match l with
  | [] => "NONE".toList
  | w :: ws => w ++ ws.flatMap fun x => ',' :: x

/-- A class of a history or pattern as a letter. -/
def wetChar : Wetness → Char
  | .wet => 'W'
  | .dry => 'D'

/-- The value of a result field as text. -/
def Val.text : Val → List Char
  | .num n => intText n
  | .word w => w.toList
  | .yesNo b => (if b then "YES" else "NO").toList
  | .onOff b => (if b then "ON" else "OFF").toList
  | .nums l => listText (l.map natText)
  | .words l => listText (l.map String.toList)
  | .history l => if l.isEmpty then "NONE".toList else l.map wetChar
  | .selection l => listText (l.map fun p => natText p.1 ++ [wetChar p.2])

/-- A result field as text, preceded by a space. -/
def Field.text (f : Field) : List Char := ' ' :: f.key.toList ++ '=' :: f.val.text

/-- A hexadecimal digit in capitals (R170). -/
def hexChar (n : Nat) : Char := (Nat.toDigits 16 n).headD '0' |>.toUpper

/-- A line with its check field. -/
def withCheck (t : List Char) : List Char :=
  let body := t ++ [' ']
  let k := checkSum body
  body ++ ['*', hexChar (k / 16), hexChar (k % 16)]

/-- The status word of a response (R174). -/
def Status.text : Status → List Char
  | .ok => "OK".toList
  | .adjusted => "ADJUSTED".toList
  | .err c => "ERR ".toList ++ c.word.toList

/-- The fields of a report line (Table 9-2). -/
def Report.fields (r : Report) : List Field :=
  [fWord "kind" r.kind.word, fWord "grp" (Group.word r.kind.group), fYes "alarm" r.alarm, fStamp "t" r.stamp] ++
    fOpt "subj" r.subject ++ fOpt "v1" r.v1 ++ fOpt "v2" r.v2

/-- A report line carries the tag of the FETCH (R179). -/
def reportLine (tag : List Char) (r : Report) : List Char :=
  withCheck (tag ++ " RPT".toList ++ r.fields.flatMap Field.text)

/-- The response line of an output item. -/
def responseLine (tag : List Char) (r : Reply) : List Char :=
  withCheck (tag ++ ' ' :: r.status.text ++ r.fields.flatMap Field.text)

/-- The lines of an output item that are still to send, in their order (R173). -/
def OutItem.lines (o : OutItem) : List (List Char) :=
  (if o.begun then [] else [responseLine o.tag o.reply]) ++ o.reply.reports.map (reportLine o.tag)

end Sys2Proof.Machine
end

