-- ==== Sys2Proof/Machine/Link.lean ====
section
/-! DEFINITION. The line buffers (R173): receiving a line, taking the head line, permissions (R175), and handing the
command to the block that owns its verb. -/

namespace Sys2Proof.Machine

/-! ### Permissions (R175) -/

/-- The classes of the verb index (Table 9-6). -/
inductive VerbClass where
  | read | link | leakValve | tally | control | setting | system | reset
deriving DecidableEq, Repr

/-- The class of a verb (Table 9-6); an event has none. -/
def verbClass : Instr → Option VerbClass
  | .channelStart _ _ | .channelStartGang _ _ | .channelStop _ _ | .channelCut _ _ | .channelClear _ _
  | .channelSet _ _ _ | .planWrite _ _ | .planStart _ _ | .planPause _ | .planResume _ | .planStop _
  | .rectifierEnable _ _ | .rectifierDisable _ _ | .restore _ _ => some .control
  | .channelRead _ _ | .budgetRead _ _ | .admissionRead _ _ | .planRead _ _ | .planStatus _ | .moduleRead _ _ _
  | .linkStats _ | .sourceRead _ _ | .zoneRead _ _ _ | .valveRead _ _ | .captureRead _ | .statusRead _
  | .tallyRead _ _ | .timeRead _ | .identify _ => some .read
  | .policySet _ _ | .rideSet _ _ | .chargeSet _ _ | .routeSet _ _ => some .setting
  | .zoneSet _ _ | .patternSet _ _ | .leakClear _ _ | .responseSet _ _ | .overridePrepare _ _
  | .overrideCommit _ _ | .overrideLockout _ | .valveClose _ _ | .valveOpen _ _ | .captureClear _ => some .leakValve
  | .fetch _ _ | .statusClear _ _ | .ping _ => some .link
  | .configSave _ | .configDefaults _ => some .system
  | .reset _ => some .reset
  | .tallySet _ _ | .tallyStart _ _ | .tallyStop _ _ | .tallyClear _ _ => some .tally
  | _ => none

/-- A port permits a class, with service control as it stands (R175). -/
def permits (p : Port) (svc : Bool) (k : VerbClass) : Bool :=
  match p, k with
  | .manager, _ => true
  | .service, .read | .service, .link | .service, .leakValve | .service, .tally => true
  | .service, .control | .service, .setting | .service, .system => svc
  | .service, .reset => false

/-- A command carries svc=, which the service port may not write (R175). -/
def carriesSvc : Instr → Bool
  | .routeSet _ a => a.svc.isSome
  | _ => false

/-- The port permits the verb (R172, test 3). -/
def verbPermitted (p : Port) (i : Instr) (svcArg : Bool) (s : State) : Bool :=
  (match verbClass i with
    | some k => permits p s.cfg.svc k
    | none => false) &&
  !(decide (p = .service) && svcArg)

/-! ### The command goes to the block that owns it (R172, test 4) -/

/-- The block that owns the verb makes its tests and acts. An event is no line. -/
def runCommand : Instr → State → State × Reply
  | .channelStart _ a, s => doChannelStart a s
  | .channelStartGang _ a, s => doChannelStartGang a s
  | .channelStop _ a, s => doChannelStop a s
  | .channelCut _ a, s => doChannelCut a s
  | .channelClear _ c, s => doChannelClear c s
  | .channelSet _ c a, s => doChannelSet c a s
  | .channelRead _ c, s => doChannelRead c s
  | .policySet _ a, s => doPolicySet a s
  | .budgetRead _ x, s => doBudgetRead x s
  | .admissionRead _ p, s => doAdmissionRead p s
  | .planWrite _ a, s => doPlanWrite a s
  | .planRead _ n, s => doPlanRead n s
  | .planStart _ k, s => doPlanStart k s
  | .planPause _, s => doPlanPause s
  | .planResume _, s => doPlanResume s
  | .planStop _, s => doPlanStop s
  | .planStatus _, s => doPlanStatus s
  | .moduleRead _ r b, s => doModuleRead r b s
  | .rectifierEnable _ r, s => doRectifierEnable r s
  | .rectifierDisable _ r, s => doRectifierDisable r s
  | .linkStats _, s => doLinkStats s
  | .sourceRead _ x, s => doSourceRead x s
  | .rideSet _ a, s => doRideSet a s
  | .chargeSet _ a, s => doChargeSet a s
  | .restore _ t, s => doRestore t s
  | .zoneSet _ a, s => doZoneSet a s
  | .zoneRead _ z p, s => doZoneRead z p s
  | .patternSet _ a, s => doPatternSet a s
  | .leakClear _ z, s => doLeakClear z s
  | .responseSet _ a, s => doResponseSet a s
  | .overridePrepare l c, s => doOverridePrepare l.port c s
  | .overrideCommit l c, s => doOverrideCommit l.port c s
  | .overrideLockout _, s => doOverrideLockout s
  | .valveClose _ v, s => doValveClose v s
  | .valveOpen _ v, s => doValveOpen v s
  | .valveRead _ v, s => doValveRead v s
  | .captureRead _, s => doCaptureRead s
  | .captureClear _, s => doCaptureClear s
  | .fetch l n, s => doFetch l.port n s
  | .routeSet _ a, s => doRouteSet a s
  | .statusRead _, s => doStatusRead s
  | .statusClear _ g, s => doStatusClear g s
  | .ping l, s => doPing l.port s
  | .configSave _, s => doConfigSave s
  | .configDefaults _, s => doConfigDefaults s
  | .reset _, s => doReset s
  | .tallySet _ a, s => doTallySet a s
  | .tallyStart _ c, s => doTallyStart c s
  | .tallyStop _ c, s => doTallyStop c s
  | .tallyClear _ c, s => doTallyClear c s
  | .tallyRead _ c, s => doTallyRead c s
  | .timeRead _, s => doTimeRead s
  | .identify _, s => doIdentify s
  | _, s => refuse .syntaxError s

/-- A line that is the OVERRIDE COMMIT of R157 is left to it; any other cancels a live sequence of its port (R156). -/
def lineAtOverride (p : Port) (i : Instr) (s : State) : State :=
  match i with
  | .overrideCommit _ _ => s
  | _ => cancelOverride p s

/-- A command whose line has passed test 2 of R172: permission, then the verb's own tests and its effect, with
everything that follows from it in the same step. -/
def runLine (p : Port) (i : Instr) (s : State) : State × Reply :=
  if verbPermitted p i (carriesSvc i) s then
    let x := runCommand i (lineAtOverride p i s)
    (settle x.1, x.2)
  else refuse .denied (cancelOverride p s)

/-- svc= stands among the arguments of a ROUTE SET. -/
def writesSvc (i : Instr) (args : List RawArg) : Bool :=
  match i with
  | .routeSet _ _ => args.any fun a => a.1 == "svc".toList
  | _ => false

/-- A text that is taken: the tests of R172 in their order. -/
def runText (l : LineId) (body : List Char) (s : State) : State × Reply :=
  match structureOf body with
  | none => refuse .syntaxError (cancelOverride l.port s)
  | some (ws, args) =>
    match verbOf l ws with
    | none => refuse .syntaxError (cancelOverride l.port s)
    | some i =>
      if verbPermitted l.port i (writesSvc i args) s then
        match withArgs i args with
        | none => refuse .syntaxError (cancelOverride l.port s)
        | some j => runLine l.port j s
      else refuse .denied (cancelOverride l.port s)

/-- A line is parsed and acted on (R173). -/
def runBody (p : Port) (b : BufLine) (s : State) : State × Reply :=
  match b.body with
  | .text t => runText ⟨p, b.tag⟩ t s
  | .cmd i => runLine p i s

/-! ### The line buffer (R173) -/

/-- A response joins the end of the port's output. -/
def placeOutput (p : Port) (o : OutItem) (s : State) : State :=
  s.modPort p fun c => { c with output := c.output ++ [o] }

/-- The first line of a buffer is marked taken, and its notices are handed over. -/
def markTaken : List BufLine → List BufLine
  | [] => []
  | b :: l => { b with taken := true, notices := 0 } :: l

/-- The notices that wait behind the head line are handed to the Leak Response Unit (R173). -/
def handNotices (p : Port) (n : Nat) (s : State) : State := if n = 0 then s else cancelOverride p s

/-- The head line of a buffer is taken, unless it has been taken already (R173). -/
def takeHead (p : Port) (s : State) : State :=
  match (s.port p).buffer with
  | [] => s
  | b :: _ =>
    if b.taken then s
    else
      let x := runBody p b s
      let t := placeOutput p ⟨b.tag, .line, x.2, false⟩ x.1
      let t := t.modPort p fun c => { c with buffer := markTaken c.buffer }
      handNotices p b.notices t

/-- A valid line on the manager port ends a silence and restarts the silence timer (R127, R128). -/
def heard (p : Port) (s : State) : State :=
  match p with
  | .manager => settle (endSilence s)
  | .service => s

/-- The notice of a line answered BUSY is attached to the last line of the buffer (R173, log 31). -/
def addNotice : List BufLine → List BufLine
  | [] => []
  | [b] => [{ b with notices := b.notices + 1 }]
  | b :: l => b :: addNotice l

/-- The pending notices of a port (Table 9-1). -/
def pendingNotices (c : PortCtx) : Nat := (c.buffer.map BufLine.notices).sum

/-- The answer ERR BUSY joins the output at once (R173, R184). -/
def answerBusy (p : Port) (tag : List Char) (s : State) : State := placeOutput p ⟨tag, .busy, errReply .busy, false⟩ s

/-- A received line finds the buffer full (R173). -/
def receiveBusy (p : Port) (tag : List Char) (s : State) : State :=
  let s := answerBusy p tag s
  if pendingNotices (s.port p) < Config.noticesMax then
    s.modPort p fun c => { c with buffer := addNotice c.buffer }
  else cancelOverride p s

/-- A received line joins the buffer, and is taken at once when it is the head (R173). -/
def receiveRoom (p : Port) (tag : List Char) (body : LineBody) (s : State) : State :=
  takeHead p (s.modPort p fun c => { c with buffer := c.buffer ++ [⟨tag, body, false, 0⟩] })

/-- A received line (R173); until load completion it is answered BUSY and enters no buffer (R184); without power
nothing is received. -/
def receive (p : Port) (tag : List Char) (body : LineBody) (s : State) : State :=
  match s.power with
  | .off => s
  | .loading => answerBusy p tag s
  | .running =>
    let s := heard p s
    if (s.port p).buffer.length < Config.lineBufferMax then receiveRoom p tag body s else receiveBusy p tag s

/-- A line is discarded without a response (R171). -/
def discardLine (p : Port) (s : State) : State :=
  count .linesRejected (s.modPort p fun c => { c with rejected := satInc 65535 c.rejected })

/-- CR LF ends a line: its text is what the receive text holds and what has just arrived. An overlong text, and
one without tag or good check, is discarded; an empty line is ignored (R171). -/
def lineEnds (p : Port) (t : List Char) (s : State) : State :=
  let overlong := (s.port p).overlong
  let text := (s.port p).rx ++ t
  let s := s.modPort p fun c => { c with rx := [], overlong := false }
  if overlong then discardLine p s
  else if text.isEmpty then s
  else
    match receivedLine text with
    | none => discardLine p s
    | some (tag, body) => receive p tag (.text body) s

/-- What is left of an output item when its next line has been sent: first the response, then its report lines one
by one; nothing after the last (R173). -/
def OutItem.afterLine (o : OutItem) : Option OutItem :=
  match o.begun, o.reply.reports with
  | _, [] => none
  | false, _ :: _ => some { o with begun := true }
  | true, [_] => none
  | true, _ :: l => some { o with reply := { o.reply with reports := l } }

/-- An item of a port's output has been sent whole: its line leaves the buffer and the next line is taken (R173,
log 6). -/
def itemSent (p : Port) (o : OutItem) (s : State) : State :=
  let s := s.modPort p fun c => { c with output := c.output.tail }
  match o.owner with
  | .busy => s
  | .line => takeHead p (s.modPort p fun c => { c with buffer := c.buffer.tail })

/-- One line of a port's output has been sent; the buffer keeps its line until the last line of the item (R173). -/
def outputSent (p : Port) (s : State) : State :=
  match (s.port p).output with
  | [] => s
  | o :: rest =>
    match o.afterLine with
    | some left => s.modPort p fun c => { c with output := left :: rest }
    | none => itemSent p o s

/-- A response to RESET waits to be sent on the manager port (R183). -/
def resetWaits (s : State) : Bool := s.link.manager.output.any fun o => o.reply.resets

/-- The front item of the manager port's output is the response to RESET. -/
def resetFront (s : State) : Bool :=
  match s.link.manager.output with
  | o :: _ => o.reply.resets
  | [] => false

end Sys2Proof.Machine
end

