-- ==== Sys2Proof/Machine/Commands.lean ====
section
/-! DEFINITION. The meanings of the 53 verb rows of spec/opcode_table.json: a well-formed line with the verb arrives on its
port (log 6), is received (R173) and, when its turn comes, taken by the block that owns the verb. -/

namespace Sys2Proof.Machine

open Host (Outcome)

/-- CHANNEL START ch= (R19). -/
def execChannelStart (l : LineId) (a : TargetArgs) (s : State) : Outcome State Fault Refusal :=
  .next (receive l.port l.tag (.cmd (.channelStart l a)) s)

/-- CHANNEL START gang= (R20). -/
def execChannelStartGang (l : LineId) (a : TargetArgs) (s : State) : Outcome State Fault Refusal :=
  .next (receive l.port l.tag (.cmd (.channelStartGang l a)) s)

/-- CHANNEL STOP (R21). -/
def execChannelStop (l : LineId) (a : TargetArgs) (s : State) : Outcome State Fault Refusal :=
  .next (receive l.port l.tag (.cmd (.channelStop l a)) s)

/-- CHANNEL CUT (R21). -/
def execChannelCut (l : LineId) (a : TargetArgs) (s : State) : Outcome State Fault Refusal :=
  .next (receive l.port l.tag (.cmd (.channelCut l a)) s)

/-- CHANNEL CLEAR (R22). -/
def execChannelClear (l : LineId) (ch : Option Int) (s : State) : Outcome State Fault Refusal :=
  .next (receive l.port l.tag (.cmd (.channelClear l ch)) s)

/-- CHANNEL SET (R23). -/
def execChannelSet (l : LineId) (ch : Option Int) (a : ChannelSetArgs) (s : State) : Outcome State Fault Refusal :=
  .next (receive l.port l.tag (.cmd (.channelSet l ch a)) s)

/-- CHANNEL READ (R24). -/
def execChannelRead (l : LineId) (ch : Option Int) (s : State) : Outcome State Fault Refusal :=
  .next (receive l.port l.tag (.cmd (.channelRead l ch)) s)

/-- POLICY SET (R47). -/
def execPolicySet (l : LineId) (a : PolicyArgs) (s : State) : Outcome State Fault Refusal :=
  .next (receive l.port l.tag (.cmd (.policySet l a)) s)

/-- BUDGET READ (R48). -/
def execBudgetRead (l : LineId) (sel : Option BudgetSel) (s : State) : Outcome State Fault Refusal :=
  .next (receive l.port l.tag (.cmd (.budgetRead l sel)) s)

/-- ADMISSION READ (R49). -/
def execAdmissionRead (l : LineId) (pos : Option Int) (s : State) : Outcome State Fault Refusal :=
  .next (receive l.port l.tag (.cmd (.admissionRead l pos)) s)

/-- PLAN WRITE (R71). -/
def execPlanWrite (l : LineId) (a : PlanWriteArgs) (s : State) : Outcome State Fault Refusal :=
  .next (receive l.port l.tag (.cmd (.planWrite l a)) s)

/-- PLAN READ (R72). -/
def execPlanRead (l : LineId) (step : Option Int) (s : State) : Outcome State Fault Refusal :=
  .next (receive l.port l.tag (.cmd (.planRead l step)) s)

/-- PLAN START (R68). -/
def execPlanStart (l : LineId) (kind : Option RunKind) (s : State) : Outcome State Fault Refusal :=
  .next (receive l.port l.tag (.cmd (.planStart l kind)) s)

/-- PLAN PAUSE (R70). -/
def execPlanPause (l : LineId) (s : State) : Outcome State Fault Refusal :=
  .next (receive l.port l.tag (.cmd (.planPause l)) s)

/-- PLAN RESUME (R69). -/
def execPlanResume (l : LineId) (s : State) : Outcome State Fault Refusal :=
  .next (receive l.port l.tag (.cmd (.planResume l)) s)

/-- PLAN STOP (R67). -/
def execPlanStop (l : LineId) (s : State) : Outcome State Fault Refusal :=
  .next (receive l.port l.tag (.cmd (.planStop l)) s)

/-- PLAN STATUS (R73). -/
def execPlanStatus (l : LineId) (s : State) : Outcome State Fault Refusal :=
  .next (receive l.port l.tag (.cmd (.planStatus l)) s)

/-- MODULE READ (R89). -/
def execModuleRead (l : LineId) (rm : Option Int) (bm : Option Int) (s : State) : Outcome State Fault Refusal :=
  .next (receive l.port l.tag (.cmd (.moduleRead l rm bm)) s)

/-- RECTIFIER ENABLE (R88). -/
def execRectifierEnable (l : LineId) (rm : Option Int) (s : State) : Outcome State Fault Refusal :=
  .next (receive l.port l.tag (.cmd (.rectifierEnable l rm)) s)

/-- RECTIFIER DISABLE (R87). -/
def execRectifierDisable (l : LineId) (rm : Option Int) (s : State) : Outcome State Fault Refusal :=
  .next (receive l.port l.tag (.cmd (.rectifierDisable l rm)) s)

/-- LINK STATS (R90). -/
def execLinkStats (l : LineId) (s : State) : Outcome State Fault Refusal :=
  .next (receive l.port l.tag (.cmd (.linkStats l)) s)

/-- SOURCE READ (R114). -/
def execSourceRead (l : LineId) (settings : Bool) (s : State) : Outcome State Fault Refusal :=
  .next (receive l.port l.tag (.cmd (.sourceRead l settings)) s)

/-- RIDE SET (R113). -/
def execRideSet (l : LineId) (a : RideArgs) (s : State) : Outcome State Fault Refusal :=
  .next (receive l.port l.tag (.cmd (.rideSet l a)) s)

/-- CHARGE SET (R129). -/
def execChargeSet (l : LineId) (a : ChargeArgs) (s : State) : Outcome State Fault Refusal :=
  .next (receive l.port l.tag (.cmd (.chargeSet l a)) s)

/-- RESTORE (R125). -/
def execRestore (l : LineId) (tier : Option TierArg) (s : State) : Outcome State Fault Refusal :=
  .next (receive l.port l.tag (.cmd (.restore l tier)) s)

/-- ZONE SET (R144). -/
def execZoneSet (l : LineId) (a : ZoneArgs) (s : State) : Outcome State Fault Refusal :=
  .next (receive l.port l.tag (.cmd (.zoneSet l a)) s)

/-- ZONE READ (R146). -/
def execZoneRead (l : LineId) (zone : Option Int) (pat : Option Int) (s : State) : Outcome State Fault Refusal :=
  .next (receive l.port l.tag (.cmd (.zoneRead l zone pat)) s)

/-- PATTERN SET (R145). -/
def execPatternSet (l : LineId) (a : PatternArgs) (s : State) : Outcome State Fault Refusal :=
  .next (receive l.port l.tag (.cmd (.patternSet l a)) s)

/-- LEAK CLEAR (R142). -/
def execLeakClear (l : LineId) (zone : Option Int) (s : State) : Outcome State Fault Refusal :=
  .next (receive l.port l.tag (.cmd (.leakClear l zone)) s)

/-- RESPONSE SET (R154). -/
def execResponseSet (l : LineId) (a : ResponseArgs) (s : State) : Outcome State Fault Refusal :=
  .next (receive l.port l.tag (.cmd (.responseSet l a)) s)

/-- OVERRIDE PREPARE (R155). -/
def execOverridePrepare (l : LineId) (ch : Option Int) (s : State) : Outcome State Fault Refusal :=
  .next (receive l.port l.tag (.cmd (.overridePrepare l ch)) s)

/-- OVERRIDE COMMIT (R157). -/
def execOverrideCommit (l : LineId) (ch : Option Int) (s : State) : Outcome State Fault Refusal :=
  .next (receive l.port l.tag (.cmd (.overrideCommit l ch)) s)

/-- OVERRIDE LOCKOUT (R159). -/
def execOverrideLockout (l : LineId) (s : State) : Outcome State Fault Refusal :=
  .next (receive l.port l.tag (.cmd (.overrideLockout l)) s)

/-- VALVE CLOSE (R163). -/
def execValveClose (l : LineId) (cv : Option Int) (s : State) : Outcome State Fault Refusal :=
  .next (receive l.port l.tag (.cmd (.valveClose l cv)) s)

/-- VALVE OPEN (R163). -/
def execValveOpen (l : LineId) (cv : Option Int) (s : State) : Outcome State Fault Refusal :=
  .next (receive l.port l.tag (.cmd (.valveOpen l cv)) s)

/-- VALVE READ (R164). -/
def execValveRead (l : LineId) (cv : Option Int) (s : State) : Outcome State Fault Refusal :=
  .next (receive l.port l.tag (.cmd (.valveRead l cv)) s)

/-- CAPTURE READ (R166). -/
def execCaptureRead (l : LineId) (s : State) : Outcome State Fault Refusal :=
  .next (receive l.port l.tag (.cmd (.captureRead l)) s)

/-- CAPTURE CLEAR (R166). -/
def execCaptureClear (l : LineId) (s : State) : Outcome State Fault Refusal :=
  .next (receive l.port l.tag (.cmd (.captureClear l)) s)

/-- FETCH (R179). -/
def execFetch (l : LineId) (n : Option Int) (s : State) : Outcome State Fault Refusal :=
  .next (receive l.port l.tag (.cmd (.fetch l n)) s)

/-- ROUTE SET (R181). -/
def execRouteSet (l : LineId) (a : RouteArgs) (s : State) : Outcome State Fault Refusal :=
  .next (receive l.port l.tag (.cmd (.routeSet l a)) s)

/-- STATUS READ (R180). -/
def execStatusRead (l : LineId) (s : State) : Outcome State Fault Refusal :=
  .next (receive l.port l.tag (.cmd (.statusRead l)) s)

/-- STATUS CLEAR (R180). -/
def execStatusClear (l : LineId) (grp : Option GroupArg) (s : State) : Outcome State Fault Refusal :=
  .next (receive l.port l.tag (.cmd (.statusClear l grp)) s)

/-- PING (R182). -/
def execPing (l : LineId) (s : State) : Outcome State Fault Refusal :=
  .next (receive l.port l.tag (.cmd (.ping l)) s)

/-- CONFIG SAVE (R187). -/
def execConfigSave (l : LineId) (s : State) : Outcome State Fault Refusal :=
  .next (receive l.port l.tag (.cmd (.configSave l)) s)

/-- CONFIG DEFAULTS (R188). -/
def execConfigDefaults (l : LineId) (s : State) : Outcome State Fault Refusal :=
  .next (receive l.port l.tag (.cmd (.configDefaults l)) s)

/-- RESET (R194). -/
def execReset (l : LineId) (s : State) : Outcome State Fault Refusal :=
  .next (receive l.port l.tag (.cmd (.reset l)) s)

/-- TALLY SET (R191). -/
def execTallySet (l : LineId) (a : TallyArgs) (s : State) : Outcome State Fault Refusal :=
  .next (receive l.port l.tag (.cmd (.tallySet l a)) s)

/-- TALLY START (R191). -/
def execTallyStart (l : LineId) (ctr : Option Int) (s : State) : Outcome State Fault Refusal :=
  .next (receive l.port l.tag (.cmd (.tallyStart l ctr)) s)

/-- TALLY STOP (R191). -/
def execTallyStop (l : LineId) (ctr : Option Int) (s : State) : Outcome State Fault Refusal :=
  .next (receive l.port l.tag (.cmd (.tallyStop l ctr)) s)

/-- TALLY CLEAR (R191). -/
def execTallyClear (l : LineId) (ctr : Option Int) (s : State) : Outcome State Fault Refusal :=
  .next (receive l.port l.tag (.cmd (.tallyClear l ctr)) s)

/-- TALLY READ (R191). -/
def execTallyRead (l : LineId) (ctr : Option Int) (s : State) : Outcome State Fault Refusal :=
  .next (receive l.port l.tag (.cmd (.tallyRead l ctr)) s)

/-- TIME READ (R192). -/
def execTimeRead (l : LineId) (s : State) : Outcome State Fault Refusal :=
  .next (receive l.port l.tag (.cmd (.timeRead l)) s)

/-- IDENTIFY (R193). -/
def execIdentify (l : LineId) (s : State) : Outcome State Fault Refusal :=
  .next (receive l.port l.tag (.cmd (.identify l)) s)

end Sys2Proof.Machine
end

