-- ==== Sys2Proof/Machine/Reset.lean ====
section
/-! DEFINITION. Power-up, load completion, warm reset, save completion and loss of power (10, with the reset rules of
every chapter). -/

namespace Sys2Proof.Machine

/-! ### Warm reset by block (Table 10-3) -/

/-- The override mark after a warm reset (R25): kept on a held channel that is RAMPING or ON. -/
def warmOverride (r : Channel) : Bool :=
  match r.state with
  | .ramping | .on => r.override && !r.holds.isEmpty
  | .off | .pending | .warning | .faulted => false

/-- A channel at warm reset (R25, R16). -/
def warmChannel (now : Stamp) (cfg : ChanCfg) (r : Channel) : Channel :=
  let base := { r with override := warmOverride r, confirm := r.confirm.map fun _ => ⟨now, Config.stopConfirmMs⟩ }
  match r.state with
  | .off | .on | .faulted => base
  | .ramping => { base with ramp := some ⟨now, cfg.ramp⟩ }
  | .warning =>
    { base with state := .off, since := now, warn := none, confirm := some ⟨now, Config.stopConfirmMs⟩ }
  | .pending => { base with state := .off, since := now }

/-- The Channel Controller at warm reset (R25). -/
def warmChannels (s : State) : State :=
  { s with chans := Vector.ofFn fun c => warmChannel s.now s.cfg.chan[c] s.chans[c] }

/-- The Budget Unit at warm reset (R50). -/
def warmBudget (s : State) : State :=
  s.modBudget fun b =>
    { b with queue := [], spacing := none, late := none, grace := none, reported := false, inflight := [] }

/-- The Shelf Link Controller at warm reset (R92). -/
def warmShelf (s : State) : State :=
  let s := s.modShelf fun h =>
    { h with rect := Vector.ofFn fun n => { h.rect[n] with misses := 0 }
             batt := Vector.ofFn fun n => { h.batt[n] with misses := 0 }
             debounce := s.restart h.debounce s.cfg.ride.deb }
  beginRound s

/-- The Source Controller at warm reset (R115, R130). A qualify or walk-in timer that restarts with a setting of 0
stands until its next expiry command: the model's choice (log 43). -/
def warmSource (s : State) : State :=
  s.modSource fun x =>
    { x with qualify := s.restart x.qualify s.cfg.ride.qual, walkIn := s.restart x.walkIn s.cfg.ride.walk
             placed := [], stage := 0, policy := s.cfg.charge.policy, silence := silenceTimer s }

/-- A zone at warm reset (R147). -/
def warmZone (now : Stamp) (esc : Nat) (r : ZoneRec) : ZoneRec :=
  match r.state with
  | .off | .escalated | .cableFault => r
  | .watch => { r with history := [], cable := 0, cls := none }
  | .wet => { r with esc := if esc = 0 then none else some ⟨now, esc⟩ }

/-- The Leak Monitor at warm reset (R147). -/
def warmZones (s : State) : State :=
  { s with zones := Vector.ofFn fun z => warmZone s.now s.cfg.zone[z].esc s.zones[z]
           scan := some (s.timer s.cfg.scanPeriod) }

/-- The Leak Response Unit at warm reset (R167). -/
def warmResp (s : State) : State :=
  s.modResp fun r =>
    { r with seq := none
             valve := Vector.ofFn fun n => { r.valve[n] with travel := s.restart r.valve[n].travel s.cfg.travel } }

/-- A port context at warm reset (R183). -/
def warmPort (c : PortCtx) : PortCtx :=
  { c with rx := [], overlong := false, buffer := [], output := [], queue := [], lost := 0 }

/-- The Message Link Unit at warm reset (R183). -/
def warmLink (s : State) : State :=
  s.modLink fun k => { manager := warmPort k.manager, service := warmPort k.service, flags := .clear }

/-- A tally counter at warm reset (R191). -/
def warmCounter (c : Counter) : Counter := { c with value := 0, overflow := false, running := false }

/-- Configuration and Tallies at warm reset (R191, R193). -/
def warmTally (kind : ResetKind) (s : State) : State :=
  { (s.modTally fun t => { t with ctr := Vector.ofFn fun n => warmCounter t.ctr[n] }) with
    cause := ⟨kind, satInc 65535 s.cause.warmCount⟩ }

/-- Every block takes its warm-reset values (R194, Table 10-3). -/
def warmBlocks (kind : ResetKind) (s : State) : State :=
  let s := (s.modWork fun _ => .none).setRun none
  warmTally kind (warmLink (warmResp (warmZones (warmSource (warmShelf (warmBudget (warmChannels s)))))))

/-- What follows the blocks' warm-reset values (R50, R115, R130). In RIDE input return is tested on the figures of the
warm-reset evaluation, and a ride evaluation is due if the rack is still in RIDE; elsewhere input loss is tested and the
evaluation is due, with the tests that come after it. -/
def resetTests (s : State) : State :=
  let s := if s.source.state = .ride then testReturn (evaluate s) else markEval (testLoss s)
  markRestore (if s.source.state = .ride then markRide s else s)

/-- A warm reset (R194). -/
def warmReset (kind : ResetKind) (s : State) : State := resetTests (warmBlocks kind s)

/-- The warm reset that the RESET command asked for begins when its response has been sent (R183). A pin assertion
that arrived before this and is overtaken by it is no further command: one that comes afterwards is a new assertion and
starts a second reset (R194, log 28). -/
def beginCommandReset (s : State) : State := if resetWaits s then warmReset .warmCommand s else s

/-! ### Power-up and load completion (R186, R195) -/

/-- The store after a loss of power: a save in flight is lost (R187). -/
def Store.afterLoss : Store → Store
  | .writing _ _ => .invalid
  | .invalid => .invalid
  | .valid image => .valid image

/-- The part without power: the store is left, every record is lost (R187; the values are DESIGN CHOICE, log 26). -/
def blank (p : Power) (s : State) : State :=
  { State.reset with power := p, store := s.store.afterLoss, orders := s.orders, pending := s.pending }

/-- The working configuration that a cold start loads (R186). -/
def Store.load : Store → WorkCfg × CfgSource
  | .valid image => (image, .store)
  | .invalid => (defaultCfg, .defaults)
  | .writing _ _ => (defaultCfg, .defaults)

/-- A valve's state from its sampled contacts (R168). -/
def valveFromContacts (closed opened : Bool) : ValveState :=
  match closed, opened with
  | true, false => .closed
  | false, true => .opened
  | false, false => .fault
  | true, true => .fault

/-- A valve at load completion (R168). -/
def coldValve (closed opened : Bool) : Valve :=
  { state := valveFromContacts closed opened, zones := [], hostClose := false, travel := none
    closedContact := closed, openContact := opened }

/-- A channel at load completion (R1, R16): its levels as sampled, its stop-confirm timer started. -/
def coldChannel (now : Stamp) (pg tf : Bool) : Channel :=
  { Channel.cold with powerGood := pg, trayFault := tf, confirm := some ⟨now, Config.stopConfirmMs⟩ }

/-- A port context at load completion: what it has sent and counted since power-up stays (R184, log 27). -/
def coldPort (c : PortCtx) : PortCtx := { PortCtx.cold with rx := c.rx, overlong := c.overlong, output := c.output, rejected := c.rejected }

/-- Every block's cold-start values with the configuration loaded (R195). -/
def coldBlocks (pins : PinSample) (s : State) : State :=
  let load := s.store.load
  { s with
    power := .running
    cfg := load.1
    cfgFrom := load.2
    chans := Vector.ofFn fun c => coldChannel s.now pins.powerGood[c] pins.trayFault[c]
    budget := .cold
    run := none
    shelf := .cold
    source := { Source.cold with policy := load.1.charge.policy }
    zones := Vector.ofFn fun z => .cold load.1.zone[z].enabled
    scan := some ⟨s.now, load.1.scanPeriod⟩
    resp := { Response.cold with valve := Vector.ofFn fun v => coldValve pins.closed[v] pins.opened[v] }
    link := { manager := coldPort s.link.manager, service := coldPort s.link.service, flags := .clear }
    tally := .cold
    cause := ⟨.cold, 0⟩
    work := .none }

/-- VALVE FAULT for a valve found in FAULT at cold start (R168). -/
def reportColdValve (v : ValveIx) (s : State) : State :=
  if s.resp.valve[v].state = .fault then
    raise .valveFault (some v.val) (some 3) (some s.resp.valve[v].contacts) s
  else s

/-- CONFIG DEFAULTED after a load from the defaults (R186). -/
def reportLoad (s : State) : State :=
  match s.cfgFrom with
  | .defaults => raise .configDefaulted none (some 0) none s
  | .store => s

/-- The configuration load completes (R186, R195): cold-start values, the first round and the silence timer, the
reports; the first evaluation (R51) is due. That the VALVE FAULT reports of several valves join the queues in ascending
valve index is the model's choice (log 46). -/
def completeLoad (pins : PinSample) (s : State) : State :=
  let s := coldBlocks pins s
  let s := beginRound (s.modSource fun x => { x with silence := silenceTimer s })
  markEval (reportLoad (forEach allValves reportColdValve s))

/-! ### Save completion (R187) -/

/-- The store write ends: the copy stands in the store and SAVE DONE is raised. -/
def completeSave (s : State) : State :=
  match s.store with
  | .writing copy t => raise .saveDone none (some (s.age t)) none (s.setStore (.valid copy))
  | .invalid => s
  | .valid _ => s

end Sys2Proof.Machine
end

