-- ==== Sys2Proof/Machine/Events.lean ====
section
/-! DEFINITION. The meanings of the 35 event rows of spec/opcode_table.json: what reaches the part from its lines, links,
timers and power. -/

namespace Sys2Proof.Machine

open Host (Outcome)

/-- What an event does to a part with its configuration loaded, carried through to its end; before that it has no
effect (R186, log 5). -/
def event (f : State → State) (s : State) : Outcome State Fault Refusal :=
  .next (whenRunning (fun s => settle (f s)) s)

/-- POWER_UP (R195): cold start begins. -/
def execPowerUp (s : State) : Outcome State Fault Refusal := .next (blank .loading s)

/-- LOAD_COMPLETION (R186), with the input levels as sampled (log 9). -/
def execLoadCompletion (pins : PinSample) (s : State) : Outcome State Fault Refusal :=
  .next (if s.power = .loading then settle (completeLoad pins s) else s)

/-- RESET_PIN (R194): one assertion, one reset. The sender gives none for an assertion that a RESET command's own
reset has overtaken: the model's choice (log 28). -/
def execResetPin (s : State) : Outcome State Fault Refusal := event (warmReset .warmPin) s

/-- RESET_RESPONSE_SENT (R183, log 28). -/
def execResetResponseSent (s : State) : Outcome State Fault Refusal := event beginCommandReset s

/-- CHANNEL_SENSE_SCAN (R3): the readings are stored, the overdraw check is made, and the scan is handed over. That the
CHANNEL OVERDRAW reports of one scan join the queues in ascending channel index is the model's choice (log 46). -/
def execChannelSenseScan (readings : Vector Int 24) (s : State) : Outcome State Fault Refusal :=
  event (fun s =>
    let s := markEval (forEach allCh overdrawCheck (storeDraws readings s))
    if s.source.state = .ride then markRide s else s) s

/-- POWER_GOOD_RISE (R7). -/
def execPowerGoodRise (c : Ch) (s : State) : Outcome State Fault Refusal := event (takePowerGoodRise c) s

/-- POWER_GOOD_FALL (R8). -/
def execPowerGoodFall (c : Ch) (s : State) : Outcome State Fault Refusal := event (takePowerGoodFall c) s

/-- TRAY_FAULT_ASSERTED (R10). -/
def execTrayFaultAsserted (c : Ch) (s : State) : Outcome State Fault Refusal := event (takeTrayFault c) s

/-- TRAY_FAULT_RELEASED (R10). -/
def execTrayFaultReleased (c : Ch) (s : State) : Outcome State Fault Refusal :=
  event (State.modCh c fun r => { r with trayFault := false }) s

/-- RAMP_TIMER_EXPIRY (R9). -/
def execRampTimerExpiry (c : Ch) (s : State) : Outcome State Fault Refusal := event (takeRampExpiry c) s

/-- WARNING_TIMER_EXPIRY (R13). -/
def execWarningTimerExpiry (c : Ch) (s : State) : Outcome State Fault Refusal := event (takeWarningExpiry c) s

/-- STOP_CONFIRM_EXPIRY (R16). -/
def execStopConfirmExpiry (c : Ch) (s : State) : Outcome State Fault Refusal := event (takeConfirmExpiry c) s

/-- SPLIT_SPACING_EXPIRY (R40). -/
def execSplitSpacingExpiry (s : State) : Outcome State Fault Refusal := event takeSpacingExpiry s

/-- LATE_TIMER_EXPIRY (R41). -/
def execLateTimerExpiry (s : State) : Outcome State Fault Refusal := event takeLateExpiry s

/-- DEFICIT_GRACE_EXPIRY (R45, R46). -/
def execDeficitGraceExpiry (s : State) : Outcome State Fault Refusal := event takeGraceExpiry s

/-- GAP_TIMER_EXPIRY (R54). -/
def execGapTimerExpiry (s : State) : Outcome State Fault Refusal := event takeGapExpiry s

/-- ROUND_TIMER_EXPIRY (R77). -/
def execRoundTimerExpiry (s : State) : Outcome State Fault Refusal := event takeRoundExpiry s

/-- SHELF_RESPONSE (R79). -/
def execShelfResponse (r : ShelfReply) (s : State) : Outcome State Fault Refusal := event (takeResponse r) s

/-- RESPONSE_TIMEOUT (R79). -/
def execResponseTimeout (s : State) : Outcome State Fault Refusal := event takeResponseTimeout s

/-- BUS_SAMPLE (R91). -/
def execBusSample (mv : Nat) (s : State) : Outcome State Fault Refusal := event (takeBusSample mv) s

/-- DEBOUNCE_TIMER_EXPIRY (R91). -/
def execDebounceTimerExpiry (s : State) : Outcome State Fault Refusal := event takeDebounceExpiry s

/-- QUALIFY_EXPIRY (R101). -/
def execQualifyExpiry (s : State) : Outcome State Fault Refusal := event takeQualifyExpiry s

/-- WALK_IN_EXPIRY (R102). -/
def execWalkInExpiry (s : State) : Outcome State Fault Refusal := event takeWalkInExpiry s

/-- SILENCE_TIMER_EXPIRY (R127). -/
def execSilenceTimerExpiry (s : State) : Outcome State Fault Refusal := event takeSilenceExpiry s

/-- LEAK_SCAN (R133). -/
def execLeakScan (readings : Vector Nat 16) (s : State) : Outcome State Fault Refusal :=
  event (takeLeakScan readings) s

/-- ESCALATION_TIMER_EXPIRY (R140). -/
def execEscalationTimerExpiry (z : Zone) (s : State) : Outcome State Fault Refusal := event (takeEscalation z) s

/-- OVERRIDE_WINDOW_EXPIRY (R156). -/
def execOverrideWindowExpiry (s : State) : Outcome State Fault Refusal := event takeWindowExpiry s

/-- CLOSED_CONTACT_PRESENT (R162). -/
def execClosedContactPresent (v : ValveIx) (s : State) : Outcome State Fault Refusal :=
  event (takeContact v .closed) s

/-- OPEN_CONTACT_PRESENT (R162). -/
def execOpenContactPresent (v : ValveIx) (s : State) : Outcome State Fault Refusal :=
  event (takeContact v .opened) s

/-- CONTACT_ABSENT (R162). -/
def execContactAbsent (v : ValveIx) (e : ValveEnd) (s : State) : Outcome State Fault Refusal :=
  event (dropContact v e) s

/-- TRAVEL_TIMER_EXPIRY (R162). -/
def execTravelTimerExpiry (v : ValveIx) (s : State) : Outcome State Fault Refusal := event (takeTravelExpiry v) s

/-- LINE_ARRIVAL (R171): a port tests its lines from power-up on (R184). -/
def execLineArrival (p : Port) (text : List Char) (s : State) : Outcome State Fault Refusal :=
  .next (if s.power = .off then s else lineEnds p text s)

/-- OUTPUT_LINE_SENT (R173); when the response sent is that of RESET, the warm reset begins (R183, log 28). -/
def execOutputLineSent (p : Port) (s : State) : Outcome State Fault Refusal :=
  .next (if p = .manager ∧ s.power = .running ∧ resetFront s = true then settle (beginCommandReset s) else outputSent p s)

/-- SAVE_COMPLETION (R187). -/
def execSaveCompletion (s : State) : Outcome State Fault Refusal := event completeSave s

/-- POWER_LOSS (R187). -/
def execPowerLoss (s : State) : Outcome State Fault Refusal := .next (blank .off s)

end Sys2Proof.Machine
end

