-- ==== Sys2Proof/Machine/Dispatch.lean ====
section
/-! DEFINITION. One arm for each command of spec/opcode_table.json, each one call of its meaning. -/

namespace Sys2Proof.Machine

def exec (i : Instr) (s : State) : Host.Outcome State Fault Refusal :=
  match i with
  | .powerUp => Sys2Proof.Machine.execPowerUp s
  | .loadCompletion pins => Sys2Proof.Machine.execLoadCompletion pins s
  | .resetPin => Sys2Proof.Machine.execResetPin s
  | .resetResponseSent => Sys2Proof.Machine.execResetResponseSent s
  | .channelSenseScan readings => Sys2Proof.Machine.execChannelSenseScan readings s
  | .powerGoodRise c => Sys2Proof.Machine.execPowerGoodRise c s
  | .powerGoodFall c => Sys2Proof.Machine.execPowerGoodFall c s
  | .trayFaultAsserted c => Sys2Proof.Machine.execTrayFaultAsserted c s
  | .trayFaultReleased c => Sys2Proof.Machine.execTrayFaultReleased c s
  | .rampTimerExpiry c => Sys2Proof.Machine.execRampTimerExpiry c s
  | .warningTimerExpiry c => Sys2Proof.Machine.execWarningTimerExpiry c s
  | .stopConfirmExpiry c => Sys2Proof.Machine.execStopConfirmExpiry c s
  | .splitSpacingExpiry => Sys2Proof.Machine.execSplitSpacingExpiry s
  | .lateTimerExpiry => Sys2Proof.Machine.execLateTimerExpiry s
  | .deficitGraceExpiry => Sys2Proof.Machine.execDeficitGraceExpiry s
  | .gapTimerExpiry => Sys2Proof.Machine.execGapTimerExpiry s
  | .roundTimerExpiry => Sys2Proof.Machine.execRoundTimerExpiry s
  | .shelfResponse r => Sys2Proof.Machine.execShelfResponse r s
  | .responseTimeout => Sys2Proof.Machine.execResponseTimeout s
  | .busSample mv => Sys2Proof.Machine.execBusSample mv s
  | .debounceTimerExpiry => Sys2Proof.Machine.execDebounceTimerExpiry s
  | .qualifyExpiry => Sys2Proof.Machine.execQualifyExpiry s
  | .walkInExpiry => Sys2Proof.Machine.execWalkInExpiry s
  | .silenceTimerExpiry => Sys2Proof.Machine.execSilenceTimerExpiry s
  | .leakScan readings => Sys2Proof.Machine.execLeakScan readings s
  | .escalationTimerExpiry z => Sys2Proof.Machine.execEscalationTimerExpiry z s
  | .overrideWindowExpiry => Sys2Proof.Machine.execOverrideWindowExpiry s
  | .closedContactPresent v => Sys2Proof.Machine.execClosedContactPresent v s
  | .openContactPresent v => Sys2Proof.Machine.execOpenContactPresent v s
  | .contactAbsent v e => Sys2Proof.Machine.execContactAbsent v e s
  | .travelTimerExpiry v => Sys2Proof.Machine.execTravelTimerExpiry v s
  | .lineArrival p text => Sys2Proof.Machine.execLineArrival p text s
  | .outputLineSent p => Sys2Proof.Machine.execOutputLineSent p s
  | .saveCompletion => Sys2Proof.Machine.execSaveCompletion s
  | .channelStart l a => Sys2Proof.Machine.execChannelStart l a s
  | .channelStartGang l a => Sys2Proof.Machine.execChannelStartGang l a s
  | .channelStop l a => Sys2Proof.Machine.execChannelStop l a s
  | .channelCut l a => Sys2Proof.Machine.execChannelCut l a s
  | .channelClear l ch => Sys2Proof.Machine.execChannelClear l ch s
  | .channelSet l ch a => Sys2Proof.Machine.execChannelSet l ch a s
  | .channelRead l ch => Sys2Proof.Machine.execChannelRead l ch s
  | .policySet l a => Sys2Proof.Machine.execPolicySet l a s
  | .budgetRead l sel => Sys2Proof.Machine.execBudgetRead l sel s
  | .admissionRead l pos => Sys2Proof.Machine.execAdmissionRead l pos s
  | .planWrite l a => Sys2Proof.Machine.execPlanWrite l a s
  | .planRead l step => Sys2Proof.Machine.execPlanRead l step s
  | .planStart l kind => Sys2Proof.Machine.execPlanStart l kind s
  | .planPause l => Sys2Proof.Machine.execPlanPause l s
  | .planResume l => Sys2Proof.Machine.execPlanResume l s
  | .planStop l => Sys2Proof.Machine.execPlanStop l s
  | .planStatus l => Sys2Proof.Machine.execPlanStatus l s
  | .moduleRead l rm bm => Sys2Proof.Machine.execModuleRead l rm bm s
  | .rectifierEnable l rm => Sys2Proof.Machine.execRectifierEnable l rm s
  | .rectifierDisable l rm => Sys2Proof.Machine.execRectifierDisable l rm s
  | .linkStats l => Sys2Proof.Machine.execLinkStats l s
  | .sourceRead l settings => Sys2Proof.Machine.execSourceRead l settings s
  | .rideSet l a => Sys2Proof.Machine.execRideSet l a s
  | .chargeSet l a => Sys2Proof.Machine.execChargeSet l a s
  | .restore l tier => Sys2Proof.Machine.execRestore l tier s
  | .zoneSet l a => Sys2Proof.Machine.execZoneSet l a s
  | .zoneRead l zone pat => Sys2Proof.Machine.execZoneRead l zone pat s
  | .patternSet l a => Sys2Proof.Machine.execPatternSet l a s
  | .leakClear l zone => Sys2Proof.Machine.execLeakClear l zone s
  | .responseSet l a => Sys2Proof.Machine.execResponseSet l a s
  | .overridePrepare l ch => Sys2Proof.Machine.execOverridePrepare l ch s
  | .overrideCommit l ch => Sys2Proof.Machine.execOverrideCommit l ch s
  | .overrideLockout l => Sys2Proof.Machine.execOverrideLockout l s
  | .valveClose l cv => Sys2Proof.Machine.execValveClose l cv s
  | .valveOpen l cv => Sys2Proof.Machine.execValveOpen l cv s
  | .valveRead l cv => Sys2Proof.Machine.execValveRead l cv s
  | .captureRead l => Sys2Proof.Machine.execCaptureRead l s
  | .captureClear l => Sys2Proof.Machine.execCaptureClear l s
  | .fetch l n => Sys2Proof.Machine.execFetch l n s
  | .routeSet l a => Sys2Proof.Machine.execRouteSet l a s
  | .statusRead l => Sys2Proof.Machine.execStatusRead l s
  | .statusClear l grp => Sys2Proof.Machine.execStatusClear l grp s
  | .ping l => Sys2Proof.Machine.execPing l s
  | .configSave l => Sys2Proof.Machine.execConfigSave l s
  | .configDefaults l => Sys2Proof.Machine.execConfigDefaults l s
  | .reset l => Sys2Proof.Machine.execReset l s
  | .tallySet l a => Sys2Proof.Machine.execTallySet l a s
  | .tallyStart l ctr => Sys2Proof.Machine.execTallyStart l ctr s
  | .tallyStop l ctr => Sys2Proof.Machine.execTallyStop l ctr s
  | .tallyClear l ctr => Sys2Proof.Machine.execTallyClear l ctr s
  | .tallyRead l ctr => Sys2Proof.Machine.execTallyRead l ctr s
  | .timeRead l => Sys2Proof.Machine.execTimeRead l s
  | .identify l => Sys2Proof.Machine.execIdentify l s
  | .powerLoss => Sys2Proof.Machine.execPowerLoss s

end Sys2Proof.Machine
end

