-- ==== Sys2Proof/Machine/Step.lean ====
section
/-! DEFINITION. One step of the block: the command at the front of the queue is taken; with nothing waiting, time passes. -/

namespace Sys2Proof.Machine

/-- Nothing is commanded: a part with power counts one millisecond (R192; DESIGN CHOICE that an idle step is one
tick, log 3). -/
def idle (s : State) : State :=
  match s.power with
  | .off => s
  | .loading => { s with now := s.now + 1 }
  | .running => { s with now := s.now + 1 }

/-- One step: the command at the front of the queue, run on the state with the queue's rest. -/
def step (s : State) : Host.Outcome State Fault Refusal :=
  match s.pending with
  | i :: rest => exec i { s with pending := rest }
  | [] => .next (idle s)

/-- The command that a word spells, put at the front of the queue; the state unchanged where the word spells none
(no row of the table has bits, so every word spells none). -/
def State.withFetchWord (s : State) (nbits w : Nat) : State :=
  match decodeTableWord nbits w with
  | some i => { s with pending := i :: s.pending }
  | none => s

end Sys2Proof.Machine
end

