-- ==== Sys2Proof/Safety.lean ====
section
/-! DEFINITION. The terms claims are stated in: what no hand-over changes, a port ready for a line, the state a command
finds and leaves, and the laws of the manual that hold in every state. -/

namespace Sys2Proof.Machine

/-! ### What the hand-overs inside a step leave alone -/

/-- The part of a channel record that no hand-over changes: the measured draw, the two levels and the hold set. -/
structure ChanFixed where
  draw : Nat
  powerGood : Bool
  trayFault : Bool
  holds : List Zone
deriving DecidableEq, Repr

/-- The part of a port context that no hand-over changes. -/
structure PortFixed where
  rx : List Char
  overlong : Bool
  buffer : List BufLine
  output : List OutItem
  rejected : Nat
deriving DecidableEq, Repr

/-- What no hand-over inside a step changes (R33): settings, store, zones, valves, capture, link lines, module
records, draws and levels. -/
structure Fixed where
  power : Power
  now : Stamp
  cfg : WorkCfg
  cfgFrom : CfgSource
  store : Store
  chans : Vector ChanFixed 24
  shelf : Shelf
  zones : Vector ZoneRec 16
  scan : Option Timer
  resp : Response
  manager : PortFixed
  service : PortFixed
  cause : ResetRecord
  pending : List Instr
deriving DecidableEq, Repr

/-- The fixed part of a channel record. -/
def Channel.fixed (c : Channel) : ChanFixed := ⟨c.draw, c.powerGood, c.trayFault, c.holds⟩

/-- The fixed part of a port context. -/
def PortCtx.fixed (c : PortCtx) : PortFixed := ⟨c.rx, c.overlong, c.buffer, c.output, c.rejected⟩

/-- A rectifier slot without the walk-in set-point. -/
def Rect.bare (r : Rect) : Rect := { r with walkIn := none }

/-- A battery slot without its two set-points. -/
def Batt.bare (b : Batt) : Batt := { b with chargeLimit := 0, discharge := false }

/-- The Shelf Link Controller's records without the set-points that other blocks give (Table 4-2). -/
def Shelf.bare (h : Shelf) : Shelf :=
  { h with rect := Vector.ofFn fun n => h.rect[n].bare, batt := Vector.ofFn fun n => h.batt[n].bare }

/-- The fixed part of a state. -/
def State.fixed (s : State) : Fixed :=
  { power := s.power, now := s.now, cfg := s.cfg, cfgFrom := s.cfgFrom, store := s.store
    chans := Vector.ofFn fun c => s.chans[c].fixed, shelf := s.shelf.bare, zones := s.zones, scan := s.scan
    resp := s.resp, manager := s.link.manager.fixed, service := s.link.service.fixed, cause := s.cause
    pending := s.pending }

/-! ### Lines -/

/-- A port at which a line is taken as soon as it arrives: the part runs, no hand-over waits, the line buffer is
empty, and on the manager port the host is not silent. -/
structure Ready (p : Port) (s : State) : Prop where
  running : s.power = .running
  quiet : s.work = .none
  empty : (s.port p).buffer = []
  heard : p = .manager → s.source.stage = 0

/-- A valid line has been heard while the host is not silent: on the manager port the silence timer restarts (R127). -/
def lineHeard (p : Port) (s : State) : State :=
  match p with
  | .manager => s.modSource fun x => { x with silence := silenceTimer s }
  | .service => s

/-- The state a command finds at a ready port: its line is heard, stands in the buffer, and has cancelled a live
override sequence of its port unless it is an OVERRIDE COMMIT (R127, R156, R173). -/
def found (l : LineId) (i : Instr) (s : State) : State :=
  lineAtOverride l.port i
    ((lineHeard l.port s).modPort l.port fun c => { c with buffer := [⟨l.tag, .cmd i, false, 0⟩] })

/-- The state after a command has been answered: its line is marked taken and its response stands at the end of the
port's output (R173). -/
def answered (l : LineId) (r : Reply) (t : State) : State :=
  (placeOutput l.port ⟨l.tag, .line, r, false⟩ t).modPort l.port fun c => { c with buffer := markTaken c.buffer }

/-- A line that reaches a ready port, is permitted there, and whose command leaves `u` with the reply `r` before the
hand-overs that follow in the same step. -/
def Takes (l : LineId) (i : Instr) (s u : State) (r : Reply) : Prop :=
  exec i s = .next (answered l r (settle u))

/-- A port at which the line of a command is taken at once and whose permissions let it pass (R172, R173, R175). -/
def CanTake (l : LineId) (i : Instr) (s : State) : Prop :=
  Ready l.port s ∧ verbPermitted l.port i (carriesSvc i) s = true

/-- A command answered with `r` and nothing changed: the state before is the state the line was found in, and no
hand-over follows. -/
def Answers (l : LineId) (i : Instr) (s : State) (r : Reply) : Prop :=
  exec i s = .next (answered l r (found l i s))

/-- An event with the effect `u`, after which the hand-overs of the same step follow (R33). -/
def Acts (i : Instr) (s u : State) : Prop := exec i s = .next (settle u)

/-- Every channel but one has its record as before. -/
def OnlyChannel (c : Ch) (s u : State) : Prop := ∀ d, d ≠ c → u.ch d = s.ch d

/-- The records that channel, budget, plan, source and valve rules all leave alone. -/
structure SameRest (s u : State) : Prop where
  power : u.power = s.power
  now : u.now = s.now
  cfg : u.cfg = s.cfg
  cfgFrom : u.cfgFrom = s.cfgFrom
  store : u.store = s.store
  zones : u.zones = s.zones
  scan : u.scan = s.scan
  cause : u.cause = s.cause
  orders : u.orders = s.orders
  pending : u.pending = s.pending

/-- `u` has what raising one report leaves in the ports, the condition summary and the tallies (R176, R177). -/
def Reports (k : ReportKind) (subject v1 v2 : Option Nat) (s u : State) : Prop :=
  u.link = (raise k subject v1 v2 s).link ∧ u.tally = (raise k subject v1 v2 s).tally

/-- The ports, the condition summary and the tallies are as before. -/
def Silent (s u : State) : Prop := u.link = s.link ∧ u.tally = s.tally

/-- A channel record that has entered FAULTED from RAMPING, ON or WARNING (R11). -/
def Channel.faultedAs (k : FaultKind) (now : Stamp) (r : Channel) : Channel :=
  { r with state := .faulted, fault := k, since := now, ramp := none, warn := none, admitted := none, shed := false
           override := false, confirm := some ⟨now, 1000⟩ }

/-- A channel record that has become OFF with its output up before (R12, R13, R14). -/
def Channel.switchedOff (now : Stamp) (r : Channel) : Channel :=
  { r with state := .off, since := now, ramp := none, warn := none, admitted := none, override := false
           confirm := some ⟨now, 1000⟩ }

/-- The in-flight set after a channel has changed state: a channel that left WARNING is out of it (R44). -/
def inflightAfter (c : Ch) (s : State) : List Ch :=
  if (s.ch c).state = .warning then setErase c s.budget.inflight else s.budget.inflight

/-- A channel enters FAULTED from RAMPING, ON or WARNING, with `r` the record it has by then (R11): one CHANNEL
FAULTS event, one report, the channel out of the in-flight and restore-placed sets, an evaluation due. -/
structure EntersFaulted (c : Ch) (k : FaultKind) (r : Channel) (s u : State) : Prop where
  record : u.ch c = r.faultedAs k s.now
  others : OnlyChannel c s u
  budget : u.budget = { s.budget with inflight := inflightAfter c s }
  source : u.source = { s.source with placed := setErase c s.source.placed }
  run : u.run = s.run
  shelf : u.shelf = s.shelf
  resp : u.resp = s.resp
  report : Reports .channelFault (some c.val) (some k.code) (some r.draw) (count .channelFaults s) u
  eval : u.work.eval = true
  rest : SameRest s u

/-- A channel record has changed and nothing else has, but for an evaluation that is now due and a plan step that
may have completed. -/
structure OnlyRecord (c : Ch) (r : Channel) (s u : State) : Prop where
  record : u.ch c = r
  others : OnlyChannel c s u
  budget : u.budget = { s.budget with inflight := inflightAfter c s }
  source : u.source = s.source
  run : u.run = s.run
  shelf : u.shelf = s.shelf
  resp : u.resp = s.resp
  quiet : Silent s u
  eval : u.work.eval = true
  rest : SameRest s u

/-- The set-points that a poll of a position carries (Table 4-2): output and walk-in of a rectifier slot, charge power
limit and discharge of a battery slot. -/
def carried (h : Shelf) (p : SlotPos) : SetPoints :=
  if r : p.val < 8 then .rect h.rect[p.val].enable h.rect[p.val].walkIn
  else .batt (h.batt[p.val - 8]'(by omega)).chargeLimit (h.batt[p.val - 8]'(by omega)).discharge

/-- A position has just been polled: its response timeout runs and the poll carries the set-points as they stood before
the command (R78, R79, log 45). -/
def Polled (p : SlotPos) (s u : State) : Prop := u.shelf.poll = some ⟨p, ⟨s.now, 20⟩, carried s.shelf p⟩

/-- MODULE STATE at slot position `n` whose state codes are `x` before and `y` after (R86): a change sets the group's
flag, and where nothing else is raised the reports are this one, or none without a change. -/
def ModuleShown (n x y : Nat) (alone : Prop) (s u : State) : Prop :=
  (x ≠ y → u.link.flags.shelf = true) ∧
    (alone → (x = y → Silent s u) ∧ (x ≠ y → Reports .moduleState (some n) (some y) (some x) s u))

/-- The records after a warm reset, before the tests that follow it (Table 10-3). -/
structure ResetDone (kind : ResetKind) (s v : State) : Prop where
  kept : v.power = s.power ∧ v.now = s.now ∧ v.cfg = s.cfg ∧ v.cfgFrom = s.cfgFrom ∧ v.store = s.store ∧
    v.orders = s.orders ∧ v.pending = s.pending
  /-- R25 -/
  channels : ∀ c, v.ch c =
    let r := s.ch c
    let confirm := r.confirm.map fun _ => (⟨s.now, 1000⟩ : Timer)
    let keeps := r.override && !r.holds.isEmpty
    match r.state with
    | .off | .faulted => { r with override := false, confirm := confirm }
    | .on => { r with override := keeps, confirm := confirm }
    | .ramping => { r with override := keeps, confirm := confirm, ramp := some ⟨s.now, (s.chCfg c).ramp⟩ }
    | .warning => { r with state := .off, since := s.now, override := false, warn := none, confirm := some ⟨s.now, 1000⟩ }
    | .pending => { r with state := .off, since := s.now, override := false, confirm := confirm }
  /-- R50 -/
  budget : v.budget =
    { s.budget with queue := [], spacing := none, late := none, grace := none, reported := false, inflight := [] }
  /-- R74 -/
  run : v.run = none
  /-- R92 -/
  slots : (∀ n : RmSlot, v.shelf.rect[n] = { s.shelf.rect[n] with misses := 0 }) ∧
    ∀ n : BmSlot, v.shelf.batt[n] = { s.shelf.batt[n] with misses := 0 }
  /-- R92 -/
  round : v.shelf =
    { s.shelf with
      rect := v.shelf.rect, batt := v.shelf.batt, inRound := true, overran := false
      roundTimer := some ⟨s.now, s.cfg.ride.round⟩, poll := some ⟨0, ⟨s.now, 20⟩, carried s.shelf 0⟩
      debounce := s.shelf.debounce.map fun _ => (⟨s.now, s.cfg.ride.deb⟩ : Timer) }
  /-- R115, R130 -/
  source : v.source =
    { s.source with
      qualify := s.source.qualify.map fun _ => (⟨s.now, s.cfg.ride.qual⟩ : Timer)
      walkIn := s.source.walkIn.map fun _ => (⟨s.now, s.cfg.ride.walk⟩ : Timer)
      placed := [], stage := 0, policy := s.cfg.charge.policy
      silence := if s.cfg.charge.window = 0 then none else some ⟨s.now, s.cfg.charge.window * 1000⟩ }
  /-- R147 -/
  zones : ∀ z : Zone, v.zones[z] =
    let r := s.zones[z]
    match r.state with
    | .watch => { r with history := [], cable := 0, cls := none }
    | .wet => { r with esc := if s.cfg.zone[z].esc = 0 then none else some ⟨s.now, s.cfg.zone[z].esc⟩ }
    | .off | .escalated | .cableFault => r
  scan : v.scan = some ⟨s.now, s.cfg.scanPeriod⟩
  /-- R167 -/
  valves : ∀ n : ValveIx, v.resp.valve[n] =
    { s.resp.valve[n] with travel := s.resp.valve[n].travel.map fun _ => (⟨s.now, s.cfg.travel⟩ : Timer) }
  resp : v.resp.seq = none ∧ v.resp.lockout = s.resp.lockout ∧ v.resp.capture = s.resp.capture
  /-- R183 -/
  ports : ∀ p, v.port p =
    { s.port p with rx := [], overlong := false, buffer := [], output := [], queue := [], lost := 0 }
  flags : v.link.flags = .clear
  /-- R191 -/
  tally : v.tally.pair = s.tally.pair ∧ ∀ n : CtrIx, v.tally.ctr[n] =
    { s.tally.ctr[n] with value := 0, overflow := false, running := false }
  /-- R193 -/
  cause : v.cause = ⟨kind, if s.cause.warmCount < 65535 then s.cause.warmCount + 1 else s.cause.warmCount⟩

/-- The tests that CHANNEL START makes on one channel before the source test (R19). -/
def Startable (s : State) (c : Ch) : Prop :=
  (s.chCfg c).configured = true ∧ (s.ch c).state = .off ∧ ((s.ch c).holds = [] ∨ (s.ch c).override = true)

/-- The code with which a channel that is not startable is refused: HELD when its holds alone are in the way (R19). -/
def startCode (s : State) (c : Ch) : Code :=
  if (s.chCfg c).configured = true ∧ (s.ch c).state = .off then .held else .state

/-- The channels that ch= or gang= names (01, 1.6). -/
def Names (a : TargetArgs) (ms : List Ch) : Prop :=
  (∃ c : Ch, a = { ch := some (c.val : Int) } ∧ ms = [c]) ∨
    ∃ g : Gang, a = { gang := some (g.val : Int) } ∧ ms = allCh.filter fun c => c.val / 4 = g.val

/-- What an up= or down= argument makes of an entry: omitted it is kept, NONE removes it, an index sets it (R71). -/
def EntryWritten (x : Option IndexArg) (old new : Option StepIx) : Prop :=
  (x = none ∧ new = old) ∨ (x = some .absent ∧ new = none) ∨ ∃ n : StepIx, x = some (.index n.val) ∧ new = some n

/-- The target of a step as its action asks for it: one channel or gang for START and STOP, none for the others (R71). -/
def TargetWritten (act : StepAction) (x : TargetArgs) (t : Option Target) : Prop :=
  match act with
  | .start | .stop =>
    (∃ c : Ch, x = { ch := some (c.val : Int) } ∧ t = some (.chan c)) ∨
      ∃ g : Gang, x = { gang := some (g.val : Int) } ∧ t = some (.gang g)
  | .delay | .awaitOn | .awaitGrid => x = {} ∧ t = none

/-- A channel's record after its withdrawal from the queue (R15). -/
def Channel.withdrawn (now : Stamp) (r : Channel) : Channel :=
  { r with state := .off, since := now, override := false }

/-- A channel's record after a graceful stop with a cause that sets no mark (Table 1-4), `w` the warning time. -/
def Channel.stopped (now : Stamp) (w : Nat) (r : Channel) : Channel :=
  match r.state with
  | .on => if w = 0 then r.switchedOff now
    else { r with state := .warning, since := now, warn := some ⟨now, w⟩ }
  | .ramping => r.switchedOff now
  | .pending => r.withdrawn now
  | .warning | .off | .faulted => r

/-- A channel's record after a cut with a cause that sets no mark (Table 1-5). -/
def Channel.wasCut (now : Stamp) (r : Channel) : Channel :=
  match r.state with
  | .on | .warning | .ramping => r.switchedOff now
  | .pending => r.withdrawn now
  | .off | .faulted => r

/-- A count that has gone up by one, held at a limit. -/
def CountedUp (limit old new : Nat) : Prop := new = if old < limit then old + 1 else old

/-- The poll of position `p` has ended: the next slot is polled, or after BM5 the round has ended and, after an
overrun, the next has begun (R77). -/
def PollEnded (p : SlotPos) (s u : State) : Prop :=
  if p.val = 13 then
    u.shelf.rounds = (s.shelf.rounds + 1) % 4294967296 ∧ u.shelf.overran = false ∧
      (if s.shelf.overran then
        u.shelf.inRound = true ∧ Polled 0 s u ∧
          u.shelf.roundTimer = some ⟨s.now, s.cfg.ride.round⟩
      else u.shelf.inRound = false ∧ u.shelf.poll = none ∧ u.shelf.roundTimer = s.shelf.roundTimer)
  else
    u.shelf.rounds = s.shelf.rounds ∧ u.shelf.overran = s.shelf.overran ∧ u.shelf.inRound = s.shelf.inRound ∧
      Polled (p + 1) s u ∧ u.shelf.roundTimer = s.shelf.roundTimer

/-- The slots after an event, apart from the set-points that the Source Controller gives: one rectifier slot. -/
def OnlyRect (n : RmSlot) (r : Rect) (s u : State) : Prop :=
  u.shelf.rect[n].bare = r ∧ (∀ m, m ≠ n → u.shelf.rect[m].bare = s.shelf.rect[m].bare) ∧
    ∀ m : BmSlot, u.shelf.batt[m].bare = s.shelf.batt[m].bare

/-- The same for one battery slot. -/
def OnlyBatt (n : BmSlot) (b : Batt) (s u : State) : Prop :=
  u.shelf.batt[n].bare = b ∧ (∀ m, m ≠ n → u.shelf.batt[m].bare = s.shelf.batt[m].bare) ∧
    ∀ m : RmSlot, u.shelf.rect[m].bare = s.shelf.rect[m].bare

/-- A miss at position `p` (R81): a slot that is not present is unchanged; a present one counts it, held at 3, and
is LOST from the third on, with one SHELF LINK MISSES event and MODULE STATE at the change (R86). -/
def Missed (p : SlotPos) (s u : State) : Prop :=
  match slotOf p with
  | .rect n =>
    let r := s.shelf.rect[n].bare
    let m := if r.misses < 3 then r.misses + 1 else r.misses
    OnlyRect n (if r.present then { r with misses := m, state := if m = 3 then .lost else r.state } else r) s u ∧
      ModuleShown n.val r.state.code u.shelf.rect[n].state.code (inputLoss u = false)
        (if r.present then count .shelfLinkMisses s else s) u
  | .batt n =>
    let b := s.shelf.batt[n].bare
    let m := if b.misses < 3 then b.misses + 1 else b.misses
    OnlyBatt n (if b.present then { b with misses := m, state := if m = 3 then .lost else b.state } else b) s u ∧
      ModuleShown (n.val + 8) b.state.code u.shelf.batt[n].state.code True
        (if b.present then count .shelfLinkMisses s else s) u

/-- A sample is taken from the slot it names (R79, R82 to R86): clamped, stored, stamped, the misses 0, the state
decided in the order of Tables 4-4 and 4-6, MODULE STATE raised at a change. -/
def Sampled (x : SlotReport) (s u : State) : Prop :=
  match x with
  | .rect n x =>
    let r := s.shelf.rect[n].bare
    let rated := min x.rated 20000
    let y : RectReport := ⟨rated, min (min x.avail 20000) rated, x.ready, x.inputGood, x.fault, min x.power 32767⟩
    OnlyRect n { r with
      present := true, misses := 0, sample := some y, time := some s.now
      state := if r.enable = false then .disabled else if y.fault then .faulted
        else if y.ready = false then .starting else if y.avail < y.rated then .derated else .online } s u ∧
      ModuleShown n.val r.state.code u.shelf.rect[n].state.code (inputLoss u = false) s u
  | .batt n x =>
    let b := s.shelf.batt[n].bare
    let full := min x.full 65535
    let y : BattReport := ⟨full, min (min x.usable 65535) full, min x.dischargeLimit 32767, min x.request 32767,
      x.charging, x.discharging, x.fault, x.empty⟩
    OnlyBatt n { b with
      present := true, misses := 0, sample := some y, time := some s.now
      state := if y.fault then .faulted else if y.empty = true ∨ y.usable = 0 then .depleted
        else if y.discharging then .discharging else if y.charging then .charging else .standby } s u ∧
      ModuleShown (n.val + 8) b.state.code u.shelf.batt[n].state.code True s u

/-- Input loss has taken the rack from GRID to RIDE (R98): the records, the queue emptied and its channels withdrawn to
OFF (R43), and what becomes of the run: an UP run that is RUNNING or WAITING is paused with cause SOURCE, any other run
without outstanding members is as before (R63, R64). -/
structure LeavesGrid (s u : State) : Prop where
  source : u.source.state = .ride ∧ u.source.since = s.now ∧ u.source.outage = s.now
  discharge : ∀ n : BmSlot, u.shelf.batt[n].discharge = true
  queue : u.budget.queue = [] ∧ u.budget.late = none ∧ u.budget.spacing = none
  withdrawn : ∀ c ∈ queuedChans s.budget.queue, (s.ch c).state = .pending → u.ch c = (s.ch c).withdrawn s.now
  others : ∀ c, (s.ch c).state ≠ .pending → u.ch c = s.ch c
  pauses : ∀ r : Run, s.run = some r → r.kind = .up → r.state = .running ∨ r.state = .waiting →
    u.link.flags.plan = true ∧ u.run = some { r with
      state := .paused, pauseCause := some .source, outstanding := [], gap := none
      gapLeft := match r.gap with
        | some t => t.ms - msBetween t.start s.now
        | none => 0 }
  keeps : ∀ r : Run, s.run = some r → r.outstanding = [] →
    r.kind = .down ∨ (r.state ≠ .running ∧ r.state ≠ .waiting) → u.run = s.run
  due : u.link.flags.source = true ∧ u.work.ride = true ∧ u.work.eval = true

/-- What an entry into GRID does to the run (R65): an UP run paused by the source goes on from its phase, a DOWN run that
waits at an AWAIT GRID step completes it, and any other run is as before. -/
structure RunEntersGrid (s u : State) : Prop where
  resumes : ∀ r : Run, s.run = some r → r.kind = .up → r.state = .paused → r.pauseCause = some .source →
    let on := { r with state := .running, pauseCause := none }
    (r.phase = .step → u.run = some on ∧ u.work.plan = .exec) ∧
    (r.phase = .gap → r.gapLeft ≠ 0 → u.run = some { on with gap := some ⟨s.now, r.gapLeft⟩ } ∧ u.work.plan = s.work.plan) ∧
    (r.phase = .gap → r.gapLeft = 0 →
      u.run = some { on with phase := .step, cursor := r.cursor + 1, gap := none } ∧ u.work.plan = .exec)
  completes : ∀ r : Run, s.run = some r → r.kind = .down → r.state = .waiting →
    s.cfg.steps[r.cursor].action = .awaitGrid → u.run = s.run ∧ u.work.plan = .complete
  keeps : (∀ r : Run, s.run = some r →
      (r.kind = .up → r.state ≠ .paused ∨ r.pauseCause ≠ some .source) ∧
      (r.kind = .down → r.state ≠ .waiting ∨ s.cfg.steps[r.cursor].action ≠ .awaitGrid)) →
    u.run = s.run ∧ u.work.plan = s.work.plan

/-- A list names, in ascending tier and index, the channels that are eligible for restore and pass a further test
(R122). -/
def RestoreOrder (s : State) (more : Ch → Prop) (js : List Ch) : Prop :=
  (js.Pairwise fun a b => (s.chCfg a).tier < (s.chCfg b).tier ∨ (s.chCfg a).tier = (s.chCfg b).tier ∧ a < b) ∧
    ∀ c, c ∈ js ↔ (s.ch c).state = .off ∧ (s.ch c).shed = true ∧ (s.ch c).holds = [] ∧
      (s.chCfg c).configured = true ∧ more c

/-- A result field that is present only with a value (R174). -/
def Shows (key : String) (x : Option Nat) (fs : List Field) : Prop :=
  (∀ n, x = some n → fNum key n ∈ fs) ∧ (x = none → ∀ f ∈ fs, f.key ≠ key)

/-- The fields of an admission queue entry (R49); the keywords are the model's (log 24). -/
structure EntryShown (s : State) (e : Entry) (fs : List Field) : Prop where
  single : ∀ c, e.name = .single c → fWord "kind" "SINGLE" ∈ fs ∧ fNum "ch" c.val ∈ fs
  gang : ∀ g ms, e.name = .gang g ms → fWord "kind" "GANG" ∈ fs ∧ fNum "gang" g.val ∈ fs ∧ fSet "mem" ms ∈ fs
  split : Shows "split" (e.splitFrom.map Fin.val) fs
  rest : fWord "org" e.origin.word ∈ fs ∧ fStamp "join" e.joined ∈ fs ∧ fNum "wait" (msBetween e.joined s.now) ∈ fs ∧
    fYes "lrep" e.lateReported ∈ fs ∧ fYes "waited" e.waited ∈ fs

/-- The fields of a rectifier's last sample (R89, Table 4-3), absent without one; the keywords are the model's (log 24). -/
def RectSampleShown (x : Option RectReport) (fs : List Field) : Prop :=
  (∀ y, x = some y → fNum "rated" y.rated ∈ fs ∧ fNum "avail" y.avail ∈ fs ∧ fYes "ready" y.ready ∈ fs ∧
    fYes "in" y.inputGood ∈ fs ∧ fYes "flt" y.fault ∈ fs ∧ fNum "pow" y.power ∈ fs) ∧
  (x = none → ∀ f ∈ fs, f.key ∉ ["rated", "avail", "ready", "in", "flt", "pow"])

/-- The fields of a battery's last sample (R89, Table 4-5), absent without one; the keywords are the model's (log 24). -/
def BattSampleShown (x : Option BattReport) (fs : List Field) : Prop :=
  (∀ y, x = some y → fNum "full" y.full ∈ fs ∧ fNum "use" y.usable ∈ fs ∧ fNum "dlim" y.dischargeLimit ∈ fs ∧
    fNum "req" y.request ∈ fs ∧ fYes "chg" y.charging ∈ fs ∧ fYes "dis" y.discharging ∈ fs ∧ fYes "flt" y.fault ∈ fs ∧
    fYes "empty" y.empty ∈ fs) ∧
  (x = none → ∀ f ∈ fs, f.key ∉ ["full", "use", "dlim", "req", "chg", "dis", "flt", "empty"])

/-- The fields of a valid capture (R165, R166); the keywords are the model's (log 24). -/
def CaptureShown (x : Capture) (fs : List Field) : Prop :=
  fNum "zone" x.zone.val ∈ fs ∧ fWord "cause" x.cause.word ∈ fs ∧ fSet "mset" x.matched ∈ fs ∧
    (⟨"hist", .history x.history⟩ : Field) ∈ fs ∧ fNum "cnt" x.history.length ∈ fs ∧ fStamp "t" x.stamp ∈ fs ∧
    fWord "src" x.source.word ∈ fs ∧ fSet "chs" x.enabled ∈ fs ∧ fNum "pl" x.load ∈ fs ∧ fNum "later" x.later ∈ fs

/-- Reports raised one after another: kind, subject, v1 and v2 of each (R176). -/
def raiseAll (l : List (ReportKind × Option Nat × Option Nat × Option Nat)) (s : State) : State :=
  forEach l (fun x => raise x.1 x.2.1 x.2.2.1 x.2.2.2) s

/-- The patterns that match a history for a zone (R137). -/
def matchingOf (w : WorkCfg) (z : Zone) (h : List Wetness) : List PatIx :=
  allPats.filter fun p =>
    w.pats[p].enabled && w.zone[z].pats.contains p && !w.pats[p].sel.isEmpty && decide (w.pats[p].min ≤ h.length) &&
      w.pats[p].sel.all fun q => decide (q.1.val < h.length) && (h[q.1.val]? == some q.2)

/-- A zone's record after its reading of a leak scan (R133 to R141), by its state before. -/
def zoneAfterScan (w : WorkCfg) (now : Stamp) (z : Zone) (x : Nat) (r : ZoneRec) : ZoneRec :=
  let c : LoopClass := if w.zone[z].openLevel ≤ x then .cable else if x ≤ w.zone[z].wet then .wet else .dry
  let h := ((match c with | .wet => Wetness.wet | .dry => .dry | .cable => .dry) :: r.history).take 16
  let k := match c with | .cable => (if r.cable < 255 then r.cable + 1 else r.cable) | .wet => 0 | .dry => 0
  let read := { r with reading := some x, cls := some c, cable := k }
  let judged : ZoneRec :=
    if (matchingOf w z h).isEmpty then
      if c = .cable ∧ w.zone[z].cnt ≤ k then { read with history := h, state := .cableFault, wetSince := some now }
      else { read with history := h, state := .watch, wetSince := match r.state with | .cableFault => none | _ => r.wetSince }
    else { read with
      history := h, state := .wet, matched := matchingOf w z h, wetSince := some now
      esc := if w.zone[z].esc = 0 then none else some ⟨now, w.zone[z].esc⟩ }
  match r.state with
  | .off => { r with reading := some x }
  | .wet | .escalated => { read with history := if c = .cable then r.history else h }
  | .watch => judged
  | .cableFault =>
    if w.zone[z].cpol = .treatWet ∨ c = .cable then { read with history := h } else judged

/-- The events that only a part with its configuration loaded takes. -/
def takenAfterLoad : Instr → Bool
  | .resetPin | .resetResponseSent | .channelSenseScan _ | .powerGoodRise _ | .powerGoodFall _ | .trayFaultAsserted _
  | .trayFaultReleased _ | .rampTimerExpiry _ | .warningTimerExpiry _ | .stopConfirmExpiry _ | .splitSpacingExpiry
  | .lateTimerExpiry | .deficitGraceExpiry | .gapTimerExpiry | .roundTimerExpiry | .shelfResponse _
  | .responseTimeout | .busSample _ | .debounceTimerExpiry | .qualifyExpiry | .walkInExpiry | .silenceTimerExpiry
  | .leakScan _ | .escalationTimerExpiry _ | .overrideWindowExpiry | .closedContactPresent _ | .openContactPresent _
  | .contactAbsent _ _ | .travelTimerExpiry _ | .saveCompletion => true
  | _ => false

/-! ### Laws of every state -/

/-- R35: the PENDING channels are exactly the queued ones, each in one entry, and no entry is empty. -/
def QueueLaw (s : State) : Prop :=
  (∀ c, (s.ch c).state = .pending ↔ c ∈ queuedChans s.budget.queue) ∧ (queuedChans s.budget.queue).Nodup ∧
    ∀ e ∈ s.budget.queue, e.chans ≠ []

/-- R128: the effective restore policy is the configured one until silence stage 2, which makes it AUTO. -/
def PolicyLaw (s : State) : Prop :=
  s.source.stage ≤ 2 ∧ s.source.policy = if s.source.stage = 2 then .auto else s.cfg.charge.policy

/-- R177: a report queue holds at most 32 entries, alarms ahead of ordinary ones. -/
def ReportOrder (q : List Report) : Prop := q.length ≤ 32 ∧ q = alarmsOf q ++ ordinaryOf q

/-- R177 on both ports. -/
def ReportLaw (s : State) : Prop := ∀ p, ReportOrder (s.port p).queue

/-- R160: a valve with a demand is CLOSING, CLOSED or FAULT. -/
def ValveLaw (s : State) : Prop :=
  ∀ v : ValveIx, s.resp.valve[v].demanded = true →
    s.resp.valve[v].state = .closing ∨ s.resp.valve[v].state = .closed ∨ s.resp.valve[v].state = .fault

/-- The settings of a channel lie in their ranges (Table 1-1). -/
def ChanCfg.inRange (g : ChanCfg) : Prop :=
  g.alloc ≤ 20000 ∧ g.inrush ≤ 20000 ∧ g.warn ≤ 60000 ∧ 100 ≤ g.ramp ∧ g.ramp ≤ 10000

/-- The policy settings lie in their ranges (R47). -/
def PolicyCfg.inRange (p : PolicyCfg) : Prop :=
  p.k ≤ 2 ∧ p.guard ≤ 25 ∧ p.inrush ≤ 60000 ∧ p.grace ≤ 10000 ∧ 1000 ≤ p.late ∧ p.late ≤ 600000 ∧ p.spacing ≤ 5000

/-- The ride settings lie in their ranges, and the final reserve is below the target (Table 5-8). -/
def RideCfg.inRange (r : RideCfg) : Prop :=
  10 ≤ r.target ∧ r.target ≤ 3600 ∧ r.reserve ≤ 600 ∧ r.reserve ≤ r.target - 1 ∧ 700 ≤ r.eff ∧ r.eff ≤ 1000 ∧
    r.cap ≤ 60000 ∧ r.thr ≤ 2 ∧ r.deb ≤ 50 ∧ r.qual ≤ 120000 ∧ r.walk ≤ 60000 ∧ 100 ≤ r.round ∧ r.round ≤ 1000

/-- The charge settings lie in their ranges (Table 6-3). -/
def ChargeCfg.inRange (g : ChargeCfg) : Prop := g.floor ≤ 20000 ∧ g.limit ≤ 40000 ∧ g.window ≤ 600

/-- The settings of a zone lie in their ranges, and the wet level is below the open level (R132). -/
def ZoneCfg.inRange (z : ZoneCfg) : Prop :=
  z.wet < z.openLevel ∧ z.openLevel ≤ 4095 ∧ z.esc ≤ 600000 ∧ 1 ≤ z.cnt ∧ z.cnt ≤ 16

/-- Every setting lies in its range (R185). -/
def WorkCfg.inRange (w : WorkCfg) : Prop :=
  (∀ c : Ch, (w.chan[c]).inRange) ∧ (∀ n : StepIx, (w.steps[n]).gap ≤ 65535) ∧ w.policy.inRange ∧ w.ride.inRange ∧
    w.charge.inRange ∧ (∀ z : Zone, (w.zone[z]).inRange) ∧ 20 ≤ w.scanPeriod ∧ w.scanPeriod ≤ 1000 ∧
    (∀ n : PatIx, 1 ≤ (w.pats[n]).min ∧ (w.pats[n]).min ≤ 16) ∧ 1000 ≤ w.travel ∧ w.travel ≤ 60000

/-- Every setting that the store holds or is being written lies in its range. -/
def Store.inRange : Store → Prop
  | .invalid => True
  | .valid image => image.inRange
  | .writing copy _ => copy.inRange

/-- R185: the working configuration and the store hold settings in their ranges. -/
def SettingsLaw (s : State) : Prop := s.cfg.inRange ∧ s.store.inRange

end Sys2Proof.Machine
end

