-- ==== Sys2Proof/Certificates/Slice0/Obligations.lean ====
section
/-! DEFINITION. The statements for the provers. -/

section

open Sys2Proof Sys2Proof.Machine

/-! ### The step, the queue of commands, power -/

/-- The block's step: the command at the front of the queue is run on the state with the queue's rest. -/
def Obligations.StepRunsTheFrontCommand : Prop :=
  ∀ (c : Instr) (s : State) (rest : List Instr),
    step { s with pending := c :: rest } = exec c { s with pending := rest }

/-- At power-up every output is released, the time base is 0 and the configuration is not yet loaded (R195; that
State.reset is this instant is the model's choice, log 1). -/
def Obligations.ResetIsPowerUpWithOutputsReleased : Prop :=
  State.reset.power = .loading ∧ State.reset.now = 0 ∧ State.reset.pending = [] ∧
  (∀ c, enableLine State.reset c = false ∧ warningLine State.reset c = false) ∧
  (∀ v, closeDrive State.reset v = false ∧ openDrive State.reset v = false) ∧
  ∀ p, attentionLine State.reset p = false

/-- Loss of power and power-up leave a valid store as it is and make a store that is being written INVALID (R187);
power-up begins a cold start with the time base at 0 and every output released (R195). -/
def Obligations.PowerLossAndPowerUp : Prop :=
  ∀ s : State, ∀ i ∈ [Instr.powerLoss, Instr.powerUp], ∃ t, exec i s = .next t ∧
    t.power = (if i = .powerUp then .loading else .off) ∧ t.now = 0 ∧
    (∀ copy at', s.store = .writing copy at' → t.store = .invalid) ∧
    (∀ image, s.store = .valid image → t.store = .valid image) ∧
    (s.store = .invalid → t.store = .invalid) ∧
    (∀ c, enableLine t c = false ∧ warningLine t c = false) ∧
    (∀ v, closeDrive t v = false ∧ openDrive t v = false) ∧ (∀ p, attentionLine t p = false) ∧
    t.pending = s.pending

/-- Load completion: the configuration comes from a VALID store or from the defaults (R186), and every block takes
its cold-start values (R195, R1, R16, R51, R93, R116, R168, R184). A port keeps what it has received, sent and counted since
power-up (log 27). That the VALVE FAULT reports come in valve order and before CONFIG DEFAULTED is the model's choice (logs 36
and 46). -/
def Obligations.LoadCompletionStartsEveryBlock : Prop :=
  ∀ (pins : PinSample) (s : State), s.power = .loading → ∃ u, Acts (.loadCompletion pins) s u ∧
    u.power = .running ∧ u.now = s.now ∧ u.store = s.store ∧ u.pending = s.pending ∧
    (∀ image, s.store = .valid image → u.cfg = image ∧ u.cfgFrom = .store) ∧
    ((∀ image, s.store ≠ .valid image) →
      u.cfg = defaultCfg ∧ u.cfgFrom = .defaults ∧
        (⟨.configDefaulted, s.now, none, some 0, none⟩ : Report) ∈ u.link.manager.queue) ∧
    (∀ c, u.ch c =
      { Channel.cold with
        powerGood := pins.powerGood[c], trayFault := pins.trayFault[c], confirm := some ⟨s.now, 1000⟩ }) ∧
    u.budget = .cold ∧ u.run = none ∧
    u.shelf =
      { Shelf.cold with
        inRound := true, roundTimer := some ⟨s.now, u.cfg.ride.round⟩, poll := some ⟨0, ⟨s.now, 20⟩, .rect true none⟩ } ∧
    u.source =
      { Source.cold with
        policy := u.cfg.charge.policy
        silence := if u.cfg.charge.window = 0 then none else some ⟨s.now, u.cfg.charge.window * 1000⟩ } ∧
    (∀ z : Zone, u.zones[z] = ZoneRec.cold u.cfg.zone[z].enabled) ∧ u.scan = some ⟨s.now, u.cfg.scanPeriod⟩ ∧
    (∀ v : ValveIx, u.resp.valve[v] =
      { state := if pins.closed[v] = pins.opened[v] then .fault else if pins.closed[v] then .closed else .opened
        zones := [], hostClose := false, travel := none
        closedContact := pins.closed[v], openContact := pins.opened[v] }) ∧
    (∀ v : ValveIx, pins.closed[v] = pins.opened[v] → closeDrive u v = true ∧ u.link.flags.valve = true) ∧
    u.resp.seq = none ∧ u.resp.lockout = false ∧ u.resp.capture = none ∧
    (let port := fun p : Port => { s.port p with buffer := [], queue := [], lost := 0 }
    let faults := (allValves.filter fun v => decide (pins.closed[v] = pins.opened[v])).map fun v =>
      (ReportKind.valveFault, some v.val, some 3, some (if pins.closed[v] then 3 else 0))
    let defaulted := match s.store with
      | .valid _ => []
      | .invalid | .writing _ _ => [(ReportKind.configDefaulted, none, some 0, none)]
    u.link = (raiseAll (faults ++ defaulted)
      { u with link := { manager := port .manager, service := port .service, flags := .clear } }).link) ∧
    u.tally = .cold ∧ u.cause = ⟨.cold, 0⟩ ∧ u.work.eval = true

/-- With nothing commanded a part with power counts one millisecond and nothing else changes (R192 for the count;
the model's choice, log 3, that an idle step is one millisecond). Until load completion no event of the lines, links and
timers has an effect (R186 for the reset pin; the others by the model's choice, log 5). -/
def Obligations.NothingHappensUnasked : Prop :=
  (∀ s : State, s.pending = [] → step s = .next (if s.power = .off then s else { s with now := s.now + 1 })) ∧
  ∀ (i : Instr) (s : State), takenAfterLoad i = true → s.power ≠ .running → exec i s = .next s

/-- The reset pin: every block takes its warm-reset values, then the tests of R50, R115 and R130 follow (R194). The model's
choices in this: every block has its values before the tests are made (log 36), the poll of RM0 among them (log 45), and a
qualify or walk-in timer restarted with a setting of 0 stands (log 43). -/
def Obligations.ResetPinResetsEveryBlock : Prop :=
  ∀ s : State, s.power = .running → ∃ v, ResetDone .warmPin s v ∧ Acts .resetPin s (resetTests v)

/-- RESET is answered OK on the manager port and DENIED on the service port; the reset begins when its response has
been sent and stands at the front of the manager port's output (R183, R194); without one the event has no effect (log 28). In
the reset itself the model's choices are those of RESET_PIN: every block has its values before the tests (log 36), the poll
of RM0 among them (log 45), and a timer restarted with a setting of 0 stands (log 43). -/
def Obligations.ResetCommandResetsAfterItsResponse : Prop :=
  (∀ (l : LineId) (s : State), l.port = .manager → Ready .manager s →
    Takes l (.reset l) s (found l (.reset l) s) { status := .ok, resets := true }) ∧
  (∀ (l : LineId) (s : State), l.port = .service → Ready .service s →
    Takes l (.reset l) s (found l (.reset l) s) (errReply .denied)) ∧
  (∀ (s : State) (o : OutItem) (rest : List OutItem), s.power = .running → s.link.manager.output = o :: rest →
    o.reply.resets = true →
    ∃ v, ResetDone .warmCommand s v ∧ Acts (.outputLineSent .manager) s (resetTests v)) ∧
  (∀ s : State, s.power = .running → (∃ o ∈ s.link.manager.output, o.reply.resets = true) →
    ∃ v, ResetDone .warmCommand s v ∧ Acts .resetResponseSent s (resetTests v)) ∧
  ∀ s : State, s.power = .running → s.work = .none → (∀ o ∈ s.link.manager.output, o.reply.resets = false) →
    exec .resetResponseSent s = .next s

/-! ### Channel events (Chapter 1) -/

/-- A channel sense scan: each reading is clamped to 0..32,767 and stored, an ON channel above its allocation is
marked and reported once, the Budget Unit and, in RIDE, the Source Controller are handed the scan (R3, R5). -/
def Obligations.SenseScanStoresClampedDraws : Prop :=
  ∀ (x : Vector Int 24) (s : State), s.power = .running → ∃ u, Acts (.channelSenseScan x) s u ∧
    (∀ c, u.ch c =
      { s.ch c with
        draw := min (x[c]).toNat 32767
        overdrawn := (s.ch c).overdrawn ||
          (decide ((s.ch c).state = .on) && decide ((s.chCfg c).alloc < min (x[c]).toNat 32767)) }) ∧
    u.work = { s.work with eval := true, ride := s.work.ride || decide (s.source.state = .ride) } ∧
    ((∀ c, (s.ch c).state = .on → (s.ch c).overdrawn = false → min (x[c]).toNat 32767 ≤ (s.chCfg c).alloc) →
      Silent s u) ∧
    ((∃ c, (s.ch c).state = .on ∧ (s.ch c).overdrawn = false ∧ (s.chCfg c).alloc < min (x[c]).toNat 32767) →
      u.link.flags.channel = true) ∧
    u.budget = s.budget ∧ u.run = s.run ∧ u.shelf = s.shelf ∧ u.source = s.source ∧ u.resp = s.resp ∧ SameRest s u

/-- A power-good rise, state by state (R7). -/
def Obligations.PowerGoodRiseByState : Prop :=
  ∀ (c : Ch) (s : State), s.power = .running → ∃ u, Acts (.powerGoodRise c) s u ∧
    match (s.ch c).state with
    | .ramping =>
      OnlyRecord c { s.ch c with
        powerGood := true, state := .on, since := s.now, ramp := none, overdrawn := false, admitted := none } s u
    | .off | .pending | .faulted =>
      u = s.modCh c fun r => { r with
        powerGood := true, confirm := match r.confirm with
          | some t => some t
          | none => some ⟨s.now, 1000⟩ }
    | .on | .warning => u = s.modCh c fun r => { r with powerGood := true }

/-- A power-good fall, state by state: ON faults with DROP; WARNING and RAMPING keep their timers, and a WARNING
channel becomes OFF at its expiry; elsewhere a running stop-confirm timer is dropped (R8). -/
def Obligations.PowerGoodFallByState : Prop :=
  (∀ (c : Ch) (s : State), s.power = .running → ∃ u, Acts (.powerGoodFall c) s u ∧
    match (s.ch c).state with
    | .on => EntersFaulted c .drop { s.ch c with powerGood := false } s u
    | .warning | .ramping => u = s.modCh c fun r => { r with powerGood := false }
    | .off | .pending | .faulted => u = s.modCh c fun r => { r with powerGood := false, confirm := none }) ∧
  ∀ (c : Ch) (s : State), s.power = .running → (s.ch c).state = .warning → (s.ch c).warn.isSome →
    (s.ch c).powerGood = false → ∃ u, Acts (.warningTimerExpiry c) s u ∧ (u.ch c).state = .off

/-- The tray fault input: RAMPING, ON and WARNING channels fault with TRAY, others record the level; a release only
records it; a channel admitted with the level asserted faults with TRAY at once (R10). -/
def Obligations.TrayFaultByState : Prop :=
  (∀ (c : Ch) (s : State), s.power = .running → ∃ u, Acts (.trayFaultAsserted c) s u ∧
    match (s.ch c).state with
    | .ramping | .on | .warning => EntersFaulted c .tray { s.ch c with trayFault := true } s u
    | .off | .pending | .faulted => u = s.modCh c fun r => { r with trayFault := true }) ∧
  (∀ (c : Ch) (s : State), s.power = .running →
    Acts (.trayFaultReleased c) s (s.modCh c fun r => { r with trayFault := false })) ∧
  ∀ (c : Ch) (s : State), (s.ch c).trayFault = true →
    ((admitChannel c s).ch c).state = .faulted ∧ ((admitChannel c s).ch c).fault = .tray

/-- The ramp timer: a RAMPING channel faults with RAMP; a rise or a tray fault taken first drops the timer, so no
expiry is taken (R9). -/
def Obligations.RampExpiryFaultsTheChannel : Prop :=
  (∀ (c : Ch) (s : State), s.power = .running → (s.ch c).state = .ramping → (s.ch c).ramp.isSome →
    ∃ u, Acts (.rampTimerExpiry c) s u ∧ EntersFaulted c .ramp (s.ch c) s u) ∧
  (∀ (c : Ch) (s : State), s.power = .running → (s.ch c).state = .ramping →
    ∃ u w, Acts (.powerGoodRise c) s u ∧ (u.ch c).ramp = none ∧
      Acts (.trayFaultAsserted c) s w ∧ (w.ch c).ramp = none) ∧
  ∀ (c : Ch) (s : State), s.power = .running → (s.ch c).ramp = none → Acts (.rampTimerExpiry c) s s

/-- The warning timer: a WARNING channel becomes OFF with its lines released and its stop-confirm timer started, and
leaves the in-flight set (R13, R44). The stop-confirm timer: with power-good absent nothing further happens; with it
present an OFF or PENDING channel (a PENDING one first withdrawn) and a FAULTED one take fault kind STUCK, once (R16).
A timer that does not run has no effect (log 4). -/
def Obligations.WarningAndStopConfirmExpiries : Prop :=
  (∀ (c : Ch) (s : State), s.power = .running → (s.ch c).state = .warning → (s.ch c).warn.isSome →
    ∃ u, Acts (.warningTimerExpiry c) s u ∧ (u.ch c) = (s.ch c).switchedOff s.now ∧ OnlyChannel c s u ∧
      u.budget = { s.budget with inflight := setErase c s.budget.inflight } ∧ u.source = s.source ∧ u.run = s.run ∧
      u.shelf = s.shelf ∧ u.resp = s.resp ∧ Silent s u ∧ u.work.eval = true ∧
      (u.work.restore = (s.work.restore || (s.ch c).shed)) ∧ SameRest s u) ∧
  (∀ (c : Ch) (s : State), s.power = .running → (s.ch c).warn = none → Acts (.warningTimerExpiry c) s s) ∧
  (∀ (c : Ch) (s : State), s.power = .running → (s.ch c).confirm = none → Acts (.stopConfirmExpiry c) s s) ∧
  (∀ (c : Ch) (s : State), s.power = .running → (s.ch c).confirm.isSome → (s.ch c).powerGood = false →
    Acts (.stopConfirmExpiry c) s (s.modCh c fun r => { r with confirm := none })) ∧
  (∀ (c : Ch) (s : State), s.power = .running → (s.ch c).confirm.isSome → (s.ch c).powerGood = true →
    (s.ch c).state = .off ∨ (s.ch c).state = .pending →
    ∃ u, Acts (.stopConfirmExpiry c) s u ∧ OnlyChannel c s u ∧
      u.ch c = { s.ch c with
        state := .faulted, fault := .stuck, since := s.now, shed := false, override := false, confirm := none } ∧
      ((s.ch c).state = .pending → c ∉ queuedChans u.budget.queue) ∧ u.link.flags.channel = true ∧ u.shelf = s.shelf ∧ u.resp = s.resp ∧
      SameRest s u) ∧
  ∀ (c : Ch) (s : State), s.power = .running → (s.ch c).confirm.isSome → (s.ch c).powerGood = true →
    (s.ch c).state = .faulted → ∃ u, Acts (.stopConfirmExpiry c) s u ∧ OnlyChannel c s u ∧
      (if (s.ch c).fault = .stuck then u = s.modCh c fun r => { r with confirm := none }
       else u.ch c = { s.ch c with fault := .stuck, since := s.now, confirm := none } ∧
         Reports .channelFault (some c.val) (some 4) (some (s.ch c).draw) (count .channelFaults s) u) ∧
      u.budget = s.budget ∧ u.source = s.source ∧ u.run = s.run ∧ u.shelf = s.shelf ∧ u.resp = s.resp ∧ SameRest s u

/-! ### Timers of the budget, the plan and the links (Chapters 2 to 4) -/

/-- The split spacing timer drops and the head is to be examined (R40); the late timer reports a head not yet reported
(R41); the gap timer moves the cursor on to a step that is then executed (R54). A timer that does not run has no
effect (log 4). -/
def Obligations.SpacingLateAndGapExpiries : Prop :=
  (∀ s : State, s.power = .running →
    (s.budget.spacing = none → Acts .splitSpacingExpiry s s) ∧
    (s.budget.spacing.isSome → Acts .splitSpacingExpiry s
      { s with budget := { s.budget with spacing := none }, work := { s.work with exam := true } })) ∧
  (∀ s : State, s.power = .running →
    (s.budget.late = none → Acts .lateTimerExpiry s s) ∧
    (s.budget.late.isSome → (s.budget.queue = [] ∨ ∃ e q, s.budget.queue = e :: q ∧ e.lateReported = true) →
      Acts .lateTimerExpiry s { s with budget := { s.budget with late := none } }) ∧
    ∀ (e : Entry) (q : List Entry), s.budget.late.isSome → s.budget.queue = e :: q → e.lateReported = false →
      ∃ u, Acts .lateTimerExpiry s u ∧
        u.budget = { s.budget with late := none, queue := { e with lateReported := true } :: q } ∧
        Reports .admissionLate
          (some (match e.name with | .single c => c.val | .gang g _ => g.val))
          (some (match e.name with | .single _ => 0 | .gang _ _ => 1)) (some (msBetween e.joined s.now)) s u ∧
        u.chans = s.chans ∧ u.run = s.run ∧ u.shelf = s.shelf ∧ u.source = s.source ∧ u.resp = s.resp ∧
        u.work = s.work ∧ SameRest s u) ∧
  ∀ s : State, s.power = .running →
    (s.run = none → Acts .gapTimerExpiry s s) ∧
    ∀ r : Run, s.run = some r →
      (r.gap = none ∨ r.state ≠ .running ∨ r.phase ≠ .gap → Acts .gapTimerExpiry s s) ∧
      (r.gap.isSome → r.state = .running → r.phase = .gap → Acts .gapTimerExpiry s
        { s with
          run := some { r with phase := .step, cursor := r.cursor + 1, gap := none, gapLeft := 0 }
          work := { s.work with plan := .exec } })

/-- The deficit grace timer (R45, R46): with channels in flight it restarts; else the highest of tiers 3, 2 and 1 with a
channel RAMPING or ON is stopped and marked shed, ON channels joining the in-flight set; with no such tier BUDGET DEFICIT
is raised once. In each case it restarts with the grace setting; that a grace of 0 so restarted stands until the next
expiry command, where R44 lets a grace of 0 expire at once, is the model's choice (log 16). -/
def Obligations.GraceExpiryShedsTheHighestTier : Prop :=
  ∀ s : State, s.power = .running →
    (s.budget.grace = none → Acts .deficitGraceExpiry s s) ∧
    (s.budget.grace.isSome → s.budget.inflight ≠ [] → Acts .deficitGraceExpiry s
      { s with budget := { s.budget with grace := some ⟨s.now, s.cfg.policy.grace⟩ } }) ∧
    (s.budget.grace.isSome → s.budget.inflight = [] →
      (∀ c, (s.chCfg c).tier ≠ 0 → (s.ch c).state ≠ .ramping ∧ (s.ch c).state ≠ .on) →
      ∃ u, Acts .deficitGraceExpiry s u ∧
        u.budget = { s.budget with grace := some ⟨s.now, s.cfg.policy.grace⟩, reported := true } ∧
        (s.budget.reported = true → Silent s u) ∧
        (s.budget.reported = false →
          Reports .budgetDeficit none (some (-s.budget.figs.m).toNat) (some s.budget.figs.firm) s u) ∧
        u.chans = s.chans ∧ u.run = s.run ∧ u.shelf = s.shelf ∧ u.source = s.source ∧ u.resp = s.resp ∧
        u.work = s.work ∧ SameRest s u) ∧
    ∀ t : Tier, t ≠ 0 → s.budget.grace.isSome → s.budget.inflight = [] →
      (∃ c, (s.chCfg c).tier = t ∧ ((s.ch c).state = .ramping ∨ (s.ch c).state = .on)) →
      (∀ c, t < (s.chCfg c).tier → (s.ch c).state ≠ .ramping ∧ (s.ch c).state ≠ .on) →
      ∃ u, Acts .deficitGraceExpiry s u ∧
        u.budget.grace = some ⟨s.now, s.cfg.policy.grace⟩ ∧ u.link.flags.budget = true ∧
        (∀ c, (s.chCfg c).tier = t → (s.ch c).state = .ramping →
          u.ch c = { (s.ch c).switchedOff s.now with shed := true }) ∧
        (∀ c, (s.chCfg c).tier = t → (s.ch c).state = .on →
          let w := if s.source.state = .ride then min (s.chCfg c).warn s.cfg.ride.cap else (s.chCfg c).warn
          if w = 0 then u.ch c = { (s.ch c).switchedOff s.now with shed := true, warn := none }
          else u.ch c = { s.ch c with state := .warning, since := s.now, shed := true, warn := some ⟨s.now, w⟩ } ∧
            c ∈ u.budget.inflight) ∧
        (∀ c, (s.chCfg c).tier ≠ t ∨ ((s.ch c).state ≠ .ramping ∧ (s.ch c).state ≠ .on) → u.ch c = s.ch c) ∧
        u.budget.queue = s.budget.queue ∧ u.shelf = s.shelf ∧ u.resp = s.resp ∧ u.source = s.source ∧ SameRest s u

/-- A response on the shelf link: late ones are counted and discarded; one from the polled slot with a good check is
taken as its sample; any other is a check failure and a miss; MODULE STATE is raised at a change of state, and the next
slot is polled (R77 to R86). That this poll carries its slot's set-points as they stood before the response is acted on
(log 45), and that MODULE STATE joins ahead of the reports of the hand-overs in the same step (log 41), are the model's
choices. -/
def Obligations.ShelfResponseIsSampleMissOrLate : Prop :=
  [RectState.empty, .disabled, .faulted, .starting, .derated, .online, .lost].map RectState.code = [0, 1, 2, 3, 4, 5, 6] ∧
  [BattState.empty, .standby, .charging, .discharging, .faulted, .depleted, .lost].map BattState.code =
    [0, 1, 2, 3, 4, 5, 6] ∧
  ∀ (x : ShelfReply) (s : State), s.power = .running →
    (x.late = true ∨ s.shelf.poll = none → Acts (.shelfResponse x) s
      { s with shelf := { s.shelf with lates := if s.shelf.lates < 65535 then s.shelf.lates + 1 else s.shelf.lates } }) ∧
    ∀ (p : SlotPos) (t : Timer) (y : SetPoints), x.late = false → s.shelf.poll = some ⟨p, t, y⟩ →
      let named : SlotPos := match x.content with
        | .rect n _ => ⟨n.val, by omega⟩
        | .batt n _ => ⟨n.val + 8, by omega⟩
      ∃ u, Acts (.shelfResponse x) s u ∧ PollEnded p s u ∧
        (x.checkGood = true → named = p →
          Sampled x.content s u ∧ u.shelf.bad = s.shelf.bad ∧ u.shelf.lastBad = s.shelf.lastBad ∧
          u.work.eval = true) ∧
        (x.checkGood = false ∨ named ≠ p →
          Missed p s u ∧ u.shelf.lastBad = some p ∧ CountedUp 65535 s.shelf.bad[p] u.shelf.bad[p] ∧
          ∀ q : SlotPos, q ≠ p → u.shelf.bad[q] = s.shelf.bad[q]) ∧
        u.shelf.lates = s.shelf.lates ∧ u.shelf.overruns = s.shelf.overruns ∧ u.shelf.busLow = s.shelf.busLow ∧
        u.shelf.busMv = s.shelf.busMv ∧ u.shelf.debounce = s.shelf.debounce

/-- The round timer begins a round, or counts an overrun of the round in progress; the response timeout ends the poll
with a miss, and the next slot is polled (R77, R79, R81). Each poll carries the set-points of its slot as they stand, and
what changes a set-point later leaves the poll that has been sent (R78). That the poll after a response timeout is sent
before the miss is acted on, so with the set-points from before it (log 45), and that MODULE STATE of a third miss joins ahead
of the reports of the hand-overs in the same step (log 41), are the model's choices. -/
def Obligations.RoundTimerAndResponseTimeout : Prop :=
  (∀ s : State, s.power = .running →
    (s.shelf.roundTimer = none → Acts .roundTimerExpiry s s) ∧
    (s.shelf.roundTimer.isSome → s.shelf.inRound = true → Acts .roundTimerExpiry s
      { s with shelf := { s.shelf with
        overruns := if s.shelf.overruns < 65535 then s.shelf.overruns + 1 else s.shelf.overruns
        overran := true, roundTimer := none } }) ∧
    (s.shelf.roundTimer.isSome → s.shelf.inRound = false → Acts .roundTimerExpiry s
      { s with shelf := { s.shelf with
        inRound := true, overran := false, roundTimer := some ⟨s.now, s.cfg.ride.round⟩
        poll := some ⟨0, ⟨s.now, 20⟩, .rect s.shelf.rect[0].enable s.shelf.rect[0].walkIn⟩ } })) ∧
  (∀ (s : State) (st : SrcState) (o : Option ReturnFrom) (n : BmSlot) (w : Nat),
    (settle s).shelf.poll = s.shelf.poll ∧ (enterSource st o s).shelf.poll = s.shelf.poll ∧
      (distribute s).shelf.poll = s.shelf.poll ∧
      (∀ m : RmSlot, (disableRect m s).shelf.poll = s.shelf.poll ∧ (enableRect m s).shelf.poll = s.shelf.poll) ∧
      ((sendPoll ⟨n.val + 8, by omega⟩ (s.modBatt n fun b => { b with chargeLimit := w })).shelf.poll =
        some ⟨⟨n.val + 8, by omega⟩, ⟨s.now, 20⟩, .batt w s.shelf.batt[n].discharge⟩)) ∧
  ∀ s : State, s.power = .running →
    (s.shelf.poll = none → Acts .responseTimeout s s) ∧
    ∀ (p : SlotPos) (t : Timer) (y : SetPoints), s.shelf.poll = some ⟨p, t, y⟩ →
      ∃ u, Acts .responseTimeout s u ∧ PollEnded p s u ∧ Missed p s u ∧ u.shelf.bad = s.shelf.bad ∧
        u.shelf.lastBad = s.shelf.lastBad ∧ u.shelf.lates = s.shelf.lates ∧ u.shelf.overruns = s.shelf.overruns ∧
        u.shelf.busLow = s.shelf.busLow ∧ u.shelf.busMv = s.shelf.busMv ∧ u.shelf.debounce = s.shelf.debounce

/-- A bus sample and the debounce timer (R91): the threshold and the normal level, the timer's start and drop, the two
declarations; a bus declared low in GRID begins a ride, which empties the queue, withdraws its channels and pauses an UP
run with cause SOURCE (R43, R63, R64, R96, R98). -/
def Obligations.BusSamplesDeclareLowAndNormal : Prop :=
  (∀ (mv : Nat) (s : State), s.power = .running →
    let v := min mv 65535
    let thr := if s.cfg.ride.thr = 0 then 46000 else if s.cfg.ride.thr = 1 then 45000 else 44000
    let stored := { s with shelf := { s.shelf with busMv := v } }
    (s.shelf.busLow = true → v ≤ thr + 600 → Acts (.busSample mv) s stored) ∧
    (s.shelf.busLow = true → thr + 600 < v → ∃ u, Acts (.busSample mv) s u ∧
      u.shelf.busLow = false ∧ u.shelf.busMv = v ∧ u.shelf.debounce = s.shelf.debounce ∧
      let normal := { s with shelf := { s.shelf with busMv := v, busLow := false } }
      (inputReturn normal = false → u = normal) ∧
      (inputReturn normal = true → s.cfg.ride.qual ≠ 0 →
        (s.source.state = .ride → u.source.state = .qualify ∧ u.source.origin = some .ride) ∧
        (s.source.state = .down → u.source.state = .qualify ∧ u.source.origin = some .down) ∧
        (s.source.state ≠ .ride → s.source.state ≠ .down → u = normal))) ∧
    (s.shelf.busLow = false → thr ≤ v → Acts (.busSample mv) s
      { s with shelf := { s.shelf with busMv := v, debounce := none } }) ∧
    (s.shelf.busLow = false → v < thr → s.shelf.debounce.isSome → Acts (.busSample mv) s stored) ∧
    (s.shelf.busLow = false → v < thr → s.shelf.debounce = none → s.cfg.ride.deb ≠ 0 → Acts (.busSample mv) s
      { s with shelf := { s.shelf with busMv := v, debounce := some ⟨s.now, s.cfg.ride.deb⟩ } }) ∧
    (s.shelf.busLow = false → v < thr → s.shelf.debounce = none → s.cfg.ride.deb = 0 →
      ∃ u, Acts (.busSample mv) s u ∧ u.shelf.busLow = true ∧ u.shelf.busMv = v ∧
        (s.source.state = .grid → LeavesGrid s u))) ∧
  ∀ s : State, s.power = .running →
    (s.shelf.debounce = none → Acts .debounceTimerExpiry s s) ∧
    (s.shelf.debounce.isSome → ∃ u, Acts .debounceTimerExpiry s u ∧ u.shelf.busLow = true ∧
      u.shelf.debounce = none ∧ u.shelf.busMv = s.shelf.busMv ∧ (s.source.state = .grid → LeavesGrid s u))

/-! ### Source events (Chapters 5 and 6) -/

/-- The qualify timer leads to HANDBACK, the walk-in timer to GRID, with the set-points of R95 (R101, R102). At the entry
into GRID a run paused by the source goes on (R65); the auto-restore pass that is then due places every eligible channel
not placed before, in its order (R124); and after an outage with origin DOWN an UP run is asked for, which an active run,
or one this entry resumes, and an absent up-entry stand against (R68, R126, log 15). That a walk-in time of 0 reaches GRID
in the same command follows the model's reading of R101 (log 17). That the run's step which this entry completes or resumes
is still due when RIDE END is raised is the model's choice (log 48). -/
def Obligations.QualifyAndWalkInExpiries : Prop :=
  (∀ s : State, s.power = .running →
    (s.source.qualify = none ∨ s.source.state ≠ .qualify → Acts .qualifyExpiry s s) ∧
    (s.source.qualify.isSome → s.source.state = .qualify → s.cfg.ride.walk ≠ 0 →
      ∃ u, Acts .qualifyExpiry s u ∧
        u.source = { s.source with
          state := .handback, since := s.now, qualify := none, walkIn := some ⟨s.now, s.cfg.ride.walk⟩
          chargeFirst := false } ∧
        (∀ n : RmSlot, u.shelf.rect[n] = { s.shelf.rect[n] with walkIn := some s.cfg.ride.walk }) ∧
        (∀ n : BmSlot, u.shelf.batt[n] = { s.shelf.batt[n] with discharge := true }) ∧
        u.chans = s.chans ∧ u.budget = s.budget ∧ u.run = s.run ∧ u.resp = s.resp ∧ Silent s u ∧
        u.work.eval = true ∧ SameRest s u) ∧
    (s.source.qualify.isSome → s.source.state = .qualify → s.cfg.ride.walk = 0 →
      ∃ u, Acts .qualifyExpiry s u ∧ u.source.state = .grid ∧ u.source.origin = none)) ∧
  (∀ s : State, s.power = .running →
    (s.source.walkIn = none ∨ s.source.state ≠ .handback → Acts .walkInExpiry s s) ∧
    (s.source.walkIn.isSome → s.source.state = .handback → ∃ u, Acts .walkInExpiry s u ∧
      u.source.state = .grid ∧ u.source.origin = none ∧ u.source.since = s.now ∧ u.source.level = 0 ∧
      u.source.reserveTaken = false ∧ u.source.walkIn = none ∧ u.source.placed = [] ∧
      u.source.outage = s.source.outage ∧
      (∀ n : RmSlot, u.shelf.rect[n].walkIn = none) ∧ (∀ n : BmSlot, u.shelf.batt[n].discharge = false) ∧
      RunEntersGrid s u ∧
      u.link.flags.source = true ∧ u.work.eval = true ∧ u.work.restore = true ∧
      (u.work.autoUp = true ↔ s.cfg.charge.autoUp = true ∧ s.source.origin = some .down ∧
        ¬ ∃ r, s.run = some r ∧ r.kind = .up ∧ r.state = .paused ∧ r.pauseCause = some .source))) ∧
  (∀ s : State,
    (s.source.policy ≠ .auto ∨ s.source.state ≠ .grid ∨ s.source.chargeFirst = true → autoRestore s = s) ∧
    (s.source.policy = .auto → s.source.state = .grid → s.source.chargeFirst = false →
      ∃ js, RestoreOrder s (fun c => c ∉ s.source.placed) js ∧
        (autoRestore s).budget.queue = s.budget.queue ++ js.map (fun c => ⟨.single c, none, .restore, s.now, false, false⟩) ∧
        (∀ c, (autoRestore s).ch c = if c ∈ js then { s.ch c with state := .pending, since := s.now } else s.ch c) ∧
        (∀ c, c ∈ (autoRestore s).source.placed ↔ c ∈ s.source.placed ∨ c ∈ js) ∧
        { (autoRestore s).source with placed := s.source.placed } = s.source ∧ Silent s (autoRestore s) ∧
        (autoRestore s).run = s.run ∧ (autoRestore s).shelf = s.shelf ∧ SameRest s (autoRestore s))) ∧
  ∀ s : State,
    (runActive s = true ∨ s.cfg.up = none → requestUpRun s = s) ∧
    ∀ e, runActive s = false → s.cfg.up = some e → ∃ r, requestUpRun s =
        { s with run := some r, work := { s.work with plan := .exec } } ∧
      r.state = .running ∧ r.kind = .up ∧ r.origin = .source ∧ r.entry = e ∧ r.cursor = e ∧ r.startedAt = s.now

/-- Input loss in QUALIFY or HANDBACK: with origin RIDE the rack is back in RIDE in the same outage, with RIDE BEGIN and a
ride evaluation due (R99); with origin DOWN it goes back to DOWN, and the next return begins QUALIFY with origin DOWN again
(R103). With a qualify time of 0 that return leads to HANDBACK in the same step: the expiry follows
the entry at once (R100, R101), which the model reads as part of one command (log 17). -/
def Obligations.InputLossWhileReturning : Prop :=
  (∀ s : State, inputLoss s = true → s.source.state = .qualify ∨ s.source.state = .handback →
    s.source.origin = some .ride →
    let u := testLoss s
    let left := if s.source.state = .qualify then 2 else 3
    let ground := if s.shelf.busLow then if ∃ n : RmSlot, s.shelf.rect[n].counted = true then 1 else 3 else 2
    let begun := raise .rideBegin none (some left) (some ground) s
    u.source = { s.source with
      state := .ride, origin := none, since := s.now, qualify := none, walkIn := none, chargeFirst := false } ∧
    (∀ n : RmSlot, u.shelf.rect[n] = { s.shelf.rect[n] with walkIn := none }) ∧
    (∀ n : BmSlot, u.shelf.batt[n] = { s.shelf.batt[n] with discharge := true }) ∧
    u.link = begun.link ∧ u.tally = begun.tally.take .rideEntries ∧ u.work.ride = true ∧ u.work.eval = true ∧
    u.chans = s.chans ∧ u.budget = s.budget ∧ u.run = s.run ∧ u.resp = s.resp ∧ SameRest s u) ∧
  (∀ s : State, inputLoss s = true → s.source.state = .qualify ∨ s.source.state = .handback →
    s.source.origin = some .down →
    let u := testLoss s
    u.source.state = .down ∧ u.source.origin = none ∧ u.source.since = s.now ∧ u.source.qualify = none ∧
      u.source.walkIn = none ∧ u.source.outage = s.source.outage ∧ u.source.level = s.source.level ∧
      u.source.reserveTaken = s.source.reserveTaken ∧ (∀ n : RmSlot, u.shelf.rect[n].walkIn = none) ∧
      (∀ n : BmSlot, u.shelf.batt[n].discharge = false) ∧ u.work.eval = true ∧ Silent s u ∧ SameRest s u) ∧
  ∀ s : State, inputReturn s = true → s.source.state = .down →
    (s.cfg.ride.qual ≠ 0 → (testReturn s).source.state = .qualify ∧ (testReturn s).source.origin = some .down) ∧
    (s.cfg.ride.qual = 0 → s.cfg.ride.walk ≠ 0 →
      (testReturn s).source.state = .handback ∧ (testReturn s).source.origin = some .down)

/-- The silence timer takes the stage from 0 to 1 to 2, each with its report, and stage 2 makes the effective policy
AUTO (R127). A valid line on the manager port at stage 1 or 2, a verb's line or a received text, ends the silence without a
report: the part goes on as if the stage had been 0 and the effective policy the configured one (R128). -/
def Obligations.SilenceStagesAndTheirEnd : Prop :=
  (∀ s : State, s.power = .running → s.work = .none → s.source.stage ≠ 0 → PolicyLaw s →
    let heard := { s with source := { s.source with stage := 0, policy := s.cfg.charge.policy } }
    (∀ (l : LineId) (i : Instr), l.port = .manager → i.line? = some l → exec i s = exec i heard) ∧
    ∀ x : List Char, (s.port .manager).overlong = false → (receivedLine ((s.port .manager).rx ++ x)).isSome →
      exec (.lineArrival .manager x) s = exec (.lineArrival .manager x) heard) ∧
  ∀ s : State, s.power = .running →
    (s.source.silence = none → Acts .silenceTimerExpiry s s) ∧
    (s.source.silence.isSome → s.source.stage = 0 → ∃ u, Acts .silenceTimerExpiry s u ∧
      u.source = { s.source with
        stage := 1
        silence := if s.cfg.charge.window = 0 then none else some ⟨s.now, s.cfg.charge.window * 1000⟩ } ∧
      Reports .hostSilent none (some 1) (some s.cfg.charge.window) s u ∧ u.work = s.work ∧ u.chans = s.chans ∧
      u.budget = s.budget ∧ u.run = s.run ∧ u.shelf = s.shelf ∧ u.resp = s.resp ∧ SameRest s u) ∧
    (s.source.silence.isSome → s.source.stage = 1 → ∃ u, Acts .silenceTimerExpiry s u ∧
      u.source = { s.source with stage := 2, silence := none, policy := .auto } ∧
      Reports .hostSilent none (some 2) (some s.cfg.charge.window) s u ∧
      (s.source.policy = .host → u.work.restore = true) ∧ u.chans = s.chans ∧
      u.budget = s.budget ∧ u.run = s.run ∧ u.shelf = s.shelf ∧ u.resp = s.resp ∧ SameRest s u)

/-! ### Leak events (Chapters 7 and 8) -/

/-- A leak scan: every zone's record after it, and what a zone that latches does at once: its holds and its valve
demand stand, the capture is valid, and its STOP or CUT has reached the channels of its entry that carry no override mark
by then, whose shed marks it clears (R133 to R141, R150, R151, R165). The response of one zone is also given channel by
channel. -/
def Obligations.LeakScanJudgesEveryZone : Prop :=
  (∀ (x : Vector Nat 16) (s : State), s.power = .running → ∃ t, exec (.leakScan x) s = .next t ∧
    (∀ z : Zone, t.zones[z] = zoneAfterScan s.cfg s.now z x[z] s.zones[z]) ∧
    t.scan = some ⟨s.now, s.cfg.scanPeriod⟩ ∧ t.cfg = s.cfg ∧ t.store = s.store ∧ t.now = s.now ∧
    (∀ z : Zone,
      (s.zones[z].state ≠ .wet ∧ s.zones[z].state ≠ .escalated ∧ t.zones[z].state = .wet) ∨
      (s.cfg.zone[z].cpol = .treatWet ∧ s.zones[z].state = .watch ∧ t.zones[z].state = .cableFault) →
      t.resp.capture.isSome ∧
      (s.cfg.resp[z].action ≠ .report → ∀ c ∈ s.cfg.resp[z].chans, z ∈ (t.ch c).holds) ∧
      ∀ v, s.cfg.resp[z].valve = some v → z ∈ t.resp.valve[v].zones)) ∧
  (∀ (x : Vector Nat 16) (s : State), s.power = .running → ∃ u, Acts (.leakScan x) s u ∧
    let after := fun z : Zone => (zoneAfterScan s.cfg s.now z x[z] s.zones[z]).state
    let latches := fun z : Zone =>
      (s.zones[z].state ≠ .wet ∧ s.zones[z].state ≠ .escalated ∧ after z = .wet) ∨
      (s.cfg.zone[z].cpol = .treatWet ∧ s.zones[z].state = .watch ∧ after z = .cableFault)
    let reaches := fun (z : Zone) (c : Ch) => latches z ∧ s.cfg.resp[z].action ≠ .report ∧ c ∈ s.cfg.resp[z].chans
    (∀ c, (∀ z, ¬ reaches z c) → u.ch c = s.ch c) ∧
    ∀ z c, reaches z c → z ∉ (s.ch c).holds ∨ (s.ch c).override = false →
      (u.ch c).shed = false ∧ (u.ch c).override = false ∧
      (u.ch c).state ≠ .on ∧ (u.ch c).state ≠ .ramping ∧ (u.ch c).state ≠ .pending ∧
      ((s.ch c).state = .pending → c ∉ queuedChans u.budget.queue) ∧
      (s.cfg.resp[z].action = .cut → (u.ch c).state = .off ∨ (u.ch c).state = .faulted)) ∧
  ∀ (z : Zone) (k : LeakCause) (s : State) (c : Ch),
    let e := s.cfg.resp[z]
    let u := applyResponse z k s
    let held := if z ∈ (s.ch c).holds then s.ch c
      else { s.ch c with holds := setInsert z (s.ch c).holds, override := false }
    let cleared := { held with shed := false }
    (e.action = .report ∨ c ∉ e.chans → u.ch c = s.ch c) ∧
    (e.action ≠ .report → c ∈ e.chans → held.override = true → u.ch c = held) ∧
    (e.action = .isolate → c ∈ e.chans → held.override = false → u.ch c = cleared.stopped s.now
      (if s.source.state = .ride then min (s.chCfg c).warn s.cfg.ride.cap else (s.chCfg c).warn)) ∧
    (e.action = .cut → c ∈ e.chans → held.override = false → u.ch c = cleared.wasCut s.now)

/-- The class of a reading is stored as the zone's last class, and each WET sample is one LEAK WET SAMPLES event (R134). -/
def Obligations.ReadingsAreClassified : Prop :=
  ∀ (z : Zone) (x : Nat) (s : State), s.zones[z].state ≠ .off → s.cfg.zone[z].wet < s.cfg.zone[z].openLevel →
    let u := (sampleZone z x s).1
    (s.cfg.zone[z].openLevel ≤ x → u.zones[z].cls = some .cable) ∧
    (x ≤ s.cfg.zone[z].wet → u.zones[z].cls = some .wet ∧ u.tally = s.tally.take .leakWetSamples) ∧
    (s.cfg.zone[z].wet < x → x < s.cfg.zone[z].openLevel → u.zones[z].cls = some .dry ∧ u.tally = s.tally)

/-- The escalation timer: a WET zone is ESCALATED, reported, and its escalation action reaches the channels and valves
(R140, R152). -/
def Obligations.EscalationExpiryAppliesTheAction : Prop :=
  ∀ (z : Zone) (s : State), s.power = .running →
    (s.zones[z].esc = none ∨ s.zones[z].state ≠ .wet → Acts (.escalationTimerExpiry z) s s) ∧
    (s.zones[z].esc.isSome → s.zones[z].state = .wet → ∃ u, Acts (.escalationTimerExpiry z) s u ∧
      u.zones = s.zones.set z { s.zones[z] with state := .escalated, esc := none } ∧ u.link.flags.leak = true ∧
      (s.cfg.resp[z].esc = .nothing → u.chans = s.chans) ∧
      (s.cfg.resp[z].esc = .isolateNoncritical → ∀ c,
        ((s.chCfg c).tier = 0 → u.ch c = s.ch c) ∧
        ((s.chCfg c).tier ≠ 0 → z ∈ (u.ch c).holds ∧
          (z ∉ (s.ch c).holds ∨ (s.ch c).override = false →
            (u.ch c).state ≠ .on ∧ (u.ch c).state ≠ .ramping ∧ (u.ch c).shed = false))) ∧
      (s.cfg.resp[z].esc = .cutAll → ∀ c,
        z ∈ (u.ch c).holds ∧ ((u.ch c).state = .off ∨ (u.ch c).state = .faulted) ∧ (u.ch c).override = false ∧
          (u.ch c).shed = false) ∧
      (s.cfg.resp[z].closeAll = true → ∀ v : ValveIx, z ∈ u.resp.valve[v].zones) ∧
      (s.cfg.resp[z].closeAll = false → u.resp.valve = s.resp.valve) ∧
      u.cfg = s.cfg ∧ u.store = s.store ∧ u.now = s.now ∧ u.shelf = s.shelf)

/-- The override window and the valve contacts and travel timer (R156, R162). -/
def Obligations.WindowContactsAndTravel : Prop :=
  (∀ s : State, s.power = .running → Acts .overrideWindowExpiry s { s with resp := { s.resp with seq := none } }) ∧
  (∀ (v : ValveIx) (s : State), s.power = .running →
    (s.resp.valve[v].state ≠ .closing → Acts (.closedContactPresent v) s
      (s.modValve v fun x => { x with closedContact := true })) ∧
    (s.resp.valve[v].state = .closing → ∃ u, Acts (.closedContactPresent v) s u ∧
      u.resp = (s.modValve v fun x => { x with closedContact := true, state := .closed, travel := none }).resp ∧
      Reports .valveMoved (some v.val) (some 2) (some 1) s u)) ∧
  (∀ (v : ValveIx) (s : State), s.power = .running →
    (s.resp.valve[v].state ≠ .opening → Acts (.openContactPresent v) s
      (s.modValve v fun x => { x with openContact := true })) ∧
    (s.resp.valve[v].state = .opening → ∃ u, Acts (.openContactPresent v) s u ∧
      u.resp = (s.modValve v fun x => { x with openContact := true, state := .opened, travel := none }).resp ∧
      Reports .valveMoved (some v.val) (some 0) (some 3) s u)) ∧
  (∀ (v : ValveIx) (s : State), s.power = .running →
    Acts (.contactAbsent v .closed) s (s.modValve v fun x => { x with closedContact := false }) ∧
    Acts (.contactAbsent v .opened) s (s.modValve v fun x => { x with openContact := false })) ∧
  ∀ (v : ValveIx) (s : State), s.power = .running →
    (s.resp.valve[v].travel = none → Acts (.travelTimerExpiry v) s s) ∧
    (s.resp.valve[v].travel.isSome → s.resp.valve[v].state = .closing ∨ s.resp.valve[v].state = .opening →
      ∃ u, Acts (.travelTimerExpiry v) s u ∧
        u.resp = (s.modValve v fun x => { x with state := .fault, travel := none }).resp ∧
        Reports .valveFault (some v.val) (some (if s.resp.valve[v].state = .closing then 1 else 2))
          (some ((if s.resp.valve[v].closedContact then 1 else 0) + (if s.resp.valve[v].openContact then 2 else 0)))
          s u ∧
        u.chans = s.chans ∧ u.budget = s.budget ∧ u.run = s.run ∧ u.shelf = s.shelf ∧ u.source = s.source ∧
        u.work = s.work ∧ SameRest s u)

/-! ### Lines (Chapter 9) -/

/-- CR LF ends a line: an overlong text and one without tag or good check are discarded and counted, an empty line is
ignored, and any other is received; without power nothing is (R171). -/
def Obligations.LineArrivalDiscardsOrReceives : Prop :=
  ∀ (p : Port) (x : List Char) (s : State),
    let text := (s.port p).rx ++ x
    let cleared := s.modPort p fun c => { c with rx := [], overlong := false }
    (s.power = .off → exec (.lineArrival p x) s = .next s) ∧
    (s.power ≠ .off → (s.port p).overlong = true ∨ 160 < text.length ∨ text ≠ [] ∧ receivedLine text = none →
      exec (.lineArrival p x) s = .next (count .linesRejected (cleared.modPort p fun c => { c with
        rejected := if c.rejected < 65535 then c.rejected + 1 else c.rejected }))) ∧
    (s.power ≠ .off → (s.port p).overlong = false → text = [] →
      exec (.lineArrival p x) s = .next cleared) ∧
    ∀ (tag body : List Char), s.power = .running → (s.port p).overlong = false → text.length ≤ 160 →
      receivedLine text = some (tag, body) → Ready p s →
      ∃ t item, exec (.lineArrival p x) s = .next t ∧ item.tag = tag ∧ item.owner = .line ∧
        (t.port p).output = (s.port p).output ++ [item] ∧ (t.port p).rx = [] ∧
        (t.port p).buffer = [⟨tag, .text body, true, 0⟩] ∧ (t.port p).rejected = (s.port p).rejected

/-- One line of an output has been sent (R173): first the response of the front item, then its report lines one by one.
With the last of them a BUSY answer leaves the output alone, and the answer of the head line leaves the output and its
line the buffer. That the next line of the buffer, if any, is taken then and not before is the model's reading of R173
(log 6). -/
def Obligations.OutputSentMovesToTheNextLine : Prop :=
  ∀ (p : Port) (s : State),
    ((s.port p).output = [] → exec (.outputLineSent p) s = .next s) ∧
    ∀ (o : OutItem) (rest : List OutItem), (s.port p).output = o :: rest → o.reply.resets = false →
      let last := o.reply.reports = [] ∨ o.begun = true ∧ o.reply.reports.length = 1
      (o.begun = false → o.reply.reports ≠ [] → exec (.outputLineSent p) s =
        .next (s.modPort p fun c => { c with output := { o with begun := true } :: rest })) ∧
      (∀ x y l, o.begun = true → o.reply.reports = x :: y :: l → exec (.outputLineSent p) s =
        .next (s.modPort p fun c => { c with
          output := { o with reply := { o.reply with reports := y :: l } } :: rest })) ∧
      (last → o.owner = .busy → exec (.outputLineSent p) s = .next (s.modPort p fun c => { c with output := rest })) ∧
      (last → o.owner = .line → (s.port p).buffer.tail = [] → exec (.outputLineSent p) s =
        .next (s.modPort p fun c => { c with output := rest, buffer := [] })) ∧
      ∀ (b b' : BufLine) (l : List BufLine), last → o.owner = .line → (s.port p).buffer = b :: b' :: l → b'.taken = false →
        ∃ t item, exec (.outputLineSent p) s = .next t ∧ item.tag = b'.tag ∧ item.owner = .line ∧
          (t.port p).output = rest ++ [item] ∧ (t.port p).buffer = { b' with taken := true, notices := 0 } :: l

/-- A command whose line reaches a ready port that permits its verb is taken at once: its block acts on the state the
line found, which differs from the state before by the line in the buffer, the silence timer and a cancelled override
sequence alone, and its response joins the end of the output (R127, R156, R172, R173). A manager line at silence stage 1
or 2 is taken as one at stage 0 (R128), which the statement on the silence stages says. -/
def Obligations.PermittedLineIsTakenAtOnce : Prop :=
  ∀ (l : LineId) (i : Instr) (s : State), i.line? = some l → CanTake l i s →
    Takes l i s (runCommand i (found l i s)).1 (runCommand i (found l i s)).2 ∧
    (found l i s).chans = s.chans ∧ (found l i s).budget = s.budget ∧ (found l i s).run = s.run ∧
    (found l i s).shelf = s.shelf ∧ (found l i s).tally = s.tally ∧ (found l i s).work = s.work ∧
    SameRest s (found l i s) ∧
    (found l i s).source = { s.source with
      silence := match l.port with
        | .service => s.source.silence
        | .manager => if s.cfg.charge.window = 0 then none else some ⟨s.now, s.cfg.charge.window * 1000⟩ } ∧
    (found l i s).resp.valve = s.resp.valve ∧ (found l i s).resp.capture = s.resp.capture ∧
    (found l i s).resp.lockout = s.resp.lockout ∧
    (∀ q, q ≠ l.port → (found l i s).port q = s.port q) ∧ (found l i s).link.flags = s.link.flags ∧
    (found l i s).port l.port = { s.port l.port with buffer := [⟨l.tag, .cmd i, false, 0⟩] }

/-- The manager port permits every verb, the service port the classes of R175 and never svc=. A command that the port
does not permit is answered DENIED, and a full line buffer or a part still loading answers BUSY; neither is acted on
(R172, R173, R175, R184). -/
def Obligations.DeniedAndBusyLinesAreNotActedOn : Prop :=
  (∀ (i : Instr) (k : VerbClass) (s : State), verbClass i = some k →
    verbPermitted .manager i (carriesSvc i) s = true ∧
    (k = .reset → verbPermitted .service i (carriesSvc i) s = false) ∧
    (carriesSvc i = true → verbPermitted .service i (carriesSvc i) s = false) ∧
    (k = .read ∨ k = .link ∨ k = .leakValve ∨ k = .tally → verbPermitted .service i (carriesSvc i) s = true) ∧
    (k = .control ∨ k = .setting ∨ k = .system → carriesSvc i = false →
      verbPermitted .service i (carriesSvc i) s = s.cfg.svc)) ∧
  (∀ (l : LineId) (i : Instr) (s : State), i.line? = some l → Ready l.port s →
    verbPermitted l.port i (carriesSvc i) s = false →
    exec i s = .next (answered l (errReply .denied) (cancelOverride l.port ((lineHeard l.port s).modPort l.port
      fun c => { c with buffer := [⟨l.tag, .cmd i, false, 0⟩] })))) ∧
  (∀ (l : LineId) (i : Instr) (s : State), i.line? = some l → s.power = .loading → exec i s =
    .next (s.modPort l.port fun c => { c with output := c.output ++ [⟨l.tag, .busy, errReply .busy, false⟩] })) ∧
  ∀ (l : LineId) (i : Instr) (s : State), i.line? = some l → s.power = .running → s.work = .none →
    (l.port = .manager → s.source.stage = 0) → 4 ≤ (s.port l.port).buffer.length →
    ∃ t, exec i s = .next t ∧ (t.port l.port).output = (s.port l.port).output ++ [⟨l.tag, .busy, errReply .busy, false⟩] ∧
      (t.port l.port).buffer.length = (s.port l.port).buffer.length ∧
      (∀ q, q ≠ l.port → t.port q = s.port q) ∧ t.chans = s.chans ∧ t.budget = s.budget ∧ t.run = s.run ∧
      t.shelf = s.shelf ∧ t.tally = s.tally ∧ t.resp.valve = s.resp.valve ∧ SameRest s t

/-- A refused command changes nothing (R174), but for the sequence that a refused OVERRIDE COMMIT may end (R157). -/
def Obligations.RefusedCommandsChangeNothing : Prop :=
  ∀ (i : Instr) (s : State) (c : Code), (runCommand i s).2.status = .err c →
    (runCommand i s).1 = match i with
      | .overrideCommit _ _ => { s with resp := { s.resp with seq := (runCommand i s).1.resp.seq } }
      | _ => s

/-! ### Reads -/

/-- The reads of channels, budget, queue and plan return the fields of R24, R48, R49, R72 and R73 as the records hold them,
refuse with RANGE an index that names nothing, and change nothing. Where these rules give a field and no keyword (the
fields of CHANNEL READ, of a queue entry, of a step's target and of PLAN STATUS) the keyword is the model's (log 24), and so
are the words YES and NO of the two levels and of the marks (log 24) and the ascending order of inf= and of a gang entry's
members (log 52). A negative index is a number outside the range (log 21). -/
def Obligations.ChannelBudgetAndPlanReads : Prop :=
  (∀ (l : LineId) (c : Ch) (s : State), CanTake l (.channelRead l (some (c.val : Int))) s → ∃ fs,
    Answers l (.channelRead l (some (c.val : Int))) s (okWith fs) ∧
    fWord "state" (s.ch c).state.word ∈ fs ∧ fYes "cfg" (s.chCfg c).configured ∈ fs ∧
    fNum "alloc" (s.chCfg c).alloc ∈ fs ∧ fNum "inrush" (s.chCfg c).inrush ∈ fs ∧
    fNum "tier" (s.chCfg c).tier.val ∈ fs ∧ fNum "warn" (s.chCfg c).warn ∈ fs ∧ fNum "ramp" (s.chCfg c).ramp ∈ fs ∧
    Shows "adm" (s.ch c).admitted fs ∧
    fNum "draw" (s.ch c).draw ∈ fs ∧ fYes "pg" (s.ch c).powerGood ∈ fs ∧ fYes "tf" (s.ch c).trayFault ∈ fs ∧
    fYes "shed" (s.ch c).shed ∈ fs ∧ fSet "hold" (s.ch c).holds ∈ fs ∧ fYes "ovr" (s.ch c).override ∈ fs ∧
    fWord "fault" (s.ch c).fault.word ∈ fs ∧ fStamp "since" (s.ch c).since ∈ fs ∧
    ((s.ch c).warn = none → Shows "tl" ((s.ch c).ramp.map s.left) fs) ∧
    ((s.ch c).ramp = none → Shows "tl" ((s.ch c).warn.map s.left) fs) ∧ Shows "sc" ((s.ch c).confirm.map s.left) fs ∧
    fNum "fig" (match (s.ch c).state with
      | .ramping => (s.chCfg c).alloc
      | .on | .warning => max (s.chCfg c).alloc (s.ch c).draw
      | .off | .pending | .faulted => (s.ch c).draw) ∈ fs) ∧
  (∀ (l : LineId) (x : Int) (s : State), x < 0 ∨ 24 ≤ x → CanTake l (.channelRead l (some x)) s →
    Answers l (.channelRead l (some x)) s (errReply .range)) ∧
  (∀ (l : LineId) (x : Option BudgetSel) (s : State), CanTake l (.budgetRead l x) s → ∃ fs,
    Answers l (.budgetRead l x) s (okWith fs) ∧
    match x with
    | none | some .fig =>
      fs = [fNum "raw" s.budget.figs.raw, fNum "red" s.budget.figs.red, fNum "grd" s.budget.figs.guard,
        fNum "firm" s.budget.figs.firm, fNum "com" s.budget.figs.com, fInt "m" s.budget.figs.m,
        fNum "fact" s.budget.figs.fact, fInt "h" s.budget.figs.h, fNum "o" s.budget.figs.o,
        fNum "lim" s.cfg.policy.inrush, fNum "chg" s.budget.figs.chg]
    | some .state =>
      fSet "cnt" s.budget.figs.counted ∈ fs ∧ Shows "gl" (s.budget.grace.map s.left) fs ∧
        fYes "def" s.budget.reported ∈ fs ∧ fSet "inf" s.budget.inflight ∈ fs ∧ fYes "cf" s.source.chargeFirst ∈ fs
    | some .policy =>
      fs = [fNum "k" s.cfg.policy.k, fNum "guard" s.cfg.policy.guard, fNum "inrush" s.cfg.policy.inrush,
        fNum "grace" s.cfg.policy.grace, fNum "late" s.cfg.policy.late, fNum "spacing" s.cfg.policy.spacing]) ∧
  (∀ (l : LineId) (s : State), CanTake l (.admissionRead l none) s → ∃ fs,
    Answers l (.admissionRead l none) s (okWith fs) ∧ fNum "n" s.budget.queue.length ∈ fs ∧
    (∀ e q, s.budget.queue = e :: q → EntryShown s e fs) ∧
    (s.budget.queue = [] → ∀ f ∈ fs, f.key ∈ ["n", "sp", "lt"]) ∧
    Shows "sp" (s.budget.spacing.map fun x => s.left x.2) fs ∧ Shows "lt" (s.budget.late.map s.left) fs) ∧
  (∀ (l : LineId) (n : Nat) (e : Entry) (s : State), CanTake l (.admissionRead l (some (n : Int))) s →
    s.budget.queue[n]? = some e → n < 24 → ∃ fs, Answers l (.admissionRead l (some (n : Int))) s (okWith fs) ∧
      fNum "n" s.budget.queue.length ∈ fs ∧ EntryShown s e fs) ∧
  (∀ (l : LineId) (x : Int) (s : State), CanTake l (.admissionRead l (some x)) s →
    x < 0 ∨ 24 ≤ x ∨ (s.budget.queue.length : Int) ≤ x →
      Answers l (.admissionRead l (some x)) s (errReply .range)) ∧
  (∀ (l : LineId) (n : StepIx) (s : State), CanTake l (.planRead l (some (n.val : Int))) s → ∃ fs,
    Answers l (.planRead l (some (n.val : Int))) s (okWith fs) ∧
    fWord "act" (StepAction.word s.cfg.steps[n].action) ∈ fs ∧ fNum "gap" s.cfg.steps[n].gap ∈ fs ∧
    fYes "end" s.cfg.steps[n].endMark ∈ fs ∧
    Shows "ch" (match s.cfg.steps[n].target with | some (.chan c) => some c.val | _ => none) fs ∧
    Shows "gang" (match s.cfg.steps[n].target with | some (.gang g) => some g.val | _ => none) fs ∧ (fYes "prot" true ∈ fs ↔ isProtected s n = true)) ∧
  (∀ (l : LineId) (x : Int) (s : State), x < 0 ∨ 48 ≤ x → CanTake l (.planRead l (some x)) s →
    Answers l (.planRead l (some x)) s (errReply .range)) ∧
  (∀ (l : LineId) (s : State), CanTake l (.planRead l none) s → ∃ fs,
    Answers l (.planRead l none) s (okWith fs) ∧
    fOrNone "up" (s.cfg.up.map Fin.val) ∈ fs ∧ fOrNone "down" (s.cfg.down.map Fin.val) ∈ fs ∧
    (runActive s = false → ∀ f ∈ fs, f.key ≠ "pfrom" ∧ f.key ≠ "pto") ∧
    ∀ r, s.run = some r → runActive s = true → fNum "pfrom" r.entry.val ∈ fs ∧ fNum "pto" r.endStep.val ∈ fs) ∧
  ∀ (l : LineId) (s : State), CanTake l (.planStatus l) s → ∃ fs,
    Answers l (.planStatus l) s (okWith fs) ∧
    match s.run with
    | none => fs = [fWord "state" "IDLE"]
    | some r => fWord "state" r.state.word ∈ fs ∧ fWord "kind" (RunKind.word r.kind) ∈ fs ∧
      fWord "org" r.origin.word ∈ fs ∧ fNum "entry" r.entry.val ∈ fs ∧ fNum "end" r.endStep.val ∈ fs ∧
      fYes "unt" r.unterminated ∈ fs ∧ fNum "cur" r.cursor.val ∈ fs ∧ fWord "phase" r.phase.word ∈ fs ∧
      (∀ c, r.pauseCause = some c → fWord "pcause" c.word ∈ fs) ∧
      (∀ t, r.gap = some t → fNum "gap" (s.left t) ∈ fs) ∧
      (r.gap = none → r.state = .paused → r.phase = .gap → fNum "gap" r.gapLeft ∈ fs) ∧
      fSet "out" r.outstanding ∈ fs ∧ fNum "done" r.done ∈ fs ∧ fNum "adm" r.admitted ∈ fs ∧
      fNum "skip" r.skipped ∈ fs ∧ fSet "aset" r.admittedSet ∈ fs ∧ fStamp "start" r.startedAt ∈ fs

/-- The reads of modules, link, source, zones, valves and capture return what the records hold and change nothing (R89,
R90, R114, R146, R164, R166). MODULE READ and CAPTURE READ are stated with every field; of the others some fields are. The
keywords that these rules do not give, such as state, mis and clim of MODULE READ, those of the samples and of the
captured fields, and a pattern's en and min, are the model's (log 24), and so is the ascending order of mset= of a zone
(log 52). -/
def Obligations.ShelfSourceLeakAndValveReads : Prop :=
  (∀ (l : LineId) (n : RmSlot) (s : State), CanTake l (.moduleRead l (some (n.val : Int)) none) s → ∃ fs,
    let r := s.shelf.rect[n]
    Answers l (.moduleRead l (some (n.val : Int)) none) s (okWith fs) ∧
    fWord "state" r.state.word ∈ fs ∧ fYes "pres" r.present ∈ fs ∧ fNum "mis" r.misses ∈ fs ∧
    RectSampleShown r.sample fs ∧ Shows "age" (r.time.map fun t => msBetween t s.now) fs ∧
    fYes "counted" r.counted ∈ fs ∧ fWord "out" (if r.enable then "ENABLE" else "DISABLE") ∈ fs ∧
    Shows "walk" r.walkIn fs) ∧
  (∀ (l : LineId) (n : BmSlot) (s : State), CanTake l (.moduleRead l none (some (n.val : Int))) s → ∃ fs,
    let b := s.shelf.batt[n]
    Answers l (.moduleRead l none (some (n.val : Int))) s (okWith fs) ∧
    fWord "state" b.state.word ∈ fs ∧ fYes "pres" b.present ∈ fs ∧ fNum "mis" b.misses ∈ fs ∧
    BattSampleShown b.sample fs ∧ Shows "age" (b.time.map fun t => msBetween t s.now) fs ∧
    fYes "avail" b.available ∈ fs ∧ fNum "clim" b.chargeLimit ∈ fs ∧
    fWord "dset" (if b.discharge then "PERMIT" else "FORBID") ∈ fs) ∧
  (∀ (l : LineId) (x y : Int) (s : State), CanTake l (.moduleRead l (some x) (some y)) s →
    Answers l (.moduleRead l (some x) (some y)) s (errReply .syntaxError)) ∧
  (∀ (l : LineId) (s : State), CanTake l (.moduleRead l none none) s → ∃ fs,
    Answers l (.moduleRead l none none) s (okWith fs) ∧ fNum "bus" s.shelf.busMv ∈ fs ∧
    fWord "bst" (if s.shelf.busLow then "LOW" else "NORMAL") ∈ fs ∧
    fNum "thr" (if s.cfg.ride.thr = 0 then 46000 else if s.cfg.ride.thr = 1 then 45000 else 44000) ∈ fs ∧
    Shows "deb" (s.shelf.debounce.map s.left) fs ∧
    fNums "st" ((allRm.map fun n => s.shelf.rect[n].state.code) ++ allBm.map fun n => s.shelf.batt[n].state.code) ∈ fs) ∧
  (∀ (l : LineId) (s : State), CanTake l (.linkStats l) s → ∃ fs,
    Answers l (.linkStats l) s (okWith fs) ∧ fNum "per" s.cfg.ride.round ∈ fs ∧ fNum "rnd" s.shelf.rounds ∈ fs ∧
    fNum "ovr" s.shelf.overruns ∈ fs ∧ fNum "late" s.shelf.lates ∈ fs ∧ fNums "bad" s.shelf.bad.toList ∈ fs) ∧
  (∀ (l : LineId) (s : State), CanTake l (.sourceRead l false) s → ∃ fs,
    Answers l (.sourceRead l false) s (okWith fs) ∧ fWord "src" s.source.state.word ∈ fs ∧
    fNum "lvl" s.source.level ∈ fs ∧ fNum "et" (energyTotal s) ∈ fs ∧ fNum "dt" (dischargeTotal s) ∈ fs ∧
    fNum "pl" ((allCh.map fun c => (s.ch c).draw).sum) ∈ fs ∧
    fNum "ht" (holdTime s ((allCh.map fun c => (s.ch c).draw).sum)) ∈ fs ∧ fYes "sil" (s.source.stage != 0) ∈ fs) ∧
  (∀ (l : LineId) (s : State), CanTake l (.sourceRead l true) s → ∃ fs,
    Answers l (.sourceRead l true) s (okWith fs) ∧ fNum "target" s.cfg.ride.target ∈ fs ∧
    fNum "reserve" s.cfg.ride.reserve ∈ fs ∧ fNum "round" s.cfg.ride.round ∈ fs) ∧
  (∀ (l : LineId) (z : Zone) (s : State), CanTake l (.zoneRead l (some (z.val : Int)) none) s → ∃ fs,
    Answers l (.zoneRead l (some (z.val : Int)) none) s (okWith fs) ∧ fWord "st" s.zones[z].state.word ∈ fs ∧
    (⟨"hist", .history s.zones[z].history⟩ : Field) ∈ fs ∧ fSet "mset" s.zones[z].matched ∈ fs) ∧
  (∀ (l : LineId) (n : PatIx) (s : State), CanTake l (.zoneRead l none (some (n.val : Int))) s → ∃ fs,
    Answers l (.zoneRead l none (some (n.val : Int))) s (okWith fs) ∧ fYes "en" s.cfg.pats[n].enabled ∈ fs ∧
    fNum "min" s.cfg.pats[n].min ∈ fs) ∧
  (∀ (l : LineId) (s : State), CanTake l (.zoneRead l none none) s → ∃ fs,
    Answers l (.zoneRead l none none) s (okWith fs) ∧ fNum "scan" s.cfg.scanPeriod ∈ fs) ∧
  (∀ (l : LineId) (v : ValveIx) (s : State), CanTake l (.valveRead l (some (v.val : Int))) s → ∃ fs,
    Answers l (.valveRead l (some (v.val : Int))) s (okWith fs) ∧ fWord "st" s.resp.valve[v].state.word ∈ fs ∧
    fSet "dem" s.resp.valve[v].zones ∈ fs ∧ fYes "hc" s.resp.valve[v].hostClose ∈ fs) ∧
  (∀ (l : LineId) (s : State), CanTake l (.valveRead l none) s → ∃ fs,
    Answers l (.valveRead l none) s (okWith fs) ∧ fNum "travel" s.cfg.travel ∈ fs) ∧
  ∀ (l : LineId) (s : State), CanTake l (.captureRead l) s → ∃ fs,
    Answers l (.captureRead l) s (okWith fs) ∧ fYes "valid" s.resp.capture.isSome ∈ fs ∧
    (∀ x, s.resp.capture = some x → CaptureShown x fs) ∧
    (s.resp.capture = none → ∀ f ∈ fs, f.key = "valid" ∨ f.key = "lock") ∧ fYes "lock" s.resp.lockout ∈ fs

/-- The reads of the link, the tallies, the time base and the part's identity, and PING (R180, R182, R191, R192, R193).
TALLY READ's keywords run and val and its fields without ctr= are the model's choices (logs 24 and 38): R191 gives pair=
alone. -/
def Obligations.LinkAndSystemReads : Prop :=
  (∀ (l : LineId) (s : State), CanTake l (.statusRead l) s → ∃ fs,
    Answers l (.statusRead l) s (okWith fs) ∧
    fWords "flg" ((allGroups.filter fun g => s.link.flags.of g).map Group.word) ∈ fs ∧
    fNum "mq" s.link.manager.queue.length ∈ fs ∧ fNum "sq" s.link.service.queue.length ∈ fs ∧
    fNum "ml" s.link.manager.lost ∈ fs ∧ fNum "sl" s.link.service.lost ∈ fs ∧
    fNum (match l.port with | .manager => "mb" | .service => "sb") 1 ∈ fs) ∧
  (∀ (l : LineId) (c : CtrIx) (s : State), CanTake l (.tallyRead l (some (c.val : Int))) s → ∃ fs,
    Answers l (.tallyRead l (some (c.val : Int))) s (okWith fs) ∧ fYes "run" s.tally.ctr[c].running ∈ fs ∧
    (s.tally.pair = false ∨ 2 ≤ c.val → fNum "val" s.tally.ctr[c].value ∈ fs) ∧
    (s.tally.pair = true → c = 0 →
      fNum "val" (s.tally.ctr[1].value * 4294967296 + s.tally.ctr[0].value) ∈ fs ∧ fOn "pair" true ∈ fs) ∧
    (s.tally.pair = true → c = 1 → fOn "pair" true ∈ fs ∧ ∀ f ∈ fs, f.key ≠ "val")) ∧
  (∀ (l : LineId) (s : State), CanTake l (.tallyRead l none) s →
    Answers l (.tallyRead l none) s (okWith [fNums "val"
      [if s.tally.pair then s.tally.ctr[1].value * 4294967296 + s.tally.ctr[0].value else s.tally.ctr[0].value,
        s.tally.ctr[1].value, s.tally.ctr[2].value, s.tally.ctr[3].value], fOn "pair" s.tally.pair])) ∧
  (∀ (l : LineId) (s : State), CanTake l (.timeRead l) s →
    Answers l (.timeRead l) s (okWith [fNum "t" s.now.toNat])) ∧
  (∀ (l : LineId) (s : State), CanTake l (.identify l) s →
    Answers l (.identify l) s (okWith [fWord "part" "PK24", fWord "rev" "B", fWord "rst" s.cause.kind.word,
      fNum "wrc" s.cause.warmCount, fWord "store" s.store.word, fWord "cfg" s.cfgFrom.word])) ∧
  ∀ (l : LineId) (s : State), CanTake l (.ping l) s →
    Answers l (.ping l) s (okWith [fWord "port" (match l.port with | .manager => "MANAGER" | .service => "SERVICE")])

/-! ### Channel, budget and plan commands (Chapters 1 to 3) -/

/-- CHANNEL START ch=: the tests in their order, and a channel that passes them all joins the queue's tail as a single
entry and becomes PENDING (R19, R36). At a new head the late timer runs until the waiting time exceeds the late time, which
in whole milliseconds is one more than that time (R41, log 18). -/
def Obligations.ChannelStartJoinsTheQueue : Prop :=
  ∀ (l : LineId) (c : Ch) (s : State),
    let i := Instr.channelStart l { ch := some (c.val : Int) }
    CanTake l i s →
    (¬ Startable s c → Answers l i s (errReply (startCode s c))) ∧
    (Startable s c → s.source.state ≠ .grid → Answers l i s (errReply .source)) ∧
    (Startable s c → s.source.state = .grid →
      ∃ u, Takes l i s u (okWith [fWord "state" "PENDING"]) ∧
        u.ch c = { s.ch c with state := .pending, since := s.now } ∧ OnlyChannel c s u ∧
        u.budget.queue = s.budget.queue ++ [⟨.single c, none, .host, s.now, false, false⟩] ∧
        (s.budget.queue = [] → u.budget.late = some ⟨s.now, s.cfg.policy.late + 1⟩) ∧
        (s.budget.queue ≠ [] → u.budget.late = s.budget.late) ∧ u.budget.figs = s.budget.figs ∧
        u.source = (found l i s).source ∧ u.resp = (found l i s).resp ∧ u.run = s.run ∧ u.shelf = s.shelf ∧
        Silent (found l i s) u ∧ u.work.eval = true ∧ u.work.exam = true ∧ SameRest s u)

/-- CHANNEL START gang=: outside GRID nothing is touched; in GRID the startable members join as one gang entry, the
others are unchanged; with no startable member the code is that of the lowest (R20). The ascending order of joined= is the
model's choice (log 52). -/
def Obligations.GangStartJoinsAsOneEntry : Prop :=
  ∀ (l : LineId) (g : Gang) (s : State) (pass : List Ch),
    let i := Instr.channelStartGang l { gang := some (g.val : Int) }
    CanTake l i s → (pass.Pairwise (· < ·)) → (∀ c, c ∈ pass ↔ c.val / 4 = g.val ∧ Startable s c) →
    (s.source.state ≠ .grid → Answers l i s (errReply .source)) ∧
    (s.source.state = .grid → pass = [] →
      Answers l i s (errReply (startCode s ⟨4 * g.val, by omega⟩))) ∧
    (s.source.state = .grid → pass ≠ [] → ∃ u r, Takes l i s u r ∧
      r.status = .ok ∧ fSet "joined" pass ∈ r.fields ∧
      ((∀ c : Ch, c.val / 4 = g.val → c ∈ pass) ↔ r.fields = [fSet "joined" pass]) ∧
      (∀ c ∈ pass, u.ch c = { s.ch c with state := .pending, since := s.now }) ∧ (∀ c, c ∉ pass → u.ch c = s.ch c) ∧
      u.budget.queue = s.budget.queue ++ [⟨.gang g pass, none, .host, s.now, false, false⟩] ∧
      u.source = (found l i s).source ∧ u.resp = (found l i s).resp ∧ u.run = s.run ∧ u.shelf = s.shelf ∧
      Silent (found l i s) u ∧ u.work.eval = true ∧ u.work.exam = true ∧ SameRest s u)

/-- CHANNEL STOP and CHANNEL CUT take the request on every named channel, state by state, and answer OK with the
states after it, for a gang in index order (log 52); a withdrawn channel leaves the queue (R12, R13, R14, R15, R21). -/
def Obligations.StopAndCutByState : Prop :=
  ∀ (l : LineId) (a : TargetArgs) (ms : List Ch) (s : State), Names a ms →
    (CanTake l (.channelStop l a) s → ∃ u,
      Takes l (.channelStop l a) s u (okWith [fWords "state" (ms.map fun c => (u.ch c).state.word)]) ∧
      (∀ c, c ∉ ms → u.ch c = s.ch c) ∧
      (∀ c ∈ ms, u.ch c = (s.ch c).stopped s.now
        (if s.source.state = .ride then min (s.chCfg c).warn s.cfg.ride.cap else (s.chCfg c).warn)) ∧
      (∀ c ∈ ms, (s.ch c).state = .pending → c ∉ queuedChans u.budget.queue) ∧
      u.source = (found l (.channelStop l a) s).source ∧ u.resp = (found l (.channelStop l a) s).resp ∧
      u.shelf = s.shelf ∧ SameRest s u) ∧
    (CanTake l (.channelCut l a) s → ∃ u,
      Takes l (.channelCut l a) s u (okWith [fWords "state" (ms.map fun c => (u.ch c).state.word)]) ∧
      (∀ c, c ∉ ms → u.ch c = s.ch c) ∧ (∀ c ∈ ms, u.ch c = (s.ch c).wasCut s.now) ∧
      (∀ c ∈ ms, (s.ch c).state = .pending → c ∉ queuedChans u.budget.queue) ∧
      u.source = (found l (.channelCut l a) s).source ∧ u.resp = (found l (.channelCut l a) s).resp ∧
      u.shelf = s.shelf ∧ SameRest s u)

/-- CHANNEL CLEAR takes a FAULTED channel whose power-good level is absent back to OFF with fault kind NONE, its holds
kept, and is refused with STATE otherwise, changing nothing; a held channel without an override mark still cannot be
started (R22). -/
def Obligations.ChannelClearReturnsToOff : Prop :=
  ∀ (l : LineId) (c : Ch) (s : State),
    let i := Instr.channelClear l (some (c.val : Int))
    CanTake l i s →
    ((s.ch c).state = .faulted → (s.ch c).powerGood = false → ∃ u, Takes l i s u okReply ∧
      u.ch c = { s.ch c with state := .off, fault := .noFault, since := s.now, override := false } ∧
      OnlyChannel c s u ∧ ((u.ch c).holds ≠ [] → ¬ Startable u c) ∧ u.budget = s.budget ∧
      u.source = (found l i s).source ∧ u.resp = (found l i s).resp ∧ u.run = s.run ∧ u.shelf = s.shelf ∧
      Silent (found l i s) u ∧ SameRest s u) ∧
    ((s.ch c).state = .faulted → (s.ch c).powerGood = true → Answers l i s (errReply .state)) ∧
    ((s.ch c).state ≠ .faulted → Answers l i s (errReply .state))

/-- CHANNEL SET: its refusals in order, and the settings it stores, clamped, with ADJUSTED when one was (R23, R17).
A negative value is a number below the range (log 21). -/
def Obligations.ChannelSetStoresClampedSettings : Prop :=
  ∀ (l : LineId) (c : Ch) (a : ChannelSetArgs) (s : State),
    let i := Instr.channelSet l (some (c.val : Int)) a
    let old := s.chCfg c
    let st := (s.ch c).state
    let alloc := numArg 0 20000 a.alloc old.alloc
    CanTake l i s →
    (a = {} → Answers l i s (errReply .syntaxError)) ∧
    (a ≠ {} → a.cfg = some false → st ≠ .off → st ≠ .faulted → Answers l i s (errReply .state)) ∧
    (a ≠ {} → (a.cfg ≠ some false) → (st = .ramping ∨ st = .on ∨ st = .warning) → old.alloc < alloc →
      s.budget.figs.h < (alloc : Int) - old.alloc → Answers l i s (errReply .budget)) ∧
    (a ≠ {} → (a.cfg ≠ some false ∨ st = .off ∨ st = .faulted) →
      ((st ≠ .ramping ∧ st ≠ .on ∧ st ≠ .warning) ∨ alloc ≤ old.alloc ∨
        (alloc : Int) - old.alloc ≤ s.budget.figs.h) →
      ∃ u r, Takes l i s u r ∧
        (r.status = .ok ∨ r.status = .adjusted) ∧
        (r.status = .adjusted ↔ clamps 0 20000 a.alloc = true ∨ clamps 0 20000 a.inrush = true ∨
          clamps 0 3 a.tier = true ∨ clamps 0 60000 a.warn = true ∨ clamps 100 10000 a.ramp = true) ∧
        (u.chCfg c).configured = a.cfg.getD old.configured ∧ (u.chCfg c).alloc = alloc ∧
        (u.chCfg c).inrush = numArg 0 20000 a.inrush old.inrush ∧ (u.chCfg c).tier.val = numArg 0 3 a.tier old.tier.val ∧
        (u.chCfg c).warn = numArg 0 60000 a.warn old.warn ∧ (u.chCfg c).ramp = numArg 100 10000 a.ramp old.ramp ∧
        (∀ d, d ≠ c → u.chCfg d = s.chCfg d) ∧ { u.cfg with chan := s.cfg.chan } = s.cfg ∧
        (alloc ≠ old.alloc → u.work.eval = true) ∧
        u.ch c = (if (u.chCfg c).tier = 0 then { s.ch c with shed := false } else s.ch c) ∧ OnlyChannel c s u ∧
        u.budget = s.budget ∧ u.run = s.run ∧ u.shelf = s.shelf ∧ u.store = s.store)

/-- POLICY SET stores its settings, each clamped to its range, and starts an evaluation (R47). A negative
value is a number below the range (log 21). -/
def Obligations.PolicySetStoresClampedSettings : Prop :=
  ∀ (l : LineId) (a : PolicyArgs) (s : State), CanTake l (.policySet l a) s →
    (a = {} → Answers l (.policySet l a) s (errReply .syntaxError)) ∧
    (a ≠ {} → ∃ u r, Takes l (.policySet l a) s u r ∧ (r.status = .ok ∨ r.status = .adjusted) ∧
      (r.status = .adjusted ↔ clamps 0 2 a.k = true ∨ clamps 0 25 a.guard = true ∨ clamps 0 60000 a.inrush = true ∨
        clamps 0 10000 a.grace = true ∨ clamps 1000 600000 a.late = true ∨ clamps 0 5000 a.spacing = true) ∧
      u.cfg = { s.cfg with policy :=
        { k := numArg 0 2 a.k s.cfg.policy.k, guard := numArg 0 25 a.guard s.cfg.policy.guard
          inrush := numArg 0 60000 a.inrush s.cfg.policy.inrush, grace := numArg 0 10000 a.grace s.cfg.policy.grace
          late := numArg 1000 600000 a.late s.cfg.policy.late
          spacing := numArg 0 5000 a.spacing s.cfg.policy.spacing } } ∧
      u.work.eval = true ∧ u.chans = s.chans ∧ u.run = s.run ∧ u.shelf = s.shelf ∧ u.store = s.store ∧
      u.budget.figs = s.budget.figs ∧ queuedChans u.budget.queue = queuedChans s.budget.queue)

/-- PLAN WRITE replaces a step record that is not protected, and writes the entries (R71). A negative gap is a
number below the range (log 21). -/
def Obligations.PlanWriteStoresTheRecord : Prop :=
  ∀ (l : LineId) (a : PlanWriteArgs) (s : State) (up down : Option StepIx),
    let i := Instr.planWrite l a
    CanTake l i s → EntryWritten a.up s.cfg.up up → EntryWritten a.down s.cfg.down down →
    (a.step = none → a.up = none → a.down = none → Answers l i s (errReply .syntaxError)) ∧
    (a = { up := a.up, down := a.down } → a.up ≠ none ∨ a.down ≠ none →
      Takes l i s { found l i s with cfg := { s.cfg with up := up, down := down } } okReply) ∧
    ∀ (n : StepIx) (act : StepAction) (t : Option Target), a.step = some (n.val : Int) → a.act = some act →
      TargetWritten act a.target t →
      (isProtected s n = true → Answers l i s (errReply .state)) ∧
      (isProtected s n = false → ∃ r, Takes l i s
        { found l i s with cfg := { s.cfg with
          up := up, down := down
          steps := s.cfg.steps.set n
            ⟨act, t, numArg 0 65535 a.gap 0, a.endMark.getD false⟩ } } r ∧
        r.status = if clamps 0 65535 a.gap then .adjusted else .ok)

/-- PLAN START: the tests in their order, and the run context it sets (R53, R68). -/
def Obligations.PlanStartSetsTheRun : Prop :=
  ∀ (l : LineId) (k : RunKind) (s : State),
    let i := Instr.planStart l (some k)
    let entry := match k with | .up => s.cfg.up | .down => s.cfg.down
    CanTake l i s →
    (runActive s = true → Answers l i s (errReply .state)) ∧
    (runActive s = false → entry = none → Answers l i s (errReply .range)) ∧
    (runActive s = false → entry ≠ none → k = .up → s.source.state ≠ .grid → Answers l i s (errReply .source)) ∧
    ∀ (e last : StepIx), runActive s = false → entry = some e → (k = .up → s.source.state = .grid) →
      (e ≤ last ∧ (∀ n, e ≤ n → n < last → s.cfg.steps[n].endMark = false) ∧
        (s.cfg.steps[last].endMark = true ∨ last = 47)) →
      Takes l i s { found l i s with
        run := some { state := .running, kind := k, origin := .host, entry := e, endStep := last
                      unterminated := !s.cfg.steps[last].endMark, cursor := e, phase := .step, pauseCause := none
                      gap := none, gapLeft := 0, outstanding := [], done := 0, admitted := 0, skipped := 0
                      admittedSet := [], startedAt := s.now }
        work := { s.work with plan := .exec } }
        (okWith [fNum "entry" e.val, fNum "end" last.val, fYes "unt" (!s.cfg.steps[last].endMark)])

/-- PLAN PAUSE, PLAN RESUME and PLAN STOP by run state (R62, R63, R67, R69, R70). -/
def Obligations.PlanPauseResumeAndStopByRunState : Prop :=
  (∀ (l : LineId) (s : State), (∀ r, s.run = some r → r.state = .done ∨ r.state = .aborted) →
    ∀ i ∈ [Instr.planPause l, .planResume l, .planStop l], CanTake l i s → Answers l i s (errReply .state)) ∧
  (∀ (l : LineId) (s : State) (r : Run), s.run = some r → r.state = .running ∨ r.state = .waiting →
    (CanTake l (.planResume l) s → Answers l (.planResume l) s (errReply .state)) ∧
    (CanTake l (.planPause l) s → ∃ u, Takes l (.planPause l) s u okReply ∧
      u.run = some { r with
        state := .paused, pauseCause := some .host, outstanding := [], gap := none
        gapLeft := match r.gap with | some t => t.ms - msBetween t.start s.now | none => 0 } ∧
      (∀ c ∈ r.outstanding, c ∉ queuedChans u.budget.queue ∧ (u.ch c).state ≠ .pending) ∧
      (∀ c, c ∉ r.outstanding → u.ch c = s.ch c) ∧ u.link.flags.plan = true ∧ u.work.plan = .idle)) ∧
  (∀ (l : LineId) (s : State) (r : Run), s.run = some r → r.state = .paused →
    (CanTake l (.planPause l) s →
      Takes l (.planPause l) s { found l (.planPause l) s with run := some { r with pauseCause := some .host } }
        okReply) ∧
    (CanTake l (.planResume l) s → r.kind = .up → s.source.state ≠ .grid →
      Answers l (.planResume l) s (errReply .source)) ∧
    (CanTake l (.planResume l) s → r.kind = .down ∨ s.source.state = .grid → ∃ u v reply,
      Takes l (.planResume l) s u reply ∧ u = settle v ∧ reply.status = .ok ∧
      (r.phase = .step → v = { found l (.planResume l) s with
        run := some { r with state := .running, pauseCause := none }, work := { s.work with plan := .exec } }) ∧
      (r.phase = .gap → r.gapLeft ≠ 0 → v = { found l (.planResume l) s with
        run := some { r with state := .running, pauseCause := none, gap := some ⟨s.now, r.gapLeft⟩ } }) ∧
      (r.phase = .gap → r.gapLeft = 0 → v = { found l (.planResume l) s with
        run := some { r with state := .running, pauseCause := none, phase := .step, cursor := r.cursor + 1, gap := none }
        work := { s.work with plan := .exec } }))) ∧
  ∀ (l : LineId) (s : State) (r : Run), s.run = some r →
    r.state = .running ∨ r.state = .waiting ∨ r.state = .paused → CanTake l (.planStop l) s →
    ∃ u, Takes l (.planStop l) s u okReply ∧
      u.run = some { r with state := .aborted, gap := none, gapLeft := 0, outstanding := [], pauseCause := none } ∧
      (∀ c ∈ r.outstanding, c ∉ queuedChans u.budget.queue ∧ (u.ch c).state ≠ .pending) ∧
      (∀ c, c ∉ r.outstanding → u.ch c = s.ch c) ∧ u.link.flags.plan = true

/-! ### Shelf, source and restore commands (Chapters 4 to 6) -/

/-- RECTIFIER DISABLE and RECTIFIER ENABLE: nothing to do is answered OK; a disable is refused with BUDGET when the firm
supply without the slot is below the committed load; else the set-point is written and a slot that is there changes
state, is reported and handed over, and a last counted rectifier that goes takes GRID into input loss (R87, R88). That
MODULE STATE joins ahead of the reports of the hand-overs in the same step is the model's choice (log 41), and so are the
answer with nothing to do (log 37) and the free order of the hand-overs (log 13). -/
def Obligations.RectifierDisableAndEnable : Prop :=
  ∀ (l : LineId) (n : RmSlot) (s : State),
    let d := Instr.rectifierDisable l (some (n.val : Int))
    let e := Instr.rectifierEnable l (some (n.val : Int))
    let r := s.shelf.rect[n]
    let short := r.counted = true ∧ (supply s ((countedSlots s).filter (· ≠ n))).2.2.2 < s.budget.figs.com
    (CanTake l d s →
      (r.enable = false → Answers l d s okReply) ∧ (r.enable = true → short → Answers l d s (errReply .budget)) ∧
      (r.enable = true → ¬ short → ∃ u, Takes l d s u (okWith [fWord "state" u.shelf.rect[n].state.word]) ∧
        OnlyRect n { r.bare with
          enable := false, state := if r.present = true ∧ r.state ≠ .lost then .disabled else r.state } s u ∧
        (r.present = true → r.state ≠ .lost → u.work.eval = true ∧
          (r.state ≠ .disabled → u.link.flags.shelf = true) ∧
          (s.source.state = .grid → (∀ m, m ≠ n → s.shelf.rect[m].counted = false) →
            u.source.state = .ride ∨ u.work.loss = true)) ∧
        (r.present = false ∨ r.state = .lost → u.source = (found l d s).source ∧ u.chans = s.chans ∧
          u.budget = s.budget ∧ u.run = s.run ∧ u.work = s.work ∧ Silent (found l d s) u) ∧
        ModuleShown n.val r.state.code u.shelf.rect[n].state.code (inputLoss u = false) (found l d s) u ∧
        u.shelf.poll = s.shelf.poll ∧ u.cfg = s.cfg ∧ u.store = s.store ∧ u.zones = s.zones ∧ u.now = s.now ∧
        u.resp = (found l d s).resp ∧ ∀ c, (u.ch c).fixed = (s.ch c).fixed)) ∧
    (CanTake l e s →
      (r.enable = true → Answers l e s okReply) ∧
      (r.enable = false → ∃ u, Takes l e s u (okWith [fWord "state" u.shelf.rect[n].state.word]) ∧
        OnlyRect n { r.bare with
          enable := true, state := if r.state = .disabled then .starting else r.state } s u ∧
        (r.state = .disabled → u.work.eval = true ∧ u.link.flags.shelf = true) ∧
        ModuleShown n.val r.state.code u.shelf.rect[n].state.code (inputLoss u = false) (found l e s) u ∧
        u.shelf.poll = s.shelf.poll ∧ u.cfg = s.cfg ∧ u.store = s.store ∧ u.zones = s.zones ∧ u.now = s.now ∧
        u.resp = (found l e s).resp ∧ ∀ c, (u.ch c).fixed = (s.ch c).fixed))

/-- RIDE SET stores its settings, clamped, the final reserve to at most the target less 1 (R113), with the ride
evaluation of RIDE (R107) and the charge-first test of GRID (R118); CHARGE SET stores its settings and acts on the
effective policy and on a silence (R128, R129). A negative value is a number below the range (log 21). -/
def Obligations.RideSetAndChargeSet : Prop :=
  (∀ (l : LineId) (a : RideArgs) (s : State),
    let i := Instr.rideSet l a
    let old := s.cfg.ride
    let target := numArg 10 3600 a.target old.target
    let asked := numArg 0 600 a.reserve old.reserve
    CanTake l i s →
    (a = {} → Answers l i s (errReply .syntaxError)) ∧
    (a ≠ {} → ∃ u r, Takes l i s u r ∧ (r.status = .ok ∨ r.status = .adjusted) ∧
      (r.status = .adjusted ↔ clamps 10 3600 a.target = true ∨ clamps 0 600 a.reserve = true ∨
        clamps 700 1000 a.eff = true ∨ clamps 0 60000 a.cap = true ∨ clamps 0 2 a.thr = true ∨
        clamps 0 50 a.deb = true ∨ clamps 0 120000 a.qual = true ∨ clamps 0 60000 a.walk = true ∨
        clamps 100 1000 a.round = true ∨ target - 1 < asked) ∧
      u.cfg = { s.cfg with ride :=
        { target := target, reserve := min asked (target - 1), eff := numArg 700 1000 a.eff old.eff
          cap := numArg 0 60000 a.cap old.cap, thr := numArg 0 2 a.thr old.thr, deb := numArg 0 50 a.deb old.deb
          qual := numArg 0 120000 a.qual old.qual, walk := numArg 0 60000 a.walk old.walk
          round := numArg 100 1000 a.round old.round } } ∧
      r.fields = [fNum "target" u.cfg.ride.target, fNum "reserve" u.cfg.ride.reserve, fNum "eff" u.cfg.ride.eff,
        fNum "cap" u.cfg.ride.cap, fNum "thr" u.cfg.ride.thr, fNum "deb" u.cfg.ride.deb,
        fNum "qual" u.cfg.ride.qual, fNum "walk" u.cfg.ride.walk, fNum "round" u.cfg.ride.round] ∧
      (s.source.state = .ride → u.work.ride = true) ∧
      u.source =
        { (found l i s).source with
          chargeFirst := if s.source.state = .grid ∧ (u.cfg.ride.target ≠ old.target ∨ u.cfg.ride.eff ≠ old.eff)
            then decide (holdTime u (loadNow u) < u.cfg.ride.target) else s.source.chargeFirst } ∧
      u.chans = s.chans ∧ u.budget = s.budget ∧ u.run = s.run ∧ u.shelf = s.shelf ∧ u.store = s.store)) ∧
  ∀ (l : LineId) (a : ChargeArgs) (s : State),
    let i := Instr.chargeSet l a
    let old := s.cfg.charge
    let g : ChargeCfg := ⟨numArg 0 20000 a.floor old.floor, numArg 0 40000 a.limit old.limit,
      a.restore.getD old.policy, a.autoUp.getD old.autoUp, numArg 0 600 a.silence old.window⟩
    CanTake l i s →
    (a = {} → Answers l i s (errReply .syntaxError)) ∧
    (a ≠ {} → ∃ u r, Takes l i s u r ∧ (r.status = .ok ∨ r.status = .adjusted) ∧
      (r.status = .adjusted ↔
        clamps 0 20000 a.floor = true ∨ clamps 0 40000 a.limit = true ∨ clamps 0 600 a.silence = true) ∧
      u.cfg = { s.cfg with charge := g } ∧ u.work.eval = true ∧
      u.source = { (found l i s).source with
        stage := if g.window = old.window then s.source.stage else 0
        silence := if g.window = old.window then (found l i s).source.silence
          else if g.window = 0 then none else some ⟨s.now, g.window * 1000⟩
        policy := if g.window = old.window ∧ s.source.stage = 2 then s.source.policy else g.policy } ∧
      fWord "epol" (RestorePolicy.word u.source.policy) ∈ r.fields ∧ fNum "stg" u.source.stage ∈ r.fields ∧
      fNum "floor" g.floor ∈ r.fields ∧ fNum "limit" g.limit ∈ r.fields ∧ fNum "silence" g.window ∈ r.fields ∧
      u.chans = s.chans ∧ u.budget = s.budget ∧ u.run = s.run ∧ u.shelf = s.shelf ∧ u.store = s.store)

/-- RESTORE: the refusals, and in GRID the eligible channels of the named tier or of all tiers, in ascending tier and
index, each placed as a single entry with origin RESTORE (R122, R125). -/
def Obligations.RestorePlacesTheEligible : Prop :=
  ∀ (l : LineId) (x : Option TierArg) (s : State),
    let i := Instr.restore l x
    let tier := fun c => (s.chCfg c).tier
    CanTake l i s →
    (x = none → Answers l i s (errReply .syntaxError)) ∧
    (∀ n : Int, x = some (.tier n) → n < 0 ∨ 3 < n → Answers l i s (errReply .range)) ∧
    (x = some .all ∨ (∃ t : Tier, x = some (.tier t.val)) → s.source.state ≠ .grid →
      Answers l i s (errReply .source)) ∧
    (x = some .all ∨ (∃ t : Tier, x = some (.tier t.val)) → s.source.state = .grid →
      ∃ js u, Takes l i s u (okWith [fSet "joined" js]) ∧
        (js.Pairwise fun a b => tier a < tier b ∨ tier a = tier b ∧ a < b) ∧
        (∀ c, c ∈ js ↔ (s.ch c).state = .off ∧ (s.ch c).shed = true ∧ (s.ch c).holds = [] ∧
          (s.chCfg c).configured = true ∧ (x = some .all ∨ x = some (.tier (tier c).val))) ∧
        (∀ c, u.ch c = if c ∈ js then { s.ch c with state := .pending, since := s.now } else s.ch c) ∧
        u.budget.queue = s.budget.queue ++ js.map (fun c => ⟨.single c, none, .restore, s.now, false, false⟩) ∧
        u.source = (found l i s).source ∧ u.resp = (found l i s).resp ∧ u.run = s.run ∧ u.shelf = s.shelf ∧
        Silent (found l i s) u ∧ (js ≠ [] → u.work.exam = true ∧ u.work.eval = true) ∧ SameRest s u)

/-! ### Zone, pattern, response, override and valve commands (Chapters 7 and 8) -/

/-- ZONE SET: its tests in their order, the settings it stores, and what en= does to the zone (R143, R144); PATTERN SET
stores a pattern (R145). A negative value is a number below the range (log 21). -/
def Obligations.ZoneSetAndPatternSet : Prop :=
  (∀ (l : LineId) (a : ZoneArgs) (s : State),
    let i := Instr.zoneSet l a
    CanTake l i s →
    (a.zone = none → a ≠ { scan := a.scan } ∨ a.scan = none → Answers l i s (errReply .syntaxError)) ∧
    (∀ ps, a.pats = some ps → ¬ ps.Nodup → Answers l i s (errReply .syntaxError)) ∧
    (∀ x, a = { scan := some x } → Takes l i s
      { found l i s with cfg := { s.cfg with scanPeriod := clampTo 20 1000 x } }
      { status := if clamps 20 1000 (some x) then .adjusted else .ok, fields := [fNum "scan" (clampTo 20 1000 x)] }) ∧
    ∀ (z : Zone) (ps : Option (List PatIx)), a.zone = some (z.val : Int) → (∀ x ∈ ps, x.Nodup) →
      a.pats = ps.map (·.map fun p => (p.val : Int)) →
      let old := s.cfg.zone[z]
      let r := s.zones[z]
      let g : ZoneCfg := ⟨a.en.getD old.enabled, numArg 0 4095 a.wet old.wet, numArg 0 4095 a.openLevel old.openLevel,
        (ps.map toSet).getD old.pats, a.cpol.getD old.cpol, numArg 0 600000 a.esc old.esc, numArg 1 16 a.cnt old.cnt⟩
      let latched := r.state = .wet ∨ r.state = .escalated ∨ (r.state = .cableFault ∧ old.cpol = .treatWet)
      let locked := r.state = .cableFault ∧ g.cpol ≠ old.cpol
      (g.openLevel ≤ g.wet → Answers l i s (errReply .range)) ∧
      (g.wet < g.openLevel → (a.en = some false ∧ latched) ∨ locked → Answers l i s (errReply .state)) ∧
      (g.wet < g.openLevel → ¬ (a.en = some false ∧ latched) → ¬ locked → ∃ reply, Takes l i s
        { found l i s with
          cfg := { s.cfg with
            zone := s.cfg.zone.set z g, scanPeriod := numArg 20 1000 a.scan s.cfg.scanPeriod }
          zones := s.zones.set z (match a.en, r.state with
            | some true, .off => { r with state := .watch, history := [], cable := 0, cls := none }
            | some false, .watch => { r with state := .off }
            | some false, .cableFault => { r with state := .off, wetSince := none }
            | _, _ => r) } reply ∧
        (reply.status = .ok ∨ reply.status = .adjusted) ∧
        (reply.status = .adjusted ↔ clamps 0 4095 a.wet = true ∨ clamps 0 4095 a.openLevel = true ∨
          clamps 0 600000 a.esc = true ∨ clamps 1 16 a.cnt = true ∨ clamps 20 1000 a.scan = true) ∧
        fNum "wet" g.wet ∈ reply.fields ∧ fNum "open" g.openLevel ∈ reply.fields ∧ fYes "en" g.enabled ∈ reply.fields ∧
        fNum "esc" g.esc ∈ reply.fields ∧ fNum "cnt" g.cnt ∈ reply.fields ∧
        fNum "scan" (numArg 20 1000 a.scan s.cfg.scanPeriod) ∈ reply.fields)) ∧
  ∀ (l : LineId) (a : PatternArgs) (s : State),
    let i := Instr.patternSet l a
    CanTake l i s →
    (a.pat = none ∨ a = { pat := a.pat } → Answers l i s (errReply .syntaxError)) ∧
    ∀ (n : PatIx) (sel : Option (List (Fin 16 × Wetness))), a.pat = some (n.val : Int) → a ≠ { pat := a.pat } →
      a.sel = sel.map (·.map fun p => ((p.1.val : Int), p.2)) →
      ((∃ x ∈ sel, ¬ (x.map Prod.fst).Nodup) → Answers l i s (errReply .syntaxError)) ∧
      ((∀ x ∈ sel, (x.map Prod.fst).Nodup) → ∃ reply, Takes l i s
        { found l i s with
          cfg := { s.cfg with
            pats := s.cfg.pats.set n
              ⟨a.en.getD s.cfg.pats[n].enabled, sel.getD s.cfg.pats[n].sel, numArg 1 16 a.min s.cfg.pats[n].min⟩ } }
        reply ∧ reply.status = if clamps 1 16 a.min then .adjusted else .ok)

/-- LEAK CLEAR: its tests in their order, each refusal with the matching patterns in mat=, NONE when it is for the last
class, and a zone that passes them is in WATCH and out of every hold set and valve
demand set (R142, R153); RESPONSE SET stores a zone's entry and the travel timeout (R154); CAPTURE CLEAR empties the
capture (R166). The ascending order of mat= is the model's choice (log 52). -/
def Obligations.LeakClearResponseSetAndCaptureClear : Prop :=
  (∀ (l : LineId) (z : Zone) (s : State),
    let i := Instr.leakClear l (some (z.val : Int))
    let r := s.zones[z]
    let m := matchingOf s.cfg z r.history
    CanTake l i s →
    (r.state = .off ∨ r.state = .watch → Answers l i s { status := .err .state, fields := [fSet "mat" m] }) ∧
    (r.state ≠ .off → r.state ≠ .watch → r.cls ≠ some .dry →
      Answers l i s { status := .err .notDry, fields := [fNums "mat" []] }) ∧
    (r.state ≠ .off → r.state ≠ .watch → r.cls = some .dry → m ≠ [] →
      Answers l i s { status := .err .notDry, fields := [fSet "mat" m] }) ∧
    (r.state ≠ .off → r.state ≠ .watch → r.cls = some .dry → m = [] → ∃ u,
      Takes l i s u (okWith [fWord "state" "WATCH"]) ∧
      u.zones = s.zones.set z { r with state := .watch, esc := none, matched := [], wetSince := none } ∧
      (∀ c, u.ch c = { s.ch c with holds := (s.ch c).holds.filter (· ≠ z) }) ∧
      (∀ v : ValveIx, u.resp.valve[v] =
        { s.resp.valve[v] with zones := s.resp.valve[v].zones.filter (· ≠ z) }) ∧
      u.resp.capture = s.resp.capture ∧ u.resp.lockout = s.resp.lockout ∧
      ((∃ c, (s.ch c).holds = [z] ∧ (s.ch c).state = .off ∧ (s.ch c).shed = true) → u.work.restore = true) ∧
      u.cfg = s.cfg ∧ u.store = s.store ∧ u.now = s.now ∧ u.budget = s.budget ∧ u.run = s.run ∧ u.shelf = s.shelf ∧
      u.source = (found l i s).source ∧ Silent (found l i s) u)) ∧
  (∀ (l : LineId) (a : ResponseArgs) (s : State),
    let i := Instr.responseSet l a
    CanTake l i s →
    (a.zone = none → a ≠ { travel := a.travel } ∨ a.travel = none → Answers l i s (errReply .syntaxError)) ∧
    (∀ cs, a.chs = some cs → ¬ cs.Nodup → Answers l i s (errReply .syntaxError)) ∧
    (∀ x, a = { travel := some x } → Takes l i s
      { found l i s with cfg := { s.cfg with travel := clampTo 1000 60000 x } }
      { status := if clamps 1000 60000 (some x) then .adjusted else .ok
        fields := [fNum "travel" (clampTo 1000 60000 x)] }) ∧
    ∀ (z : Zone) (cs : Option (List Ch)) (v : Option ValveIx), a.zone = some (z.val : Int) → (∀ x ∈ cs, x.Nodup) →
      a.chs = cs.map (·.map fun c => (c.val : Int)) →
      (a.valve = none ∧ v = s.cfg.resp[z].valve ∨ a.valve = some .absent ∧ v = none ∨
        ∃ n : ValveIx, a.valve = some (.index n.val) ∧ v = some n) →
      ∃ reply, Takes l i s
        { found l i s with cfg := { s.cfg with
          travel := numArg 1000 60000 a.travel s.cfg.travel
          resp := s.cfg.resp.set z ⟨a.act.getD s.cfg.resp[z].action, (cs.map toSet).getD s.cfg.resp[z].chans, v,
            a.esc.getD s.cfg.resp[z].esc, a.vall.getD s.cfg.resp[z].closeAll⟩ } } reply ∧
        (reply.status = if clamps 1000 60000 a.travel then .adjusted else .ok) ∧
        fNum "travel" (numArg 1000 60000 a.travel s.cfg.travel) ∈ reply.fields) ∧
  ∀ (l : LineId) (s : State), CanTake l (.captureClear l) s →
    Takes l (.captureClear l) s
      { found l (.captureClear l) s with resp := { (found l (.captureClear l) s).resp with capture := none } } okReply

/-- OVERRIDE PREPARE opens a sequence on its port when the tests of R155 pass; OVERRIDE COMMIT completes it on that port
for that channel with the tests made again, and ends it otherwise on that port (R157); OVERRIDE LOCKOUT sets the lockout
(R159). -/
def Obligations.OverrideTakesTwoLines : Prop :=
  ∀ (l : LineId) (c : Ch) (s : State),
    let p := Instr.overridePrepare l (some (c.val : Int))
    let k := Instr.overrideCommit l (some (c.val : Int))
    let unfit := (s.ch c).state ≠ .off ∨ (s.ch c).holds = [] ∨ ∃ z ∈ (s.ch c).holds, s.zones[z].state = .escalated
    let ended := { found l k s with resp := { s.resp with seq := none } }
    (CanTake l p s →
      (s.resp.lockout = true → Answers l p s (errReply .locked)) ∧
      (s.resp.lockout = false → unfit → Answers l p s (errReply .state)) ∧
      (s.resp.lockout = false → ¬ unfit → Takes l p s
        { found l p s with resp := { s.resp with seq := some ⟨l.port, c, ⟨s.now, 2000⟩⟩ } }
        (okWith [fNum "win" 2000]))) ∧
    (CanTake l k s →
      ((∀ q, s.resp.seq = some q → q.port ≠ l.port) → Answers l k s (errReply .sequence)) ∧
      ∀ q, s.resp.seq = some q → q.port = l.port →
        (q.chan ≠ c → Takes l k s ended (errReply .sequence)) ∧
        (q.chan = c → s.resp.lockout = true → Takes l k s ended (errReply .locked)) ∧
        (q.chan = c → s.resp.lockout = false → unfit → Takes l k s ended (errReply .state)) ∧
        (q.chan = c → s.resp.lockout = false → ¬ unfit → ∃ u, Takes l k s u okReply ∧
          u.ch c = { s.ch c with override := true } ∧ OnlyChannel c s u ∧ u.resp = { s.resp with seq := none } ∧
          Reports .overrideApplied (some c.val) (some (s.ch c).holds.length)
            (some (match l.port with | .manager => 0 | .service => 1)) (found l k s) u ∧
          u.budget = s.budget ∧ u.run = s.run ∧ u.shelf = s.shelf ∧ u.source = (found l k s).source ∧
          SameRest s u)) ∧
    (∀ q, s.resp.seq = some q → q.port = l.port → CanTake l (.overrideCommit l none) s →
      Takes l (.overrideCommit l none) s
        { found l (.overrideCommit l none) s with resp := { s.resp with seq := none } } (errReply .syntaxError)) ∧
    (CanTake l (.overrideLockout l) s → Takes l (.overrideLockout l) s
      { found l (.overrideLockout l) s with resp := { (found l (.overrideLockout l) s).resp with lockout := true } }
      okReply)

/-- VALVE CLOSE and VALVE OPEN by the state of the valve, with a contact that is already present taking the valve on
(R161, R163). -/
def Obligations.ValveCommandsByState : Prop :=
  ∀ (l : LineId) (v : ValveIx) (s : State),
    let k := Instr.valveClose l (some (v.val : Int))
    let o := Instr.valveOpen l (some (v.val : Int))
    let x := s.resp.valve[v]
    let keeps := fun (i : Instr) (u : State) => u.cfg = s.cfg ∧ u.chans = s.chans ∧ u.budget = s.budget ∧
      u.run = s.run ∧ u.shelf = s.shelf ∧ u.source = (found l i s).source ∧ u.zones = s.zones ∧ u.work = s.work
    (CanTake l k s →
      (x.state = .closing ∨ x.state = .closed → Takes l k s
        { found l k s with resp := { (found l k s).resp with
          valve := s.resp.valve.set v { x with hostClose := true } } } (okWith [fWord "st" x.state.word])) ∧
      (x.state = .opened ∨ x.state = .opening ∨ x.state = .fault → ∃ u,
        Takes l k s u (okWith [fWord "st" (if x.closedContact then "CLOSED" else "CLOSING")]) ∧
        u.resp = { (found l k s).resp with valve := s.resp.valve.set v { x with
          hostClose := true, state := if x.closedContact then .closed else .closing
          travel := if x.closedContact then none else some ⟨s.now, s.cfg.travel⟩ } } ∧
        (x.closedContact = false → Reports .valveMoved (some v.val) (some 1) (some x.state.code) (found l k s) u) ∧
        u.link.flags.valve = true ∧ keeps k u)) ∧
    (CanTake l o s →
      (x.zones ≠ [] → Answers l o s (errReply .state)) ∧
      (x.zones = [] → x.state = .opening ∨ x.state = .opened → Takes l o s
        { found l o s with resp := { (found l o s).resp with
          valve := s.resp.valve.set v { x with hostClose := false } } } (okWith [fWord "st" x.state.word])) ∧
      (x.zones = [] → x.state = .closed ∨ x.state = .closing ∨ x.state = .fault → ∃ u,
        Takes l o s u (okWith [fWord "st" (if x.openContact then "OPEN" else "OPENING")]) ∧
        u.resp = { (found l o s).resp with valve := s.resp.valve.set v { x with
          hostClose := false, state := if x.openContact then .opened else .opening
          travel := if x.openContact then none else some ⟨s.now, s.cfg.travel⟩ } } ∧
        (x.openContact = false → Reports .valveMoved (some v.val) (some 3) (some x.state.code) (found l o s) u) ∧
        u.link.flags.valve = true ∧ keeps o u))

/-! ### Link, system and tally commands (Chapters 9 and 10) -/

/-- Raising a report sets its group's flag and makes the entry join the queues that the route names, by the table of R177,
with the lost count and a REPORTS LOST event for each drop or eviction (R176, R177); FETCH takes entries from the head of its
port's queue and clears the lost count (R179); ROUTE SET writes routes and service control (R181); STATUS CLEAR clears the
named flags (R180). -/
def Obligations.RaiseFetchRouteSetAndStatusClear : Prop :=
  (∀ k : ReportKind,
    (k.alarm = true ↔ k ∈ [.rideBegin, .reserveReached, .depleted, .leakWet, .leakEscalated, .valveFault]) ∧
    k.group =
      if k ∈ [.channelFault, .channelOverdraw] then .channel
      else if k ∈ [.admissionLate, .budgetDeficitShed, .budgetDeficit] then .budget
      else if k ∈ [.stepSkipped, .planEnded, .planPaused] then .plan
      else if k ∈ [.moduleState] then .shelf
      else if k ∈ [.rideBegin, .reserveReached, .depleted, .shed, .rideEnd, .hostSilent] then .source
      else if k ∈ [.leakWet, .leakEscalated, .zoneCableFault, .overrideApplied] then .leak
      else if k ∈ [.valveFault, .valveMoved] then .valve else .system) ∧
  (∀ (k : ReportKind) (subject v1 v2 : Option Nat) (s : State),
    let r : Report := ⟨k, s.now, subject, v1, v2⟩
    let u := raise k subject v1 v2 s
    let routed := fun p : Port => s.cfg.routes.of k.group = .both ∨
      s.cfg.routes.of k.group = (match p with | .manager => .manager | .service => .service)
    let loses := fun p : Port => decide (routed p ∧ 32 ≤ (s.port p).queue.length)
    let lost := fun (t : Tally) (b : Bool) => if b then t.take .reportsLost else t
    u = { s with link := u.link, tally := lost (lost s.tally (loses .manager)) (loses .service) } ∧
    (∀ g, u.link.flags.of g = (s.link.flags.of g || decide (g = k.group))) ∧
    (∀ p, ¬ routed p → u.port p = s.port p) ∧
    ∀ p, routed p →
      let c := s.port p
      let missed := if c.lost < 255 then c.lost + 1 else c.lost
      (c.queue.length < 32 → k.alarm = true →
        u.port p = { c with queue := alarmsOf c.queue ++ r :: ordinaryOf c.queue }) ∧
      (c.queue.length < 32 → k.alarm = false → u.port p = { c with queue := c.queue ++ [r] }) ∧
      (32 ≤ c.queue.length → k.alarm = true → ordinaryOf c.queue ≠ [] → u.port p =
        { c with queue := alarmsOf c.queue ++ r :: (ordinaryOf c.queue).dropLast, lost := missed }) ∧
      (32 ≤ c.queue.length → k.alarm = false ∨ ordinaryOf c.queue = [] → u.port p = { c with lost := missed })) ∧
  (∀ (l : LineId) (x : Option Int) (s : State) (n : Nat), CanTake l (.fetch l x) s →
    ((∃ y, x = some y ∧ (y < 1 ∨ 8 < y)) → Answers l (.fetch l x) s (errReply .range)) ∧
    (x = none ∧ n = 8 ∨ x = some (n : Int) ∧ 1 ≤ n ∧ n ≤ 8 →
      let q := (s.port l.port).queue
      Takes l (.fetch l x) s
        ((found l (.fetch l x) s).modPort l.port fun c => { c with queue := q.drop n, lost := 0 })
        { status := .ok, reports := q.take n
          fields := [fNum "n" (min n q.length), fNum "lost" (s.port l.port).lost, fNum "rem" (q.length - n)] })) ∧
  (∀ (l : LineId) (a : RouteArgs) (s : State), CanTake l (.routeSet l a) s →
    (a = {} → Answers l (.routeSet l a) s (errReply .syntaxError)) ∧
    (a ≠ {} → ∃ reply, Takes l (.routeSet l a) s
      { found l (.routeSet l a) s with cfg := { s.cfg with
        svc := a.svc.getD s.cfg.svc
        routes :=
          { channel := a.channel.getD s.cfg.routes.channel, budget := a.budget.getD s.cfg.routes.budget
            plan := a.plan.getD s.cfg.routes.plan, shelf := a.shelf.getD s.cfg.routes.shelf
            source := a.source.getD s.cfg.routes.source, leak := a.leak.getD s.cfg.routes.leak
            valve := a.valve.getD s.cfg.routes.valve, system := a.system.getD s.cfg.routes.system } } } reply ∧
      reply.status = .ok ∧ fOn "svc" (a.svc.getD s.cfg.svc) ∈ reply.fields)) ∧
  ∀ (l : LineId) (x : Option GroupArg) (s : State), CanTake l (.statusClear l x) s →
    (x = none → Answers l (.statusClear l x) s (errReply .syntaxError)) ∧
    ∀ gs : List Group, x = some (.groups gs) ∨ (x = some .all ∧ ∀ g, g ∈ gs) → ∃ u,
      Takes l (.statusClear l x) s u (okWith [fWords "flg" ((allGroups.filter fun g => u.link.flags.of g).map Group.word)]) ∧
      (∀ g, u.link.flags.of g = (s.link.flags.of g && !decide (g ∈ gs))) ∧
      u = { found l (.statusClear l x) s with link := { (found l (.statusClear l x) s).link with flags := u.link.flags } }

/-- CONFIG SAVE copies the working configuration into a write that the save completion ends (R187); CONFIG DEFAULTS
replaces the whole working configuration, and the blocks act as if it had been written (R188). That CONFIG DEFAULTED joins
ahead of the reports of the evaluations which the command starts is the model's choice (log 36). -/
def Obligations.SaveAndDefaults : Prop :=
  (∀ (l : LineId) (s : State), CanTake l (.configSave l) s →
    (∀ copy at', s.store = .writing copy at' → Answers l (.configSave l) s (errReply .busy)) ∧
    ((∀ copy at', s.store ≠ .writing copy at') → Takes l (.configSave l) s
      { found l (.configSave l) s with store := .writing s.cfg s.now } okReply)) ∧
  (∀ s : State, s.power = .running →
    ((∀ copy at', s.store ≠ .writing copy at') → Acts .saveCompletion s s) ∧
    ∀ copy at', s.store = .writing copy at' → ∃ u, Acts .saveCompletion s u ∧ u.store = .valid copy ∧
      Reports .saveDone none (some (msBetween at' s.now)) none s u ∧
      u = { s with store := u.store, link := u.link, tally := u.tally }) ∧
  ∀ (l : LineId) (s : State),
    let i := Instr.configDefaults l
    let blocked := (∃ c, (s.ch c).state ≠ .off ∧ (s.ch c).state ≠ .faulted) ∨ runActive s = true ∨
      ∃ z : Zone, s.zones[z].state = .cableFault ∧ s.cfg.zone[z].cpol = .treatWet
    CanTake l i s →
    (blocked → Answers l i s (errReply .state)) ∧
    (¬ blocked → ∃ u, Takes l i s u okReply ∧ u.cfg = defaultCfg ∧ u.cfgFrom = .defaults ∧ u.store = s.store ∧
      u.chans = s.chans ∧ u.work.eval = true ∧ (s.source.state = .ride → u.work.ride = true) ∧
      u.source = { s.source with stage := 0, silence := none, policy := .host } ∧
      (∀ z : Zone, u.zones[z] = if s.zones[z].state = .off
        then { s.zones[z] with state := .watch, history := [], cable := 0, cls := none } else s.zones[z]) ∧
      Reports .configDefaulted none (some 1) none { found l i s with cfg := defaultCfg } u ∧
      u.resp = (found l i s).resp ∧ u.budget = s.budget ∧ u.run = s.run ∧ u.shelf = s.shelf ∧ u.now = s.now)

/-- The tally commands: TALLY SET on a stopped counter and on the pair mode, START, STOP and CLEAR (R191); and how a
counter and the pair count an event (R190). -/
def Obligations.TallyCommandsAndCounting : Prop :=
  (∀ (l : LineId) (a : TallyArgs) (s : State), CanTake l (.tallySet l a) s →
    (a = { ctr := a.ctr } ∨ (a.ctr = none ∧ (a.ev.isSome ∨ a.lim.isSome)) →
      Answers l (.tallySet l a) s (errReply .syntaxError)) ∧
    (∀ (c : CtrIx) (e : Option (Fin 10)) (m : Option AtLimit), e.isSome ∨ m.isSome →
      a = { ctr := some (c.val : Int), ev := e.map fun n => (n.val : Int), lim := m } →
      (s.tally.ctr[c].running = true ∨ (s.tally.pair = true ∧ c = 1) →
        Answers l (.tallySet l a) s (errReply .state)) ∧
      (s.tally.ctr[c].running = false → ¬ (s.tally.pair = true ∧ c = 1) → ∃ u r, Takes l (.tallySet l a) s u r ∧
        r.status = .ok ∧ fNum "ev" u.tally.ctr[c].event.code ∈ r.fields ∧
        (∀ n, e = some n → u.tally.ctr[c].event.code = n.val) ∧
        u = { found l (.tallySet l a) s with tally := { s.tally with ctr := s.tally.ctr.set c { s.tally.ctr[c] with
          event := if e.isSome then u.tally.ctr[c].event else s.tally.ctr[c].event
          limit := m.getD s.tally.ctr[c].limit } } })) ∧
    ∀ b : Bool, a = { pair := some b } →
      (s.tally.ctr[0].running = true ∨ s.tally.ctr[1].running = true →
        Answers l (.tallySet l a) s (errReply .state)) ∧
      (s.tally.ctr[0].running = false → s.tally.ctr[1].running = false → Takes l (.tallySet l a) s
        { found l (.tallySet l a) s with tally := if b = s.tally.pair then s.tally else
          { pair := b
            ctr := (s.tally.ctr.set 0 { s.tally.ctr[0] with value := 0, overflow := false }).set 1
              { s.tally.ctr[1] with value := 0, overflow := false } } } (okWith [fOn "pair" b]))) ∧
  (∀ (l : LineId) (c : CtrIx) (s : State),
    let n := some (c.val : Int)
    let act := fun (i : Instr) (f : Counter → Counter) =>
      Takes l i s { found l i s with tally := { s.tally with ctr := s.tally.ctr.set c (f s.tally.ctr[c]) } } okReply
    (s.tally.pair = true → c = 1 → ∀ i ∈ [Instr.tallyStart l n, .tallyStop l n, .tallyClear l n], CanTake l i s →
      Answers l i s (errReply .state)) ∧
    (s.tally.pair = false ∨ c ≠ 1 →
      (CanTake l (.tallyStart l n) s → act (.tallyStart l n) fun x => { x with running := true }) ∧
      (CanTake l (.tallyStop l n) s → act (.tallyStop l n) fun x => { x with running := false })) ∧
    (s.tally.pair = false ∨ 2 ≤ c.val → CanTake l (.tallyClear l n) s →
      act (.tallyClear l n) fun x => { x with value := 0, overflow := false }) ∧
    (s.tally.pair = true → c = 0 → CanTake l (.tallyClear l n) s → Takes l (.tallyClear l n) s
      { found l (.tallyClear l n) s with tally := { s.tally with
        ctr := (s.tally.ctr.set 0 { s.tally.ctr[0] with value := 0, overflow := false }).set 1
          { s.tally.ctr[1] with value := 0 } } } okReply)) ∧
  ∀ (e : TallyEvent) (t : Tally),
    (∀ c : CtrIx, t.pair = false ∨ 2 ≤ c.val → (t.take e).ctr[c] =
      let x := t.ctr[c]
      if x.running = true ∧ x.event = e then
        if x.value < 4294967295 then
          { x with value := x.value + 1, overflow := x.overflow || decide (x.value + 1 = 4294967295) }
        else { x with value := match x.limit with | .hold => x.value | .wrap => 0 }
      else x) ∧
    (t.pair = true → t.ctr[0].value < 4294967296 → t.ctr[1].value < 4294967296 →
      let n := t.ctr[1].value * 4294967296 + t.ctr[0].value
      let x := t.ctr[0]
      let n' := if x.running = true ∧ x.event = e then
          if n < 18446744073709551615 then n + 1 else match x.limit with | .hold => n | .wrap => 0
        else n
      (t.take e).ctr[0] = { x with
        value := n' % 4294967296
        overflow := x.overflow || (x.running && decide (x.event = e) && decide (n + 1 = 18446744073709551615)) } ∧
      (t.take e).ctr[1] = { t.ctr[1] with value := n' / 4294967296 })

/-! ### The evaluation, admission and the ladder (Chapters 2 and 5) -/

/-- The stages of an evaluation (R26 to R32), its deficit test (R44) and charge division (R121), and the hold time (R106):
the reserve is what the k largest of the counted capacities give, the guard is rounded up, nothing of the supply is lost
between the parts, and each eligible battery gets what it asks for or what the slots before it have left. -/
def Obligations.SupplyFiguresAndHoldTime : Prop :=
  (∀ (s : State) (slots : List RmSlot),
    let caps := slots.map fun n => s.shelf.rect[n].capacity
    let k := s.cfg.policy.k
    let x := supply s slots
    x.1 = caps.sum ∧
    (caps.length < k → x.2.1 = x.1 ∧ x.2.2.2 = 0) ∧
    (k ≤ caps.length → ∃ big rest, caps.Perm (big ++ rest) ∧ big.length = k ∧ x.2.1 = big.sum ∧
      ∀ a ∈ big, ∀ b ∈ rest, b ≤ a) ∧
    (x.1 - x.2.1) * s.cfg.policy.guard ≤ 100 * x.2.2.1 ∧
    100 * x.2.2.1 < (x.1 - x.2.1) * s.cfg.policy.guard + 100 ∧
    (s.cfg.policy.guard ≤ 25 → x.1 = x.2.1 + x.2.2.1 + x.2.2.2)) ∧
  (∀ s : State,
    let f := (evaluate s).budget.figs
    let slots := allRm.filter fun n => s.shelf.rect[n].counted
    f.counted = slots ∧ (f.raw, f.red, f.guard, f.firm) = supply s slots ∧
    f.com = (allCh.map fun c => match (s.ch c).state with
      | .ramping => (s.chCfg c).alloc
      | .on | .warning => max (s.chCfg c).alloc (s.ch c).draw
      | .off | .pending | .faulted => (s.ch c).draw).sum ∧
    f.m = (f.firm : Int) - f.com ∧ f.fact = (if s.source.chargeFirst then s.cfg.charge.floor else 0) ∧
    f.h = f.m - (f.fact : Int) ∧
    f.o = (allCh.map fun c => if (s.ch c).state = .ramping then (s.ch c).admitted.getD 0 else 0).sum ∧
    (f.chg : Int) = (if s.source.state = .grid
      then min (s.source.request : Int) (min (s.cfg.charge.limit : Int) (max f.m 0)) else 0) ∧
    ((allBm.map fun n => (evaluate s).shelf.batt[n].chargeLimit).sum ≤ f.chg) ∧
    (∀ n : BmSlot,
      let b := s.shelf.batt[n]
      let before := ((allBm.filter (· < n)).map fun m => (evaluate s).shelf.batt[m].chargeLimit).sum
      (evaluate s).shelf.batt[n] = { b with chargeLimit := match b.sample with
        | some x => if b.state = .charging ∨ b.state = .standby ∧ x.usable < x.full then min x.request (f.chg - before) else 0
        | none => 0 }) ∧
    (evaluate s).shelf.rect = s.shelf.rect ∧
    (s.source.state = .grid → f.m < 0 →
      (evaluate s).budget.reported = s.budget.reported ∧
      (∀ t, s.budget.grace = some t → (evaluate s).budget.grace = some t ∧ (evaluate s).work.grace = s.work.grace) ∧
      (s.budget.grace = none → (evaluate s).budget.grace = some ⟨s.now, s.cfg.policy.grace⟩ ∧
        (evaluate s).work.grace = decide (s.cfg.policy.grace = 0))) ∧
    (s.source.state ≠ .grid ∨ 0 ≤ f.m → (evaluate s).budget.grace = none ∧ (evaluate s).budget.reported = false ∧
      (evaluate s).work.grace = false) ∧
    { (evaluate s).budget with figs := s.budget.figs, grace := s.budget.grace, reported := s.budget.reported } = s.budget ∧
    (evaluate s).chans = s.chans ∧ (evaluate s).source = s.source ∧ (evaluate s).run = s.run ∧
    (evaluate s).resp = s.resp ∧ Silent s (evaluate s) ∧ SameRest s (evaluate s) ∧
    (evaluate s).work.eval = false ∧ (evaluate s).work.figs = true ∧ (evaluate s).work.exam = true) ∧
  ∀ (s : State) (load : Nat),
    (load = 0 → holdTime s load = 65535) ∧
    (load ≠ 0 → holdTime s load = min 65535
      ((allBm.map fun n => if s.shelf.batt[n].available then
        (match s.shelf.batt[n].sample with
          | some x => x.usable
          | none => 0) else 0).sum * s.cfg.ride.eff / load))

/-- The examination of the head (R37 to R40): a single entry that fits is admitted, one that does not fit waits and is
counted once, one held by the split spacing timer is left; a gang that fits is admitted whole, and one that does not is
degraded in place with its first single examined at once: held, admitted or left waiting as any single. That the gang's own
failure to fit counts no ADMISSION WAITS event beside its single's is the model's reading (log 19). -/
def Obligations.HeadIsAdmittedWhenItFits : Prop :=
  ∀ s : State,
    let fitting := fun (cs : List Ch) => s.source.state = .grid ∧
      ((cs.map fun c => (s.chCfg c).alloc).sum : Int) ≤ s.budget.figs.h ∧
      s.budget.figs.o + (cs.map fun c => (s.chCfg c).inrush).sum ≤ s.cfg.policy.inrush
    let held := fun (e : Entry) => ∃ g t, s.budget.spacing = some (g, t) ∧ e.splitFrom = some g
    (s.budget.queue = [] → examine s = s) ∧
    ∀ (e : Entry) (q : List Entry), s.budget.queue = e :: q →
      (∀ c, e.name = .single c →
        (held e → examine s = s) ∧
        (¬ held e → ¬ fitting [c] → e.waited = true → examine s = s) ∧
        (¬ held e → ¬ fitting [c] → e.waited = false → examine s =
          { s with
            budget := { s.budget with queue := { e with waited := true } :: q }, tally := s.tally.take .admissionWaits }) ∧
        (¬ held e → fitting [c] →
          queuedChans (examine s).budget.queue = queuedChans q ∧ OnlyChannel c s (examine s) ∧
          ((s.ch c).powerGood = false → (s.ch c).trayFault = false → (examine s).ch c = { s.ch c with
            state := .ramping, since := s.now, admitted := some (s.chCfg c).inrush, shed := false, confirm := none
            ramp := some ⟨s.now, (s.chCfg c).ramp⟩ }) ∧
          ((s.ch c).powerGood = true → (s.ch c).trayFault = false → ((examine s).ch c).state = .on) ∧
          ((s.ch c).trayFault = true → ((examine s).ch c).state = .faulted) ∧
          (∀ g, e.splitFrom = some g → q ≠ [] → (examine s).budget.spacing =
            if s.cfg.policy.spacing = 0 then none else some (g, ⟨s.now, s.cfg.policy.spacing⟩)) ∧
          (examine s).work.eval = true)) ∧
      ∀ g ms, e.name = .gang g ms →
        (ms.Nodup → fitting ms → queuedChans (examine s).budget.queue = queuedChans q ∧
          (∀ c, c ∉ ms → (examine s).ch c = s.ch c) ∧
          ∀ c ∈ ms, (s.ch c).powerGood = false → (s.ch c).trayFault = false → (examine s).ch c = { s.ch c with
            state := .ramping, since := s.now, admitted := some (s.chCfg c).inrush, shed := false, confirm := none
            ramp := some ⟨s.now, (s.chCfg c).ramp⟩ }) ∧
        (∀ c rest, ms = c :: rest → ¬ fitting ms → msBetween e.joined s.now ≤ s.cfg.policy.late →
          let single := fun d => { e with name := EntryName.single d, splitFrom := some g, waited := false }
          ((∃ t, s.budget.spacing = some (g, t)) → (examine s).chans = s.chans ∧
            (examine s).budget.queue = single c :: rest.map single ++ q) ∧
          ((¬ ∃ t, s.budget.spacing = some (g, t)) → ¬ fitting [c] → (examine s).chans = s.chans ∧
            (examine s).budget.queue = { single c with waited := true } :: rest.map single ++ q ∧
            (examine s).tally = s.tally.take .admissionWaits) ∧
          ((¬ ∃ t, s.budget.spacing = some (g, t)) → fitting [c] →
            queuedChans (examine s).budget.queue = rest ++ queuedChans q ∧
            (rest ≠ [] → (examine s).budget.queue = rest.map single ++ q) ∧ OnlyChannel c s (examine s) ∧
            ((s.ch c).powerGood = false → (s.ch c).trayFault = false → (examine s).ch c = { s.ch c with
              state := .ramping, since := s.now, admitted := some (s.chCfg c).inrush, shed := false, confirm := none
              ramp := some ⟨s.now, (s.chCfg c).ramp⟩ }) ∧
            ((s.ch c).powerGood = true → (s.ch c).trayFault = false → ((examine s).ch c).state = .on) ∧
            ((s.ch c).trayFault = true → ((examine s).ch c).state = .faulted) ∧
            (rest ≠ [] ∨ q ≠ [] → (examine s).budget.spacing =
              if s.cfg.policy.spacing = 0 then none else some (g, ⟨s.now, s.cfg.policy.spacing⟩)) ∧
            (rest = [] → q = [] → (examine s).budget.spacing = none) ∧ (examine s).work.eval = true))

/-- A plan step by its action (R54, R55, R57 to R61), the completion of a step (R54, R62), and a step that has completed
when the reserve request comes, which counts before the abort (R56, R60, R66). That a run of kind UP stays at a START step
found outside GRID is the model's reading of R55 (log 30). -/
def Obligations.PlanStepsByAction : Prop :=
  (∀ (s : State) (r : Run) (passing : List Ch), s.run = some r → r.skipped ≤ 65535 →
    let p := s.cfg.steps[r.cursor]
    let u := executeStep s
    let begun := { r with state := .running, phase := .step, outstanding := [] }
    let completes := { s with run := some begun, work := { s.work with plan := .complete } }
    let waits := { s with run := some { begun with state := .waiting } }
    let skipped := min 65535 (r.skipped + (p.members.length - passing.length))
    passing.Pairwise (· < ·) → (∀ c, c ∈ passing ↔ c ∈ p.members ∧ Startable s c) →
    (p.action = .delay → u = completes) ∧
    (p.action = .awaitGrid → s.source.state = .grid → u = completes) ∧
    (p.action = .awaitGrid → s.source.state ≠ .grid → u = waits) ∧
    (p.action = .awaitOn → (∀ c ∈ r.admittedSet, (s.ch c).state ≠ .ramping) → u = completes) ∧
    (p.action = .awaitOn → (∃ c ∈ r.admittedSet, (s.ch c).state = .ramping) → u = waits) ∧
    (p.action = .stop → u.run = some begun ∧ u.work.plan = .complete ∧
      (∀ c, c ∉ p.members → u.ch c = s.ch c) ∧
      (∀ c ∈ p.members, u.ch c = (s.ch c).stopped s.now
        (if s.source.state = .ride then min (s.chCfg c).warn s.cfg.ride.cap else (s.chCfg c).warn))) ∧
    (p.action = .start → s.source.state ≠ .grid → r.kind = .down → u = completes) ∧
    (p.action = .start → s.source.state ≠ .grid → r.kind = .up → u = { s with run := some begun }) ∧
    (p.action = .start → s.source.state = .grid → passing = [] →
      u.chans = s.chans ∧ u.budget = s.budget ∧ u.work.plan = .complete ∧ u.run = some { begun with skipped := skipped }) ∧
    (p.action = .start → s.source.state = .grid → passing ≠ [] →
      u.run = some { begun with state := .waiting, outstanding := passing, skipped := skipped } ∧
      (∀ c, u.ch c = if c ∈ passing then { s.ch c with state := .pending, since := s.now } else s.ch c) ∧
      (∀ c, p.target = some (.chan c) → u.budget.queue = s.budget.queue ++ [⟨.single c, none, .plan, s.now, false, false⟩]) ∧
      (∀ g, p.target = some (.gang g) →
        u.budget.queue = s.budget.queue ++ [⟨.gang g passing, none, .plan, s.now, false, false⟩]) ∧
      u.work.exam = true ∧ u.work.eval = true)) ∧
  (∀ (s : State) (r : Run), s.run = some r → s.work.plan = .complete →
    (r.cursor = r.endStep → (reserveRequest none s).run = some { r with
      state := .done, done := r.done + 1, gap := none, gapLeft := 0, outstanding := [], pauseCause := none }) ∧
    (r.cursor ≠ r.endStep → s.cfg.steps[r.cursor].gap ≠ 0 → (reserveRequest none s).run = some { r with
      state := .aborted, phase := .gap, done := r.done + 1, gap := none, gapLeft := 0, outstanding := [], pauseCause := none })) ∧
  ∀ (s : State) (r : Run), s.run = some r →
    let gap := s.cfg.steps[r.cursor].gap
    (r.cursor ≠ r.endStep → gap ≠ 0 → completeStep s = { s with run := some { r with
      state := .running, phase := .gap, done := r.done + 1, gap := some ⟨s.now, gap⟩, gapLeft := gap } }) ∧
    (r.cursor ≠ r.endStep → gap = 0 → completeStep s =
      { s with
        run := some { r with
          state := .running, phase := .step, cursor := r.cursor + 1, done := r.done + 1, gap := none, gapLeft := 0 }
        work := { s.work with plan := .exec } }) ∧
    (r.cursor = r.endStep → ∃ u, completeStep s = u ∧ u.run = some { r with
        state := .done, done := r.done + 1, gap := none, gapLeft := 0, outstanding := [], pauseCause := none } ∧
      Reports .planEnded (some r.cursor.val) (some (if r.unterminated then 1 else 0)) (some (r.done + 1)) s u ∧
      u.chans = s.chans ∧ u.budget = s.budget ∧ SameRest s u)

/-- A ride evaluation (R107 to R112): without usable energy every live channel is cut and the rack is DOWN; else the
ladder level is the smallest from the present one up whose candidate can be delivered and held, its tiers are shed with
one SHED report each, the reserve is taken, with RESERVE REACHED, when the predicted hold time has come down to the final
reserve, and with the reserve taken and every channel OFF or FAULTED the rack is DOWN (R104). R66, R68, R104 and R112 do not
order the entry step of the DOWN run that the reserve starts and the all-off test that ends the evaluation: that the run still
stands at its entry, with that step due, when RIDE END is raised is the model's choice (log 49). -/
def Obligations.RideEvaluationShedsAndReserves : Prop :=
  ∀ s : State,
    let u := rideEvaluation s
    let exhausted := (∀ n : BmSlot, s.shelf.batt[n].available = false) ∨ energyTotal s = 0
    let holds := fun lv => candidate s lv ≤ dischargeTotal s ∧ s.cfg.ride.target ≤ holdTime s (candidate s lv)
    (s.source.state ≠ .ride → u = s) ∧
    (s.source.state = .ride → exhausted →
      u.source.state = .down ∧ u.source.since = s.now ∧ u.source.lastEval = some s.now ∧
      u.source.level = s.source.level ∧ u.source.reserveTaken = s.source.reserveTaken ∧
      (∀ c, ((s.ch c).state = .ramping ∨ (s.ch c).state = .on ∨ (s.ch c).state = .warning) →
        u.ch c = (s.ch c).switchedOff s.now) ∧
      (∀ c, (s.ch c).state = .off ∨ (s.ch c).state = .pending ∨ (s.ch c).state = .faulted → u.ch c = s.ch c) ∧
      (∀ n : BmSlot, u.shelf.batt[n].discharge = false) ∧ u.link.flags.source = true ∧
      u.link = (raiseAll [
        (.depleted, none, some (energyTotal s), some (liveChans s).length),
        (.rideEnd, some s.source.level, some 2, some (msBetween s.source.outage s.now))] s).link) ∧
    ∀ lv : Nat, s.source.state = .ride → ¬ exhausted → s.source.level ≤ lv → lv ≤ 3 →
      (∀ j, s.source.level ≤ j → j < lv → ¬ holds j) → holds lv ∨ lv = 3 →
      let pred := holdTime s (candidate s lv)
      let takes := s.source.reserveTaken = false ∧ pred ≤ s.cfg.ride.reserve
      let cleared := u.source.reserveTaken = true ∧ ∀ c, (u.ch c).state = .off ∨ (u.ch c).state = .faulted
      let sheds := ([3, 2, 1].filter fun t => decide (4 ≤ t + lv) &&
        (decide (t + s.source.level < 4) || !(tierLive s t).isEmpty)).map fun t =>
          (ReportKind.shed, some lv, some t, some (tierLive s t).length)
      let reached := (ReportKind.reserveReached, s.cfg.down.map Fin.val, some pred, some lv)
      let ends := (ReportKind.rideEnd, some lv, some 1, some (msBetween s.source.outage s.now))
      u.source.level = lv ∧ u.source.lastEval = some s.now ∧ u.source.hold = some pred ∧
      (u.source.reserveTaken = true ↔ s.source.reserveTaken = true ∨ takes) ∧
      (∀ c, 4 ≤ (s.chCfg c).tier.val + lv → (u.ch c).state ≠ .on ∧ (u.ch c).state ≠ .ramping ∧
        ((s.ch c).state = .on ∨ (s.ch c).state = .ramping → (u.ch c).shed = true)) ∧
      (¬ takes → ∀ c, (s.chCfg c).tier.val + lv < 4 → u.ch c = s.ch c) ∧
      (takes → s.cfg.down = none → ∀ c, (u.ch c).state ≠ .on ∧ (u.ch c).state ≠ .ramping ∧ (u.ch c).state ≠ .warning) ∧
      (takes → ∀ d, s.cfg.down = some d → ∃ r, u.run = some r ∧ r.state = .running ∧ r.kind = .down ∧
        r.origin = .source ∧ r.cursor = d ∧ u.work.plan = .exec) ∧
      (cleared → u.source.state = .down ∧ u.source.since = s.now ∧ (∀ n : BmSlot, u.shelf.batt[n].discharge = false) ∧
        u.work.eval = true) ∧
      (¬ cleared → u.source.state = .ride ∧ u.source.since = s.source.since) ∧
      (¬ takes → ¬ cleared → u.link = (raiseAll sheds s).link) ∧
      (¬ takes → cleared → u.link = (raiseAll (sheds ++ [ends]) s).link) ∧
      (takes → runActive s = false → s.work.plan = .idle → ¬ cleared → u.link = (raiseAll (sheds ++ [reached]) s).link) ∧
      (takes → runActive s = false → s.work.plan = .idle → cleared →
        u.link = (raiseAll (sheds ++ [reached, ends]) s).link) ∧
      u.cfg = s.cfg ∧ u.zones = s.zones

/-! ### What every step keeps -/

/-- The five laws hold right after reset. -/
def Obligations.LawsHoldAtReset : Prop :=
  QueueLaw State.reset ∧ ReportLaw State.reset ∧ ValveLaw State.reset ∧ SettingsLaw State.reset ∧ PolicyLaw State.reset

/-- Every step keeps R35: the PENDING channels are exactly those in the admission queue, each in one entry. -/
def Obligations.EveryStepKeepsTheQueueLaw : Prop :=
  ∀ s t : State, QueueLaw s → step s = .next t → QueueLaw t

/-- Every step keeps R177: a report queue holds at most 32 entries, alarms ahead of ordinary ones. -/
def Obligations.EveryStepKeepsTheReportLaw : Prop :=
  ∀ s t : State, ReportLaw s → step s = .next t → ReportLaw t

/-- Every step keeps R160, that a valve with a demand is CLOSING, CLOSED or in FAULT; R185, that every setting of the
working configuration and of the store lies in its range; and R128, that the effective restore policy is the configured one
but at silence stage 2, where it is AUTO. -/
def Obligations.EveryStepKeepsValvesSettingsAndPolicy : Prop :=
  ∀ s t : State, step s = .next t →
    (ValveLaw s → ValveLaw t) ∧ (SettingsLaw s → SettingsLaw t) ∧ (PolicyLaw s → PolicyLaw t)

end
end

