-- ==== Sys2Proof/Laws/State.lean ====
section
/-! SUPPORT. The small lemmas of the state record: what each update leaves in each field. -/

namespace Sys2Proof.Machine

variable (s : State)

/-! ### modBudget -/

@[simp] theorem State.modBudget_power (f : Budget → Budget) : (s.modBudget f).power = s.power := rfl
@[simp] theorem State.modBudget_now (f : Budget → Budget) : (s.modBudget f).now = s.now := rfl
@[simp] theorem State.modBudget_cfg (f : Budget → Budget) : (s.modBudget f).cfg = s.cfg := rfl
@[simp] theorem State.modBudget_cfgFrom (f : Budget → Budget) : (s.modBudget f).cfgFrom = s.cfgFrom := rfl
@[simp] theorem State.modBudget_store (f : Budget → Budget) : (s.modBudget f).store = s.store := rfl
@[simp] theorem State.modBudget_chans (f : Budget → Budget) : (s.modBudget f).chans = s.chans := rfl
@[simp] theorem State.modBudget_budget (f : Budget → Budget) : (s.modBudget f).budget = f s.budget := rfl
@[simp] theorem State.modBudget_run (f : Budget → Budget) : (s.modBudget f).run = s.run := rfl
@[simp] theorem State.modBudget_shelf (f : Budget → Budget) : (s.modBudget f).shelf = s.shelf := rfl
@[simp] theorem State.modBudget_source (f : Budget → Budget) : (s.modBudget f).source = s.source := rfl
@[simp] theorem State.modBudget_zones (f : Budget → Budget) : (s.modBudget f).zones = s.zones := rfl
@[simp] theorem State.modBudget_scan (f : Budget → Budget) : (s.modBudget f).scan = s.scan := rfl
@[simp] theorem State.modBudget_resp (f : Budget → Budget) : (s.modBudget f).resp = s.resp := rfl
@[simp] theorem State.modBudget_link (f : Budget → Budget) : (s.modBudget f).link = s.link := rfl
@[simp] theorem State.modBudget_tally (f : Budget → Budget) : (s.modBudget f).tally = s.tally := rfl
@[simp] theorem State.modBudget_cause (f : Budget → Budget) : (s.modBudget f).cause = s.cause := rfl
@[simp] theorem State.modBudget_work (f : Budget → Budget) : (s.modBudget f).work = s.work := rfl
@[simp] theorem State.modBudget_orders (f : Budget → Budget) : (s.modBudget f).orders = s.orders := rfl
@[simp] theorem State.modBudget_pending (f : Budget → Budget) : (s.modBudget f).pending = s.pending := rfl

/-! ### modShelf -/

@[simp] theorem State.modShelf_power (f : Shelf → Shelf) : (s.modShelf f).power = s.power := rfl
@[simp] theorem State.modShelf_now (f : Shelf → Shelf) : (s.modShelf f).now = s.now := rfl
@[simp] theorem State.modShelf_cfg (f : Shelf → Shelf) : (s.modShelf f).cfg = s.cfg := rfl
@[simp] theorem State.modShelf_cfgFrom (f : Shelf → Shelf) : (s.modShelf f).cfgFrom = s.cfgFrom := rfl
@[simp] theorem State.modShelf_store (f : Shelf → Shelf) : (s.modShelf f).store = s.store := rfl
@[simp] theorem State.modShelf_chans (f : Shelf → Shelf) : (s.modShelf f).chans = s.chans := rfl
@[simp] theorem State.modShelf_budget (f : Shelf → Shelf) : (s.modShelf f).budget = s.budget := rfl
@[simp] theorem State.modShelf_run (f : Shelf → Shelf) : (s.modShelf f).run = s.run := rfl
@[simp] theorem State.modShelf_shelf (f : Shelf → Shelf) : (s.modShelf f).shelf = f s.shelf := rfl
@[simp] theorem State.modShelf_source (f : Shelf → Shelf) : (s.modShelf f).source = s.source := rfl
@[simp] theorem State.modShelf_zones (f : Shelf → Shelf) : (s.modShelf f).zones = s.zones := rfl
@[simp] theorem State.modShelf_scan (f : Shelf → Shelf) : (s.modShelf f).scan = s.scan := rfl
@[simp] theorem State.modShelf_resp (f : Shelf → Shelf) : (s.modShelf f).resp = s.resp := rfl
@[simp] theorem State.modShelf_link (f : Shelf → Shelf) : (s.modShelf f).link = s.link := rfl
@[simp] theorem State.modShelf_tally (f : Shelf → Shelf) : (s.modShelf f).tally = s.tally := rfl
@[simp] theorem State.modShelf_cause (f : Shelf → Shelf) : (s.modShelf f).cause = s.cause := rfl
@[simp] theorem State.modShelf_work (f : Shelf → Shelf) : (s.modShelf f).work = s.work := rfl
@[simp] theorem State.modShelf_orders (f : Shelf → Shelf) : (s.modShelf f).orders = s.orders := rfl
@[simp] theorem State.modShelf_pending (f : Shelf → Shelf) : (s.modShelf f).pending = s.pending := rfl

/-! ### modSource -/

@[simp] theorem State.modSource_power (f : Source → Source) : (s.modSource f).power = s.power := rfl
@[simp] theorem State.modSource_now (f : Source → Source) : (s.modSource f).now = s.now := rfl
@[simp] theorem State.modSource_cfg (f : Source → Source) : (s.modSource f).cfg = s.cfg := rfl
@[simp] theorem State.modSource_cfgFrom (f : Source → Source) : (s.modSource f).cfgFrom = s.cfgFrom := rfl
@[simp] theorem State.modSource_store (f : Source → Source) : (s.modSource f).store = s.store := rfl
@[simp] theorem State.modSource_chans (f : Source → Source) : (s.modSource f).chans = s.chans := rfl
@[simp] theorem State.modSource_budget (f : Source → Source) : (s.modSource f).budget = s.budget := rfl
@[simp] theorem State.modSource_run (f : Source → Source) : (s.modSource f).run = s.run := rfl
@[simp] theorem State.modSource_shelf (f : Source → Source) : (s.modSource f).shelf = s.shelf := rfl
@[simp] theorem State.modSource_source (f : Source → Source) : (s.modSource f).source = f s.source := rfl
@[simp] theorem State.modSource_zones (f : Source → Source) : (s.modSource f).zones = s.zones := rfl
@[simp] theorem State.modSource_scan (f : Source → Source) : (s.modSource f).scan = s.scan := rfl
@[simp] theorem State.modSource_resp (f : Source → Source) : (s.modSource f).resp = s.resp := rfl
@[simp] theorem State.modSource_link (f : Source → Source) : (s.modSource f).link = s.link := rfl
@[simp] theorem State.modSource_tally (f : Source → Source) : (s.modSource f).tally = s.tally := rfl
@[simp] theorem State.modSource_cause (f : Source → Source) : (s.modSource f).cause = s.cause := rfl
@[simp] theorem State.modSource_work (f : Source → Source) : (s.modSource f).work = s.work := rfl
@[simp] theorem State.modSource_orders (f : Source → Source) : (s.modSource f).orders = s.orders := rfl
@[simp] theorem State.modSource_pending (f : Source → Source) : (s.modSource f).pending = s.pending := rfl

/-! ### modResp -/

@[simp] theorem State.modResp_power (f : Response → Response) : (s.modResp f).power = s.power := rfl
@[simp] theorem State.modResp_now (f : Response → Response) : (s.modResp f).now = s.now := rfl
@[simp] theorem State.modResp_cfg (f : Response → Response) : (s.modResp f).cfg = s.cfg := rfl
@[simp] theorem State.modResp_cfgFrom (f : Response → Response) : (s.modResp f).cfgFrom = s.cfgFrom := rfl
@[simp] theorem State.modResp_store (f : Response → Response) : (s.modResp f).store = s.store := rfl
@[simp] theorem State.modResp_chans (f : Response → Response) : (s.modResp f).chans = s.chans := rfl
@[simp] theorem State.modResp_budget (f : Response → Response) : (s.modResp f).budget = s.budget := rfl
@[simp] theorem State.modResp_run (f : Response → Response) : (s.modResp f).run = s.run := rfl
@[simp] theorem State.modResp_shelf (f : Response → Response) : (s.modResp f).shelf = s.shelf := rfl
@[simp] theorem State.modResp_source (f : Response → Response) : (s.modResp f).source = s.source := rfl
@[simp] theorem State.modResp_zones (f : Response → Response) : (s.modResp f).zones = s.zones := rfl
@[simp] theorem State.modResp_scan (f : Response → Response) : (s.modResp f).scan = s.scan := rfl
@[simp] theorem State.modResp_resp (f : Response → Response) : (s.modResp f).resp = f s.resp := rfl
@[simp] theorem State.modResp_link (f : Response → Response) : (s.modResp f).link = s.link := rfl
@[simp] theorem State.modResp_tally (f : Response → Response) : (s.modResp f).tally = s.tally := rfl
@[simp] theorem State.modResp_cause (f : Response → Response) : (s.modResp f).cause = s.cause := rfl
@[simp] theorem State.modResp_work (f : Response → Response) : (s.modResp f).work = s.work := rfl
@[simp] theorem State.modResp_orders (f : Response → Response) : (s.modResp f).orders = s.orders := rfl
@[simp] theorem State.modResp_pending (f : Response → Response) : (s.modResp f).pending = s.pending := rfl

/-! ### modLink -/

@[simp] theorem State.modLink_power (f : Link → Link) : (s.modLink f).power = s.power := rfl
@[simp] theorem State.modLink_now (f : Link → Link) : (s.modLink f).now = s.now := rfl
@[simp] theorem State.modLink_cfg (f : Link → Link) : (s.modLink f).cfg = s.cfg := rfl
@[simp] theorem State.modLink_cfgFrom (f : Link → Link) : (s.modLink f).cfgFrom = s.cfgFrom := rfl
@[simp] theorem State.modLink_store (f : Link → Link) : (s.modLink f).store = s.store := rfl
@[simp] theorem State.modLink_chans (f : Link → Link) : (s.modLink f).chans = s.chans := rfl
@[simp] theorem State.modLink_budget (f : Link → Link) : (s.modLink f).budget = s.budget := rfl
@[simp] theorem State.modLink_run (f : Link → Link) : (s.modLink f).run = s.run := rfl
@[simp] theorem State.modLink_shelf (f : Link → Link) : (s.modLink f).shelf = s.shelf := rfl
@[simp] theorem State.modLink_source (f : Link → Link) : (s.modLink f).source = s.source := rfl
@[simp] theorem State.modLink_zones (f : Link → Link) : (s.modLink f).zones = s.zones := rfl
@[simp] theorem State.modLink_scan (f : Link → Link) : (s.modLink f).scan = s.scan := rfl
@[simp] theorem State.modLink_resp (f : Link → Link) : (s.modLink f).resp = s.resp := rfl
@[simp] theorem State.modLink_link (f : Link → Link) : (s.modLink f).link = f s.link := rfl
@[simp] theorem State.modLink_tally (f : Link → Link) : (s.modLink f).tally = s.tally := rfl
@[simp] theorem State.modLink_cause (f : Link → Link) : (s.modLink f).cause = s.cause := rfl
@[simp] theorem State.modLink_work (f : Link → Link) : (s.modLink f).work = s.work := rfl
@[simp] theorem State.modLink_orders (f : Link → Link) : (s.modLink f).orders = s.orders := rfl
@[simp] theorem State.modLink_pending (f : Link → Link) : (s.modLink f).pending = s.pending := rfl

/-! ### modTally -/

@[simp] theorem State.modTally_power (f : Tally → Tally) : (s.modTally f).power = s.power := rfl
@[simp] theorem State.modTally_now (f : Tally → Tally) : (s.modTally f).now = s.now := rfl
@[simp] theorem State.modTally_cfg (f : Tally → Tally) : (s.modTally f).cfg = s.cfg := rfl
@[simp] theorem State.modTally_cfgFrom (f : Tally → Tally) : (s.modTally f).cfgFrom = s.cfgFrom := rfl
@[simp] theorem State.modTally_store (f : Tally → Tally) : (s.modTally f).store = s.store := rfl
@[simp] theorem State.modTally_chans (f : Tally → Tally) : (s.modTally f).chans = s.chans := rfl
@[simp] theorem State.modTally_budget (f : Tally → Tally) : (s.modTally f).budget = s.budget := rfl
@[simp] theorem State.modTally_run (f : Tally → Tally) : (s.modTally f).run = s.run := rfl
@[simp] theorem State.modTally_shelf (f : Tally → Tally) : (s.modTally f).shelf = s.shelf := rfl
@[simp] theorem State.modTally_source (f : Tally → Tally) : (s.modTally f).source = s.source := rfl
@[simp] theorem State.modTally_zones (f : Tally → Tally) : (s.modTally f).zones = s.zones := rfl
@[simp] theorem State.modTally_scan (f : Tally → Tally) : (s.modTally f).scan = s.scan := rfl
@[simp] theorem State.modTally_resp (f : Tally → Tally) : (s.modTally f).resp = s.resp := rfl
@[simp] theorem State.modTally_link (f : Tally → Tally) : (s.modTally f).link = s.link := rfl
@[simp] theorem State.modTally_tally (f : Tally → Tally) : (s.modTally f).tally = f s.tally := rfl
@[simp] theorem State.modTally_cause (f : Tally → Tally) : (s.modTally f).cause = s.cause := rfl
@[simp] theorem State.modTally_work (f : Tally → Tally) : (s.modTally f).work = s.work := rfl
@[simp] theorem State.modTally_orders (f : Tally → Tally) : (s.modTally f).orders = s.orders := rfl
@[simp] theorem State.modTally_pending (f : Tally → Tally) : (s.modTally f).pending = s.pending := rfl

/-! ### modWork -/

@[simp] theorem State.modWork_power (f : Work → Work) : (s.modWork f).power = s.power := rfl
@[simp] theorem State.modWork_now (f : Work → Work) : (s.modWork f).now = s.now := rfl
@[simp] theorem State.modWork_cfg (f : Work → Work) : (s.modWork f).cfg = s.cfg := rfl
@[simp] theorem State.modWork_cfgFrom (f : Work → Work) : (s.modWork f).cfgFrom = s.cfgFrom := rfl
@[simp] theorem State.modWork_store (f : Work → Work) : (s.modWork f).store = s.store := rfl
@[simp] theorem State.modWork_chans (f : Work → Work) : (s.modWork f).chans = s.chans := rfl
@[simp] theorem State.modWork_budget (f : Work → Work) : (s.modWork f).budget = s.budget := rfl
@[simp] theorem State.modWork_run (f : Work → Work) : (s.modWork f).run = s.run := rfl
@[simp] theorem State.modWork_shelf (f : Work → Work) : (s.modWork f).shelf = s.shelf := rfl
@[simp] theorem State.modWork_source (f : Work → Work) : (s.modWork f).source = s.source := rfl
@[simp] theorem State.modWork_zones (f : Work → Work) : (s.modWork f).zones = s.zones := rfl
@[simp] theorem State.modWork_scan (f : Work → Work) : (s.modWork f).scan = s.scan := rfl
@[simp] theorem State.modWork_resp (f : Work → Work) : (s.modWork f).resp = s.resp := rfl
@[simp] theorem State.modWork_link (f : Work → Work) : (s.modWork f).link = s.link := rfl
@[simp] theorem State.modWork_tally (f : Work → Work) : (s.modWork f).tally = s.tally := rfl
@[simp] theorem State.modWork_cause (f : Work → Work) : (s.modWork f).cause = s.cause := rfl
@[simp] theorem State.modWork_work (f : Work → Work) : (s.modWork f).work = f s.work := rfl
@[simp] theorem State.modWork_orders (f : Work → Work) : (s.modWork f).orders = s.orders := rfl
@[simp] theorem State.modWork_pending (f : Work → Work) : (s.modWork f).pending = s.pending := rfl

/-! ### modCfg -/

@[simp] theorem State.modCfg_power (f : WorkCfg → WorkCfg) : (s.modCfg f).power = s.power := rfl
@[simp] theorem State.modCfg_now (f : WorkCfg → WorkCfg) : (s.modCfg f).now = s.now := rfl
@[simp] theorem State.modCfg_cfg (f : WorkCfg → WorkCfg) : (s.modCfg f).cfg = f s.cfg := rfl
@[simp] theorem State.modCfg_cfgFrom (f : WorkCfg → WorkCfg) : (s.modCfg f).cfgFrom = s.cfgFrom := rfl
@[simp] theorem State.modCfg_store (f : WorkCfg → WorkCfg) : (s.modCfg f).store = s.store := rfl
@[simp] theorem State.modCfg_chans (f : WorkCfg → WorkCfg) : (s.modCfg f).chans = s.chans := rfl
@[simp] theorem State.modCfg_budget (f : WorkCfg → WorkCfg) : (s.modCfg f).budget = s.budget := rfl
@[simp] theorem State.modCfg_run (f : WorkCfg → WorkCfg) : (s.modCfg f).run = s.run := rfl
@[simp] theorem State.modCfg_shelf (f : WorkCfg → WorkCfg) : (s.modCfg f).shelf = s.shelf := rfl
@[simp] theorem State.modCfg_source (f : WorkCfg → WorkCfg) : (s.modCfg f).source = s.source := rfl
@[simp] theorem State.modCfg_zones (f : WorkCfg → WorkCfg) : (s.modCfg f).zones = s.zones := rfl
@[simp] theorem State.modCfg_scan (f : WorkCfg → WorkCfg) : (s.modCfg f).scan = s.scan := rfl
@[simp] theorem State.modCfg_resp (f : WorkCfg → WorkCfg) : (s.modCfg f).resp = s.resp := rfl
@[simp] theorem State.modCfg_link (f : WorkCfg → WorkCfg) : (s.modCfg f).link = s.link := rfl
@[simp] theorem State.modCfg_tally (f : WorkCfg → WorkCfg) : (s.modCfg f).tally = s.tally := rfl
@[simp] theorem State.modCfg_cause (f : WorkCfg → WorkCfg) : (s.modCfg f).cause = s.cause := rfl
@[simp] theorem State.modCfg_work (f : WorkCfg → WorkCfg) : (s.modCfg f).work = s.work := rfl
@[simp] theorem State.modCfg_orders (f : WorkCfg → WorkCfg) : (s.modCfg f).orders = s.orders := rfl
@[simp] theorem State.modCfg_pending (f : WorkCfg → WorkCfg) : (s.modCfg f).pending = s.pending := rfl

/-! ### modRun -/

@[simp] theorem State.modRun_power (f : Run → Run) : (s.modRun f).power = s.power := rfl
@[simp] theorem State.modRun_now (f : Run → Run) : (s.modRun f).now = s.now := rfl
@[simp] theorem State.modRun_cfg (f : Run → Run) : (s.modRun f).cfg = s.cfg := rfl
@[simp] theorem State.modRun_cfgFrom (f : Run → Run) : (s.modRun f).cfgFrom = s.cfgFrom := rfl
@[simp] theorem State.modRun_store (f : Run → Run) : (s.modRun f).store = s.store := rfl
@[simp] theorem State.modRun_chans (f : Run → Run) : (s.modRun f).chans = s.chans := rfl
@[simp] theorem State.modRun_budget (f : Run → Run) : (s.modRun f).budget = s.budget := rfl
@[simp] theorem State.modRun_run (f : Run → Run) : (s.modRun f).run = s.run.map f := rfl
@[simp] theorem State.modRun_shelf (f : Run → Run) : (s.modRun f).shelf = s.shelf := rfl
@[simp] theorem State.modRun_source (f : Run → Run) : (s.modRun f).source = s.source := rfl
@[simp] theorem State.modRun_zones (f : Run → Run) : (s.modRun f).zones = s.zones := rfl
@[simp] theorem State.modRun_scan (f : Run → Run) : (s.modRun f).scan = s.scan := rfl
@[simp] theorem State.modRun_resp (f : Run → Run) : (s.modRun f).resp = s.resp := rfl
@[simp] theorem State.modRun_link (f : Run → Run) : (s.modRun f).link = s.link := rfl
@[simp] theorem State.modRun_tally (f : Run → Run) : (s.modRun f).tally = s.tally := rfl
@[simp] theorem State.modRun_cause (f : Run → Run) : (s.modRun f).cause = s.cause := rfl
@[simp] theorem State.modRun_work (f : Run → Run) : (s.modRun f).work = s.work := rfl
@[simp] theorem State.modRun_orders (f : Run → Run) : (s.modRun f).orders = s.orders := rfl
@[simp] theorem State.modRun_pending (f : Run → Run) : (s.modRun f).pending = s.pending := rfl

/-! ### setRun -/

@[simp] theorem State.setRun_power (r : Option Run) : (s.setRun r).power = s.power := rfl
@[simp] theorem State.setRun_now (r : Option Run) : (s.setRun r).now = s.now := rfl
@[simp] theorem State.setRun_cfg (r : Option Run) : (s.setRun r).cfg = s.cfg := rfl
@[simp] theorem State.setRun_cfgFrom (r : Option Run) : (s.setRun r).cfgFrom = s.cfgFrom := rfl
@[simp] theorem State.setRun_store (r : Option Run) : (s.setRun r).store = s.store := rfl
@[simp] theorem State.setRun_chans (r : Option Run) : (s.setRun r).chans = s.chans := rfl
@[simp] theorem State.setRun_budget (r : Option Run) : (s.setRun r).budget = s.budget := rfl
@[simp] theorem State.setRun_run (r : Option Run) : (s.setRun r).run = r := rfl
@[simp] theorem State.setRun_shelf (r : Option Run) : (s.setRun r).shelf = s.shelf := rfl
@[simp] theorem State.setRun_source (r : Option Run) : (s.setRun r).source = s.source := rfl
@[simp] theorem State.setRun_zones (r : Option Run) : (s.setRun r).zones = s.zones := rfl
@[simp] theorem State.setRun_scan (r : Option Run) : (s.setRun r).scan = s.scan := rfl
@[simp] theorem State.setRun_resp (r : Option Run) : (s.setRun r).resp = s.resp := rfl
@[simp] theorem State.setRun_link (r : Option Run) : (s.setRun r).link = s.link := rfl
@[simp] theorem State.setRun_tally (r : Option Run) : (s.setRun r).tally = s.tally := rfl
@[simp] theorem State.setRun_cause (r : Option Run) : (s.setRun r).cause = s.cause := rfl
@[simp] theorem State.setRun_work (r : Option Run) : (s.setRun r).work = s.work := rfl
@[simp] theorem State.setRun_orders (r : Option Run) : (s.setRun r).orders = s.orders := rfl
@[simp] theorem State.setRun_pending (r : Option Run) : (s.setRun r).pending = s.pending := rfl

/-! ### setStore -/

@[simp] theorem State.setStore_power (x : Store) : (s.setStore x).power = s.power := rfl
@[simp] theorem State.setStore_now (x : Store) : (s.setStore x).now = s.now := rfl
@[simp] theorem State.setStore_cfg (x : Store) : (s.setStore x).cfg = s.cfg := rfl
@[simp] theorem State.setStore_cfgFrom (x : Store) : (s.setStore x).cfgFrom = s.cfgFrom := rfl
@[simp] theorem State.setStore_store (x : Store) : (s.setStore x).store = x := rfl
@[simp] theorem State.setStore_chans (x : Store) : (s.setStore x).chans = s.chans := rfl
@[simp] theorem State.setStore_budget (x : Store) : (s.setStore x).budget = s.budget := rfl
@[simp] theorem State.setStore_run (x : Store) : (s.setStore x).run = s.run := rfl
@[simp] theorem State.setStore_shelf (x : Store) : (s.setStore x).shelf = s.shelf := rfl
@[simp] theorem State.setStore_source (x : Store) : (s.setStore x).source = s.source := rfl
@[simp] theorem State.setStore_zones (x : Store) : (s.setStore x).zones = s.zones := rfl
@[simp] theorem State.setStore_scan (x : Store) : (s.setStore x).scan = s.scan := rfl
@[simp] theorem State.setStore_resp (x : Store) : (s.setStore x).resp = s.resp := rfl
@[simp] theorem State.setStore_link (x : Store) : (s.setStore x).link = s.link := rfl
@[simp] theorem State.setStore_tally (x : Store) : (s.setStore x).tally = s.tally := rfl
@[simp] theorem State.setStore_cause (x : Store) : (s.setStore x).cause = s.cause := rfl
@[simp] theorem State.setStore_work (x : Store) : (s.setStore x).work = s.work := rfl
@[simp] theorem State.setStore_orders (x : Store) : (s.setStore x).orders = s.orders := rfl
@[simp] theorem State.setStore_pending (x : Store) : (s.setStore x).pending = s.pending := rfl

/-! ### setScan -/

@[simp] theorem State.setScan_power (t : Option Timer) : (s.setScan t).power = s.power := rfl
@[simp] theorem State.setScan_now (t : Option Timer) : (s.setScan t).now = s.now := rfl
@[simp] theorem State.setScan_cfg (t : Option Timer) : (s.setScan t).cfg = s.cfg := rfl
@[simp] theorem State.setScan_cfgFrom (t : Option Timer) : (s.setScan t).cfgFrom = s.cfgFrom := rfl
@[simp] theorem State.setScan_store (t : Option Timer) : (s.setScan t).store = s.store := rfl
@[simp] theorem State.setScan_chans (t : Option Timer) : (s.setScan t).chans = s.chans := rfl
@[simp] theorem State.setScan_budget (t : Option Timer) : (s.setScan t).budget = s.budget := rfl
@[simp] theorem State.setScan_run (t : Option Timer) : (s.setScan t).run = s.run := rfl
@[simp] theorem State.setScan_shelf (t : Option Timer) : (s.setScan t).shelf = s.shelf := rfl
@[simp] theorem State.setScan_source (t : Option Timer) : (s.setScan t).source = s.source := rfl
@[simp] theorem State.setScan_zones (t : Option Timer) : (s.setScan t).zones = s.zones := rfl
@[simp] theorem State.setScan_scan (t : Option Timer) : (s.setScan t).scan = t := rfl
@[simp] theorem State.setScan_resp (t : Option Timer) : (s.setScan t).resp = s.resp := rfl
@[simp] theorem State.setScan_link (t : Option Timer) : (s.setScan t).link = s.link := rfl
@[simp] theorem State.setScan_tally (t : Option Timer) : (s.setScan t).tally = s.tally := rfl
@[simp] theorem State.setScan_cause (t : Option Timer) : (s.setScan t).cause = s.cause := rfl
@[simp] theorem State.setScan_work (t : Option Timer) : (s.setScan t).work = s.work := rfl
@[simp] theorem State.setScan_orders (t : Option Timer) : (s.setScan t).orders = s.orders := rfl
@[simp] theorem State.setScan_pending (t : Option Timer) : (s.setScan t).pending = s.pending := rfl

/-! ### modCh -/

@[simp] theorem State.modCh_power (c : Ch) (f : Channel → Channel) : (s.modCh c f).power = s.power := rfl
@[simp] theorem State.modCh_now (c : Ch) (f : Channel → Channel) : (s.modCh c f).now = s.now := rfl
@[simp] theorem State.modCh_cfg (c : Ch) (f : Channel → Channel) : (s.modCh c f).cfg = s.cfg := rfl
@[simp] theorem State.modCh_cfgFrom (c : Ch) (f : Channel → Channel) : (s.modCh c f).cfgFrom = s.cfgFrom := rfl
@[simp] theorem State.modCh_store (c : Ch) (f : Channel → Channel) : (s.modCh c f).store = s.store := rfl
@[simp] theorem State.modCh_chans (c : Ch) (f : Channel → Channel) : (s.modCh c f).chans = s.chans.set c (f s.chans[c]) := rfl
@[simp] theorem State.modCh_budget (c : Ch) (f : Channel → Channel) : (s.modCh c f).budget = s.budget := rfl
@[simp] theorem State.modCh_run (c : Ch) (f : Channel → Channel) : (s.modCh c f).run = s.run := rfl
@[simp] theorem State.modCh_shelf (c : Ch) (f : Channel → Channel) : (s.modCh c f).shelf = s.shelf := rfl
@[simp] theorem State.modCh_source (c : Ch) (f : Channel → Channel) : (s.modCh c f).source = s.source := rfl
@[simp] theorem State.modCh_zones (c : Ch) (f : Channel → Channel) : (s.modCh c f).zones = s.zones := rfl
@[simp] theorem State.modCh_scan (c : Ch) (f : Channel → Channel) : (s.modCh c f).scan = s.scan := rfl
@[simp] theorem State.modCh_resp (c : Ch) (f : Channel → Channel) : (s.modCh c f).resp = s.resp := rfl
@[simp] theorem State.modCh_link (c : Ch) (f : Channel → Channel) : (s.modCh c f).link = s.link := rfl
@[simp] theorem State.modCh_tally (c : Ch) (f : Channel → Channel) : (s.modCh c f).tally = s.tally := rfl
@[simp] theorem State.modCh_cause (c : Ch) (f : Channel → Channel) : (s.modCh c f).cause = s.cause := rfl
@[simp] theorem State.modCh_work (c : Ch) (f : Channel → Channel) : (s.modCh c f).work = s.work := rfl
@[simp] theorem State.modCh_orders (c : Ch) (f : Channel → Channel) : (s.modCh c f).orders = s.orders := rfl
@[simp] theorem State.modCh_pending (c : Ch) (f : Channel → Channel) : (s.modCh c f).pending = s.pending := rfl

/-! ### modZone -/

@[simp] theorem State.modZone_power (c : Zone) (f : ZoneRec → ZoneRec) : (s.modZone c f).power = s.power := rfl
@[simp] theorem State.modZone_now (c : Zone) (f : ZoneRec → ZoneRec) : (s.modZone c f).now = s.now := rfl
@[simp] theorem State.modZone_cfg (c : Zone) (f : ZoneRec → ZoneRec) : (s.modZone c f).cfg = s.cfg := rfl
@[simp] theorem State.modZone_cfgFrom (c : Zone) (f : ZoneRec → ZoneRec) : (s.modZone c f).cfgFrom = s.cfgFrom := rfl
@[simp] theorem State.modZone_store (c : Zone) (f : ZoneRec → ZoneRec) : (s.modZone c f).store = s.store := rfl
@[simp] theorem State.modZone_chans (c : Zone) (f : ZoneRec → ZoneRec) : (s.modZone c f).chans = s.chans := rfl
@[simp] theorem State.modZone_budget (c : Zone) (f : ZoneRec → ZoneRec) : (s.modZone c f).budget = s.budget := rfl
@[simp] theorem State.modZone_run (c : Zone) (f : ZoneRec → ZoneRec) : (s.modZone c f).run = s.run := rfl
@[simp] theorem State.modZone_shelf (c : Zone) (f : ZoneRec → ZoneRec) : (s.modZone c f).shelf = s.shelf := rfl
@[simp] theorem State.modZone_source (c : Zone) (f : ZoneRec → ZoneRec) : (s.modZone c f).source = s.source := rfl
@[simp] theorem State.modZone_zones (c : Zone) (f : ZoneRec → ZoneRec) : (s.modZone c f).zones = s.zones.set c (f s.zones[c]) := rfl
@[simp] theorem State.modZone_scan (c : Zone) (f : ZoneRec → ZoneRec) : (s.modZone c f).scan = s.scan := rfl
@[simp] theorem State.modZone_resp (c : Zone) (f : ZoneRec → ZoneRec) : (s.modZone c f).resp = s.resp := rfl
@[simp] theorem State.modZone_link (c : Zone) (f : ZoneRec → ZoneRec) : (s.modZone c f).link = s.link := rfl
@[simp] theorem State.modZone_tally (c : Zone) (f : ZoneRec → ZoneRec) : (s.modZone c f).tally = s.tally := rfl
@[simp] theorem State.modZone_cause (c : Zone) (f : ZoneRec → ZoneRec) : (s.modZone c f).cause = s.cause := rfl
@[simp] theorem State.modZone_work (c : Zone) (f : ZoneRec → ZoneRec) : (s.modZone c f).work = s.work := rfl
@[simp] theorem State.modZone_orders (c : Zone) (f : ZoneRec → ZoneRec) : (s.modZone c f).orders = s.orders := rfl
@[simp] theorem State.modZone_pending (c : Zone) (f : ZoneRec → ZoneRec) : (s.modZone c f).pending = s.pending := rfl

/-! ### modRect -/

@[simp] theorem State.modRect_power (n : RmSlot) (f : Rect → Rect) : (s.modRect n f).power = s.power := rfl
@[simp] theorem State.modRect_now (n : RmSlot) (f : Rect → Rect) : (s.modRect n f).now = s.now := rfl
@[simp] theorem State.modRect_cfg (n : RmSlot) (f : Rect → Rect) : (s.modRect n f).cfg = s.cfg := rfl
@[simp] theorem State.modRect_cfgFrom (n : RmSlot) (f : Rect → Rect) : (s.modRect n f).cfgFrom = s.cfgFrom := rfl
@[simp] theorem State.modRect_store (n : RmSlot) (f : Rect → Rect) : (s.modRect n f).store = s.store := rfl
@[simp] theorem State.modRect_chans (n : RmSlot) (f : Rect → Rect) : (s.modRect n f).chans = s.chans := rfl
@[simp] theorem State.modRect_budget (n : RmSlot) (f : Rect → Rect) : (s.modRect n f).budget = s.budget := rfl
@[simp] theorem State.modRect_run (n : RmSlot) (f : Rect → Rect) : (s.modRect n f).run = s.run := rfl
@[simp] theorem State.modRect_source (n : RmSlot) (f : Rect → Rect) : (s.modRect n f).source = s.source := rfl
@[simp] theorem State.modRect_zones (n : RmSlot) (f : Rect → Rect) : (s.modRect n f).zones = s.zones := rfl
@[simp] theorem State.modRect_scan (n : RmSlot) (f : Rect → Rect) : (s.modRect n f).scan = s.scan := rfl
@[simp] theorem State.modRect_resp (n : RmSlot) (f : Rect → Rect) : (s.modRect n f).resp = s.resp := rfl
@[simp] theorem State.modRect_link (n : RmSlot) (f : Rect → Rect) : (s.modRect n f).link = s.link := rfl
@[simp] theorem State.modRect_tally (n : RmSlot) (f : Rect → Rect) : (s.modRect n f).tally = s.tally := rfl
@[simp] theorem State.modRect_cause (n : RmSlot) (f : Rect → Rect) : (s.modRect n f).cause = s.cause := rfl
@[simp] theorem State.modRect_work (n : RmSlot) (f : Rect → Rect) : (s.modRect n f).work = s.work := rfl
@[simp] theorem State.modRect_orders (n : RmSlot) (f : Rect → Rect) : (s.modRect n f).orders = s.orders := rfl
@[simp] theorem State.modRect_pending (n : RmSlot) (f : Rect → Rect) : (s.modRect n f).pending = s.pending := rfl

/-! ### modBatt -/

@[simp] theorem State.modBatt_power (n : BmSlot) (f : Batt → Batt) : (s.modBatt n f).power = s.power := rfl
@[simp] theorem State.modBatt_now (n : BmSlot) (f : Batt → Batt) : (s.modBatt n f).now = s.now := rfl
@[simp] theorem State.modBatt_cfg (n : BmSlot) (f : Batt → Batt) : (s.modBatt n f).cfg = s.cfg := rfl
@[simp] theorem State.modBatt_cfgFrom (n : BmSlot) (f : Batt → Batt) : (s.modBatt n f).cfgFrom = s.cfgFrom := rfl
@[simp] theorem State.modBatt_store (n : BmSlot) (f : Batt → Batt) : (s.modBatt n f).store = s.store := rfl
@[simp] theorem State.modBatt_chans (n : BmSlot) (f : Batt → Batt) : (s.modBatt n f).chans = s.chans := rfl
@[simp] theorem State.modBatt_budget (n : BmSlot) (f : Batt → Batt) : (s.modBatt n f).budget = s.budget := rfl
@[simp] theorem State.modBatt_run (n : BmSlot) (f : Batt → Batt) : (s.modBatt n f).run = s.run := rfl
@[simp] theorem State.modBatt_source (n : BmSlot) (f : Batt → Batt) : (s.modBatt n f).source = s.source := rfl
@[simp] theorem State.modBatt_zones (n : BmSlot) (f : Batt → Batt) : (s.modBatt n f).zones = s.zones := rfl
@[simp] theorem State.modBatt_scan (n : BmSlot) (f : Batt → Batt) : (s.modBatt n f).scan = s.scan := rfl
@[simp] theorem State.modBatt_resp (n : BmSlot) (f : Batt → Batt) : (s.modBatt n f).resp = s.resp := rfl
@[simp] theorem State.modBatt_link (n : BmSlot) (f : Batt → Batt) : (s.modBatt n f).link = s.link := rfl
@[simp] theorem State.modBatt_tally (n : BmSlot) (f : Batt → Batt) : (s.modBatt n f).tally = s.tally := rfl
@[simp] theorem State.modBatt_cause (n : BmSlot) (f : Batt → Batt) : (s.modBatt n f).cause = s.cause := rfl
@[simp] theorem State.modBatt_work (n : BmSlot) (f : Batt → Batt) : (s.modBatt n f).work = s.work := rfl
@[simp] theorem State.modBatt_orders (n : BmSlot) (f : Batt → Batt) : (s.modBatt n f).orders = s.orders := rfl
@[simp] theorem State.modBatt_pending (n : BmSlot) (f : Batt → Batt) : (s.modBatt n f).pending = s.pending := rfl

/-! ### modValve -/

@[simp] theorem State.modValve_power (n : ValveIx) (f : Valve → Valve) : (s.modValve n f).power = s.power := rfl
@[simp] theorem State.modValve_now (n : ValveIx) (f : Valve → Valve) : (s.modValve n f).now = s.now := rfl
@[simp] theorem State.modValve_cfg (n : ValveIx) (f : Valve → Valve) : (s.modValve n f).cfg = s.cfg := rfl
@[simp] theorem State.modValve_cfgFrom (n : ValveIx) (f : Valve → Valve) : (s.modValve n f).cfgFrom = s.cfgFrom := rfl
@[simp] theorem State.modValve_store (n : ValveIx) (f : Valve → Valve) : (s.modValve n f).store = s.store := rfl
@[simp] theorem State.modValve_chans (n : ValveIx) (f : Valve → Valve) : (s.modValve n f).chans = s.chans := rfl
@[simp] theorem State.modValve_budget (n : ValveIx) (f : Valve → Valve) : (s.modValve n f).budget = s.budget := rfl
@[simp] theorem State.modValve_run (n : ValveIx) (f : Valve → Valve) : (s.modValve n f).run = s.run := rfl
@[simp] theorem State.modValve_shelf (n : ValveIx) (f : Valve → Valve) : (s.modValve n f).shelf = s.shelf := rfl
@[simp] theorem State.modValve_source (n : ValveIx) (f : Valve → Valve) : (s.modValve n f).source = s.source := rfl
@[simp] theorem State.modValve_zones (n : ValveIx) (f : Valve → Valve) : (s.modValve n f).zones = s.zones := rfl
@[simp] theorem State.modValve_scan (n : ValveIx) (f : Valve → Valve) : (s.modValve n f).scan = s.scan := rfl
@[simp] theorem State.modValve_link (n : ValveIx) (f : Valve → Valve) : (s.modValve n f).link = s.link := rfl
@[simp] theorem State.modValve_tally (n : ValveIx) (f : Valve → Valve) : (s.modValve n f).tally = s.tally := rfl
@[simp] theorem State.modValve_cause (n : ValveIx) (f : Valve → Valve) : (s.modValve n f).cause = s.cause := rfl
@[simp] theorem State.modValve_work (n : ValveIx) (f : Valve → Valve) : (s.modValve n f).work = s.work := rfl
@[simp] theorem State.modValve_orders (n : ValveIx) (f : Valve → Valve) : (s.modValve n f).orders = s.orders := rfl
@[simp] theorem State.modValve_pending (n : ValveIx) (f : Valve → Valve) : (s.modValve n f).pending = s.pending := rfl

/-! ### modPort -/

@[simp] theorem State.modPort_power (n : Port) (f : PortCtx → PortCtx) : (s.modPort n f).power = s.power := rfl
@[simp] theorem State.modPort_now (n : Port) (f : PortCtx → PortCtx) : (s.modPort n f).now = s.now := rfl
@[simp] theorem State.modPort_cfg (n : Port) (f : PortCtx → PortCtx) : (s.modPort n f).cfg = s.cfg := rfl
@[simp] theorem State.modPort_cfgFrom (n : Port) (f : PortCtx → PortCtx) : (s.modPort n f).cfgFrom = s.cfgFrom := rfl
@[simp] theorem State.modPort_store (n : Port) (f : PortCtx → PortCtx) : (s.modPort n f).store = s.store := rfl
@[simp] theorem State.modPort_chans (n : Port) (f : PortCtx → PortCtx) : (s.modPort n f).chans = s.chans := rfl
@[simp] theorem State.modPort_budget (n : Port) (f : PortCtx → PortCtx) : (s.modPort n f).budget = s.budget := rfl
@[simp] theorem State.modPort_run (n : Port) (f : PortCtx → PortCtx) : (s.modPort n f).run = s.run := rfl
@[simp] theorem State.modPort_shelf (n : Port) (f : PortCtx → PortCtx) : (s.modPort n f).shelf = s.shelf := rfl
@[simp] theorem State.modPort_source (n : Port) (f : PortCtx → PortCtx) : (s.modPort n f).source = s.source := rfl
@[simp] theorem State.modPort_zones (n : Port) (f : PortCtx → PortCtx) : (s.modPort n f).zones = s.zones := rfl
@[simp] theorem State.modPort_scan (n : Port) (f : PortCtx → PortCtx) : (s.modPort n f).scan = s.scan := rfl
@[simp] theorem State.modPort_resp (n : Port) (f : PortCtx → PortCtx) : (s.modPort n f).resp = s.resp := rfl
@[simp] theorem State.modPort_tally (n : Port) (f : PortCtx → PortCtx) : (s.modPort n f).tally = s.tally := rfl
@[simp] theorem State.modPort_cause (n : Port) (f : PortCtx → PortCtx) : (s.modPort n f).cause = s.cause := rfl
@[simp] theorem State.modPort_work (n : Port) (f : PortCtx → PortCtx) : (s.modPort n f).work = s.work := rfl
@[simp] theorem State.modPort_orders (n : Port) (f : PortCtx → PortCtx) : (s.modPort n f).orders = s.orders := rfl
@[simp] theorem State.modPort_pending (n : Port) (f : PortCtx → PortCtx) : (s.modPort n f).pending = s.pending := rfl

/-! ### Channels, zones, slots, valves and ports -/

@[simp] theorem State.modCh_ch_same (c : Ch) (f : Channel → Channel) : (s.modCh c f).ch c = f (s.ch c) := by
  simp [State.ch]

theorem State.modCh_ch_other {c d : Ch} (f : Channel → Channel) (h : d ≠ c) : (s.modCh c f).ch d = s.ch d := by
  have : c.val ≠ d.val := fun e => h (Fin.ext e.symm)
  simp [State.ch, Vector.getElem_set_ne, this]

/-- The record of any channel after one channel is changed. -/
theorem State.modCh_ch (c d : Ch) (f : Channel → Channel) :
    (s.modCh c f).ch d = if d = c then f (s.ch c) else s.ch d := by
  split
  · next h => subst h; exact s.modCh_ch_same d f
  · next h => exact s.modCh_ch_other f h

@[simp] theorem State.modCh_chCfg (c d : Ch) (f : Channel → Channel) : (s.modCh c f).chCfg d = s.chCfg d := rfl

@[simp] theorem State.modZone_zone_same (z : Zone) (f : ZoneRec → ZoneRec) :
    (s.modZone z f).zones[z] = f s.zones[z] := by simp

theorem State.modZone_zone_other {z y : Zone} (f : ZoneRec → ZoneRec) (h : y ≠ z) :
    (s.modZone z f).zones[y] = s.zones[y] := by
  have : z.val ≠ y.val := fun e => h (Fin.ext e.symm)
  simp [Vector.getElem_set_ne, this]

@[simp] theorem State.modValve_same (v : ValveIx) (f : Valve → Valve) :
    (s.modValve v f).resp.valve[v] = f s.resp.valve[v] := by simp [State.modValve]

theorem State.modValve_other {v u : ValveIx} (f : Valve → Valve) (h : u ≠ v) :
    (s.modValve v f).resp.valve[u] = s.resp.valve[u] := by
  have : v.val ≠ u.val := fun e => h (Fin.ext e.symm)
  simp [State.modValve, Vector.getElem_set_ne, this]

@[simp] theorem State.modRect_same (n : RmSlot) (f : Rect → Rect) :
    (s.modRect n f).shelf.rect[n] = f s.shelf.rect[n] := by simp [State.modRect]

@[simp] theorem State.modBatt_same (n : BmSlot) (f : Batt → Batt) :
    (s.modBatt n f).shelf.batt[n] = f s.shelf.batt[n] := by simp [State.modBatt]

@[simp] theorem State.modPort_port_same (p : Port) (f : PortCtx → PortCtx) :
    (s.modPort p f).port p = f (s.port p) := by cases p <;> rfl

/-- The other port is untouched (09, 9.1). -/
theorem State.modPort_port_other {p q : Port} (f : PortCtx → PortCtx) (h : q ≠ p) :
    (s.modPort p f).port q = s.port q := by
  cases p <;> cases q <;> first | rfl | exact absurd rfl h

/-! ### Lists and loops -/

/-- A property that each turn of a loop keeps, the loop keeps. -/
theorem forEach_keeps {α : Type} (P : State → Prop) (f : α → State → State) (h : ∀ a s, P s → P (f a s)) :
    ∀ (l : List α) (s : State), P s → P (forEach l f s)
  | [], _, hs => hs
  | a :: l, s, hs => forEach_keeps P f h l (f a s) (h a s hs)

/-- A value that each turn of a loop leaves alone, the loop leaves alone. -/
theorem forEach_same {α β : Type} (π : State → β) (f : α → State → State) (h : ∀ a s, π (f a s) = π s)
    (l : List α) (s : State) : π (forEach l f s) = π s :=
  forEach_keeps (fun t => π t = π s) f (fun a t ht => (h a t).trans ht) l s rfl

/-- Membership in a set after an element is added. -/
theorem mem_setInsert {n : Nat} (a b : Fin n) (l : List (Fin n)) : b ∈ setInsert a l ↔ b = a ∨ b ∈ l := by
  induction l with
  | nil => simp [setInsert]
  | cons x l ih =>
    simp only [setInsert]
    split
    · simp
    · split
      · next h => subst h; simp
      · simp only [List.mem_cons, ih]; tauto

/-- Membership in a set after an element is taken out. -/
theorem mem_setErase {n : Nat} (a b : Fin n) (l : List (Fin n)) : b ∈ setErase a l ↔ b ≠ a ∧ b ∈ l := by
  simp [setErase, and_comm]

end Sys2Proof.Machine
end

