-- ==== Sys2Proof/Laws/Channels.lean ====
section
/-! SUPPORT. What the shared operations over reports and channel states can do, each said once. -/

namespace Sys2Proof.Machine

/-! ### Reports and tallies -/

/-- Counting an event changes the tallies alone. -/
theorem count_spec (e : TallyEvent) (s : State) : count e s = { s with tally := s.tally.take e } := rfl

/-- A report that joins a port's queue changes that port and the tallies alone. -/
theorem joinReport_spec (p : Port) (r : Report) (s : State) :
    joinReport p r s =
      { s with link := (joinReport p r s).link, tally := (joinReport p r s).tally } := by
  simp only [joinReport]
  split <;> rfl

/-- Raising a report changes the ports, the condition summary and the tallies alone. -/
theorem raise_spec (k : ReportKind) (a b c : Option Nat) (s : State) :
    raise k a b c s = { s with link := (raise k a b c s).link, tally := (raise k a b c s).tally } := by
  simp only [raise]
  split
  · rfl
  · rw [joinReport_spec]; rfl
  · rw [joinReport_spec]; rfl
  · rw [joinReport_spec, joinReport_spec .manager]; rfl

theorem joinReport_congr (p : Port) (r : Report) {s t : State} (hl : s.link = t.link) (ht : s.tally = t.tally) :
    (joinReport p r s).link = (joinReport p r t).link ∧ (joinReport p r s).tally = (joinReport p r t).tally := by
  have hp : s.port p = t.port p := by cases p <;> simp only [State.port, hl]
  have hk : ∀ f, (s.modPort p f).link = (t.modPort p f).link := fun f => by
    simp only [State.modPort, State.modLink, hl]
  simp only [joinReport, hp]
  by_cases h : (queueJoin r (t.port p).queue).2 = true
  · simp only [h, if_true]
    exact ⟨hk fun c => { c with queue := (queueJoin r (t.port p).queue).1, lost := satInc 255 c.lost },
      congrArg (Tally.take .reportsLost) ht⟩
  · simp only [h, if_false, Bool.false_eq_true]
    exact ⟨hk _, ht⟩

/-- What a report leaves depends on the time, the routes, the ports and the tallies alone. -/
theorem raise_congr (k : ReportKind) (a b c : Option Nat) {s t : State} (hn : s.now = t.now) (hc : s.cfg = t.cfg)
    (hl : s.link = t.link) (ht : s.tally = t.tally) :
    (raise k a b c s).link = (raise k a b c t).link ∧ (raise k a b c s).tally = (raise k a b c t).tally := by
  have h0 : (s.modLink fun l => { l with flags := l.flags.raise k.group }).link =
      (t.modLink fun l => { l with flags := l.flags.raise k.group }).link := by simp [State.modLink, hl]
  have h1 : (s.modLink fun l => { l with flags := l.flags.raise k.group }).tally =
      (t.modLink fun l => { l with flags := l.flags.raise k.group }).tally := ht
  simp only [raise, State.modLink_cfg, hc, hn]
  split
  · exact ⟨h0, h1⟩
  · exact joinReport_congr _ _ h0 h1
  · exact joinReport_congr _ _ h0 h1
  · have h := joinReport_congr .manager ⟨k, t.now, a, b, c⟩ h0 h1
    exact joinReport_congr _ _ h.1 h.2

theorem joinReport_flags (p : Port) (r : Report) (s : State) : (joinReport p r s).link.flags = s.link.flags := by
  cases p <;> simp only [joinReport] <;> split <;> rfl

/-- A report sets its group's flag and no other (R176). -/
theorem raise_flags (k : ReportKind) (a b c : Option Nat) (s : State) :
    (raise k a b c s).link.flags = s.link.flags.raise k.group := by
  simp only [raise]
  split
  · rfl
  · rw [joinReport_flags]; rfl
  · rw [joinReport_flags]; rfl
  · rw [joinReport_flags, joinReport_flags]; rfl

/-- Each port keeps its lines, its output and its rejected count when a report is raised. -/
theorem joinReport_port (p q : Port) (r : Report) (s : State) :
    ((joinReport p r s).port q).fixed = (s.port q).fixed := by
  cases p <;> cases q <;> simp only [joinReport] <;> split <;> rfl

/-! ### Channel state changes -/

/-- A channel's state change lets a waiting AWAIT ON step complete and does nothing else (R60). -/
theorem noticeChanged_spec (c : Ch) (s : State) :
    noticeChanged c s = s ∨ noticeChanged c s = markPlan .complete s := by
  simp only [noticeChanged]
  split
  · split
    · exact .inr rfl
    · exact .inl rfl
  · exact .inl rfl

/-- All that a channel's entry into a state does: its record, the in-flight set, and what is then due. -/
theorem enterState_spec (c : Ch) (st : ChState) (s : State) :
    ∃ p, enterState c st s =
      { s with
        chans := s.chans.set c ((s.ch c).enter st s.now)
        budget := { s.budget with inflight := inflightAfter c s }
        work := { s.work with
          eval := true, plan := p
          restore := s.work.restore || (decide (st = .off) && (s.ch c).shed) } } := by
  have hs : ∀ t : State, t.chans = (s.modCh c (Channel.enter st s.now)).chans → (t.ch c).shed = (s.ch c).shed := by
    intro t ht
    rw [State.ch, ht, ← State.ch, State.modCh_ch_same]
    rfl
  have notice : ∀ t : State, ∃ p, noticeChanged c t = { t with work := { t.work with plan := p } } := by
    intro t
    rcases noticeChanged_spec c t with h | h <;> exact ⟨_, h⟩
  by_cases h1 : (s.ch c).state = .warning <;> by_cases h2 : st = .off ∧ (s.ch c).shed = true
  · have e : inflightAfter c s = setErase c s.budget.inflight := if_pos h1
    have e2 : (decide (st = .off) && (s.ch c).shed) = true := by simp [h2.1, h2.2]
    simp only [enterState, if_pos h1, e, e2, Bool.or_true]
    rw [if_pos]
    · exact notice _
    · exact ⟨h2.1, (hs _ rfl).trans h2.2⟩
  · have e : inflightAfter c s = setErase c s.budget.inflight := if_pos h1
    have e2 : (decide (st = .off) && (s.ch c).shed) = false := by
      cases h : (decide (st = .off) && (s.ch c).shed)
      · rfl
      · exact absurd (by simpa using h) h2
    simp only [enterState, if_pos h1, e, e2, Bool.or_false]
    rw [if_neg]
    · exact notice _
    · exact fun h => h2 ⟨h.1, (hs _ rfl).symm.trans h.2⟩
  · have e : inflightAfter c s = s.budget.inflight := if_neg h1
    have e2 : (decide (st = .off) && (s.ch c).shed) = true := by simp [h2.1, h2.2]
    simp only [enterState, if_neg h1, e, e2, Bool.or_true]
    rw [if_pos]
    · exact notice _
    · exact ⟨h2.1, (hs _ rfl).trans h2.2⟩
  · have e : inflightAfter c s = s.budget.inflight := if_neg h1
    have e2 : (decide (st = .off) && (s.ch c).shed) = false := by
      cases h : (decide (st = .off) && (s.ch c).shed)
      · rfl
      · exact absurd (by simpa using h) h2
    simp only [enterState, if_neg h1, e, e2, Bool.or_false]
    rw [if_neg]
    · exact notice _
    · exact fun h => h2 ⟨h.1, (hs _ rfl).symm.trans h.2⟩

/-! ### What each of them leaves alone -/

@[simp] theorem count_power (e : TallyEvent) (s : State) : (count e s).power = s.power := rfl
@[simp] theorem count_now (e : TallyEvent) (s : State) : (count e s).now = s.now := rfl
@[simp] theorem count_cfg (e : TallyEvent) (s : State) : (count e s).cfg = s.cfg := rfl
@[simp] theorem count_cfgFrom (e : TallyEvent) (s : State) : (count e s).cfgFrom = s.cfgFrom := rfl
@[simp] theorem count_store (e : TallyEvent) (s : State) : (count e s).store = s.store := rfl
@[simp] theorem count_chans (e : TallyEvent) (s : State) : (count e s).chans = s.chans := rfl
@[simp] theorem count_budget (e : TallyEvent) (s : State) : (count e s).budget = s.budget := rfl
@[simp] theorem count_run (e : TallyEvent) (s : State) : (count e s).run = s.run := rfl
@[simp] theorem count_shelf (e : TallyEvent) (s : State) : (count e s).shelf = s.shelf := rfl
@[simp] theorem count_source (e : TallyEvent) (s : State) : (count e s).source = s.source := rfl
@[simp] theorem count_zones (e : TallyEvent) (s : State) : (count e s).zones = s.zones := rfl
@[simp] theorem count_scan (e : TallyEvent) (s : State) : (count e s).scan = s.scan := rfl
@[simp] theorem count_resp (e : TallyEvent) (s : State) : (count e s).resp = s.resp := rfl
@[simp] theorem count_link (e : TallyEvent) (s : State) : (count e s).link = s.link := rfl
@[simp] theorem count_cause (e : TallyEvent) (s : State) : (count e s).cause = s.cause := rfl
@[simp] theorem count_work (e : TallyEvent) (s : State) : (count e s).work = s.work := rfl
@[simp] theorem count_orders (e : TallyEvent) (s : State) : (count e s).orders = s.orders := rfl
@[simp] theorem count_pending (e : TallyEvent) (s : State) : (count e s).pending = s.pending := rfl

@[simp] theorem raise_power (k : ReportKind) (a b c : Option Nat) (s : State) : (raise k a b c s).power = s.power := by rw [raise_spec]
@[simp] theorem raise_now (k : ReportKind) (a b c : Option Nat) (s : State) : (raise k a b c s).now = s.now := by rw [raise_spec]
@[simp] theorem raise_cfg (k : ReportKind) (a b c : Option Nat) (s : State) : (raise k a b c s).cfg = s.cfg := by rw [raise_spec]
@[simp] theorem raise_cfgFrom (k : ReportKind) (a b c : Option Nat) (s : State) : (raise k a b c s).cfgFrom = s.cfgFrom := by rw [raise_spec]
@[simp] theorem raise_store (k : ReportKind) (a b c : Option Nat) (s : State) : (raise k a b c s).store = s.store := by rw [raise_spec]
@[simp] theorem raise_chans (k : ReportKind) (a b c : Option Nat) (s : State) : (raise k a b c s).chans = s.chans := by rw [raise_spec]
@[simp] theorem raise_budget (k : ReportKind) (a b c : Option Nat) (s : State) : (raise k a b c s).budget = s.budget := by rw [raise_spec]
@[simp] theorem raise_run (k : ReportKind) (a b c : Option Nat) (s : State) : (raise k a b c s).run = s.run := by rw [raise_spec]
@[simp] theorem raise_shelf (k : ReportKind) (a b c : Option Nat) (s : State) : (raise k a b c s).shelf = s.shelf := by rw [raise_spec]
@[simp] theorem raise_source (k : ReportKind) (a b c : Option Nat) (s : State) : (raise k a b c s).source = s.source := by rw [raise_spec]
@[simp] theorem raise_zones (k : ReportKind) (a b c : Option Nat) (s : State) : (raise k a b c s).zones = s.zones := by rw [raise_spec]
@[simp] theorem raise_scan (k : ReportKind) (a b c : Option Nat) (s : State) : (raise k a b c s).scan = s.scan := by rw [raise_spec]
@[simp] theorem raise_resp (k : ReportKind) (a b c : Option Nat) (s : State) : (raise k a b c s).resp = s.resp := by rw [raise_spec]
@[simp] theorem raise_cause (k : ReportKind) (a b c : Option Nat) (s : State) : (raise k a b c s).cause = s.cause := by rw [raise_spec]
@[simp] theorem raise_work (k : ReportKind) (a b c : Option Nat) (s : State) : (raise k a b c s).work = s.work := by rw [raise_spec]
@[simp] theorem raise_orders (k : ReportKind) (a b c : Option Nat) (s : State) : (raise k a b c s).orders = s.orders := by rw [raise_spec]
@[simp] theorem raise_pending (k : ReportKind) (a b c : Option Nat) (s : State) : (raise k a b c s).pending = s.pending := by rw [raise_spec]

@[simp] theorem markEval_power (s : State) : (markEval s).power = s.power := rfl
@[simp] theorem markEval_now (s : State) : (markEval s).now = s.now := rfl
@[simp] theorem markEval_cfg (s : State) : (markEval s).cfg = s.cfg := rfl
@[simp] theorem markEval_cfgFrom (s : State) : (markEval s).cfgFrom = s.cfgFrom := rfl
@[simp] theorem markEval_store (s : State) : (markEval s).store = s.store := rfl
@[simp] theorem markEval_chans (s : State) : (markEval s).chans = s.chans := rfl
@[simp] theorem markEval_budget (s : State) : (markEval s).budget = s.budget := rfl
@[simp] theorem markEval_run (s : State) : (markEval s).run = s.run := rfl
@[simp] theorem markEval_shelf (s : State) : (markEval s).shelf = s.shelf := rfl
@[simp] theorem markEval_source (s : State) : (markEval s).source = s.source := rfl
@[simp] theorem markEval_zones (s : State) : (markEval s).zones = s.zones := rfl
@[simp] theorem markEval_scan (s : State) : (markEval s).scan = s.scan := rfl
@[simp] theorem markEval_resp (s : State) : (markEval s).resp = s.resp := rfl
@[simp] theorem markEval_link (s : State) : (markEval s).link = s.link := rfl
@[simp] theorem markEval_tally (s : State) : (markEval s).tally = s.tally := rfl
@[simp] theorem markEval_cause (s : State) : (markEval s).cause = s.cause := rfl
@[simp] theorem markEval_orders (s : State) : (markEval s).orders = s.orders := rfl
@[simp] theorem markEval_pending (s : State) : (markEval s).pending = s.pending := rfl

@[simp] theorem markExam_power (s : State) : (markExam s).power = s.power := rfl
@[simp] theorem markExam_now (s : State) : (markExam s).now = s.now := rfl
@[simp] theorem markExam_cfg (s : State) : (markExam s).cfg = s.cfg := rfl
@[simp] theorem markExam_cfgFrom (s : State) : (markExam s).cfgFrom = s.cfgFrom := rfl
@[simp] theorem markExam_store (s : State) : (markExam s).store = s.store := rfl
@[simp] theorem markExam_chans (s : State) : (markExam s).chans = s.chans := rfl
@[simp] theorem markExam_budget (s : State) : (markExam s).budget = s.budget := rfl
@[simp] theorem markExam_run (s : State) : (markExam s).run = s.run := rfl
@[simp] theorem markExam_shelf (s : State) : (markExam s).shelf = s.shelf := rfl
@[simp] theorem markExam_source (s : State) : (markExam s).source = s.source := rfl
@[simp] theorem markExam_zones (s : State) : (markExam s).zones = s.zones := rfl
@[simp] theorem markExam_scan (s : State) : (markExam s).scan = s.scan := rfl
@[simp] theorem markExam_resp (s : State) : (markExam s).resp = s.resp := rfl
@[simp] theorem markExam_link (s : State) : (markExam s).link = s.link := rfl
@[simp] theorem markExam_tally (s : State) : (markExam s).tally = s.tally := rfl
@[simp] theorem markExam_cause (s : State) : (markExam s).cause = s.cause := rfl
@[simp] theorem markExam_orders (s : State) : (markExam s).orders = s.orders := rfl
@[simp] theorem markExam_pending (s : State) : (markExam s).pending = s.pending := rfl

@[simp] theorem markRide_power (s : State) : (markRide s).power = s.power := rfl
@[simp] theorem markRide_now (s : State) : (markRide s).now = s.now := rfl
@[simp] theorem markRide_cfg (s : State) : (markRide s).cfg = s.cfg := rfl
@[simp] theorem markRide_cfgFrom (s : State) : (markRide s).cfgFrom = s.cfgFrom := rfl
@[simp] theorem markRide_store (s : State) : (markRide s).store = s.store := rfl
@[simp] theorem markRide_chans (s : State) : (markRide s).chans = s.chans := rfl
@[simp] theorem markRide_budget (s : State) : (markRide s).budget = s.budget := rfl
@[simp] theorem markRide_run (s : State) : (markRide s).run = s.run := rfl
@[simp] theorem markRide_shelf (s : State) : (markRide s).shelf = s.shelf := rfl
@[simp] theorem markRide_source (s : State) : (markRide s).source = s.source := rfl
@[simp] theorem markRide_zones (s : State) : (markRide s).zones = s.zones := rfl
@[simp] theorem markRide_scan (s : State) : (markRide s).scan = s.scan := rfl
@[simp] theorem markRide_resp (s : State) : (markRide s).resp = s.resp := rfl
@[simp] theorem markRide_link (s : State) : (markRide s).link = s.link := rfl
@[simp] theorem markRide_tally (s : State) : (markRide s).tally = s.tally := rfl
@[simp] theorem markRide_cause (s : State) : (markRide s).cause = s.cause := rfl
@[simp] theorem markRide_orders (s : State) : (markRide s).orders = s.orders := rfl
@[simp] theorem markRide_pending (s : State) : (markRide s).pending = s.pending := rfl

@[simp] theorem markRestore_power (s : State) : (markRestore s).power = s.power := rfl
@[simp] theorem markRestore_now (s : State) : (markRestore s).now = s.now := rfl
@[simp] theorem markRestore_cfg (s : State) : (markRestore s).cfg = s.cfg := rfl
@[simp] theorem markRestore_cfgFrom (s : State) : (markRestore s).cfgFrom = s.cfgFrom := rfl
@[simp] theorem markRestore_store (s : State) : (markRestore s).store = s.store := rfl
@[simp] theorem markRestore_chans (s : State) : (markRestore s).chans = s.chans := rfl
@[simp] theorem markRestore_budget (s : State) : (markRestore s).budget = s.budget := rfl
@[simp] theorem markRestore_run (s : State) : (markRestore s).run = s.run := rfl
@[simp] theorem markRestore_shelf (s : State) : (markRestore s).shelf = s.shelf := rfl
@[simp] theorem markRestore_source (s : State) : (markRestore s).source = s.source := rfl
@[simp] theorem markRestore_zones (s : State) : (markRestore s).zones = s.zones := rfl
@[simp] theorem markRestore_scan (s : State) : (markRestore s).scan = s.scan := rfl
@[simp] theorem markRestore_resp (s : State) : (markRestore s).resp = s.resp := rfl
@[simp] theorem markRestore_link (s : State) : (markRestore s).link = s.link := rfl
@[simp] theorem markRestore_tally (s : State) : (markRestore s).tally = s.tally := rfl
@[simp] theorem markRestore_cause (s : State) : (markRestore s).cause = s.cause := rfl
@[simp] theorem markRestore_orders (s : State) : (markRestore s).orders = s.orders := rfl
@[simp] theorem markRestore_pending (s : State) : (markRestore s).pending = s.pending := rfl

@[simp] theorem markPlan_power (p : PlanWork) (s : State) : (markPlan p s).power = s.power := rfl
@[simp] theorem markPlan_now (p : PlanWork) (s : State) : (markPlan p s).now = s.now := rfl
@[simp] theorem markPlan_cfg (p : PlanWork) (s : State) : (markPlan p s).cfg = s.cfg := rfl
@[simp] theorem markPlan_cfgFrom (p : PlanWork) (s : State) : (markPlan p s).cfgFrom = s.cfgFrom := rfl
@[simp] theorem markPlan_store (p : PlanWork) (s : State) : (markPlan p s).store = s.store := rfl
@[simp] theorem markPlan_chans (p : PlanWork) (s : State) : (markPlan p s).chans = s.chans := rfl
@[simp] theorem markPlan_budget (p : PlanWork) (s : State) : (markPlan p s).budget = s.budget := rfl
@[simp] theorem markPlan_run (p : PlanWork) (s : State) : (markPlan p s).run = s.run := rfl
@[simp] theorem markPlan_shelf (p : PlanWork) (s : State) : (markPlan p s).shelf = s.shelf := rfl
@[simp] theorem markPlan_source (p : PlanWork) (s : State) : (markPlan p s).source = s.source := rfl
@[simp] theorem markPlan_zones (p : PlanWork) (s : State) : (markPlan p s).zones = s.zones := rfl
@[simp] theorem markPlan_scan (p : PlanWork) (s : State) : (markPlan p s).scan = s.scan := rfl
@[simp] theorem markPlan_resp (p : PlanWork) (s : State) : (markPlan p s).resp = s.resp := rfl
@[simp] theorem markPlan_link (p : PlanWork) (s : State) : (markPlan p s).link = s.link := rfl
@[simp] theorem markPlan_tally (p : PlanWork) (s : State) : (markPlan p s).tally = s.tally := rfl
@[simp] theorem markPlan_cause (p : PlanWork) (s : State) : (markPlan p s).cause = s.cause := rfl
@[simp] theorem markPlan_orders (p : PlanWork) (s : State) : (markPlan p s).orders = s.orders := rfl
@[simp] theorem markPlan_pending (p : PlanWork) (s : State) : (markPlan p s).pending = s.pending := rfl

@[simp] theorem clearShed_power (c : Ch) (s : State) : (clearShed c s).power = s.power := rfl
@[simp] theorem clearShed_now (c : Ch) (s : State) : (clearShed c s).now = s.now := rfl
@[simp] theorem clearShed_cfg (c : Ch) (s : State) : (clearShed c s).cfg = s.cfg := rfl
@[simp] theorem clearShed_cfgFrom (c : Ch) (s : State) : (clearShed c s).cfgFrom = s.cfgFrom := rfl
@[simp] theorem clearShed_store (c : Ch) (s : State) : (clearShed c s).store = s.store := rfl
@[simp] theorem clearShed_budget (c : Ch) (s : State) : (clearShed c s).budget = s.budget := rfl
@[simp] theorem clearShed_run (c : Ch) (s : State) : (clearShed c s).run = s.run := rfl
@[simp] theorem clearShed_shelf (c : Ch) (s : State) : (clearShed c s).shelf = s.shelf := rfl
@[simp] theorem clearShed_zones (c : Ch) (s : State) : (clearShed c s).zones = s.zones := rfl
@[simp] theorem clearShed_scan (c : Ch) (s : State) : (clearShed c s).scan = s.scan := rfl
@[simp] theorem clearShed_resp (c : Ch) (s : State) : (clearShed c s).resp = s.resp := rfl
@[simp] theorem clearShed_link (c : Ch) (s : State) : (clearShed c s).link = s.link := rfl
@[simp] theorem clearShed_tally (c : Ch) (s : State) : (clearShed c s).tally = s.tally := rfl
@[simp] theorem clearShed_cause (c : Ch) (s : State) : (clearShed c s).cause = s.cause := rfl
@[simp] theorem clearShed_work (c : Ch) (s : State) : (clearShed c s).work = s.work := rfl
@[simp] theorem clearShed_orders (c : Ch) (s : State) : (clearShed c s).orders = s.orders := rfl
@[simp] theorem clearShed_pending (c : Ch) (s : State) : (clearShed c s).pending = s.pending := rfl

@[simp] theorem releaseEnable_power (c : Ch) (s : State) : (releaseEnable c s).power = s.power := rfl
@[simp] theorem releaseEnable_now (c : Ch) (s : State) : (releaseEnable c s).now = s.now := rfl
@[simp] theorem releaseEnable_cfg (c : Ch) (s : State) : (releaseEnable c s).cfg = s.cfg := rfl
@[simp] theorem releaseEnable_cfgFrom (c : Ch) (s : State) : (releaseEnable c s).cfgFrom = s.cfgFrom := rfl
@[simp] theorem releaseEnable_store (c : Ch) (s : State) : (releaseEnable c s).store = s.store := rfl
@[simp] theorem releaseEnable_budget (c : Ch) (s : State) : (releaseEnable c s).budget = s.budget := rfl
@[simp] theorem releaseEnable_run (c : Ch) (s : State) : (releaseEnable c s).run = s.run := rfl
@[simp] theorem releaseEnable_shelf (c : Ch) (s : State) : (releaseEnable c s).shelf = s.shelf := rfl
@[simp] theorem releaseEnable_source (c : Ch) (s : State) : (releaseEnable c s).source = s.source := rfl
@[simp] theorem releaseEnable_zones (c : Ch) (s : State) : (releaseEnable c s).zones = s.zones := rfl
@[simp] theorem releaseEnable_scan (c : Ch) (s : State) : (releaseEnable c s).scan = s.scan := rfl
@[simp] theorem releaseEnable_resp (c : Ch) (s : State) : (releaseEnable c s).resp = s.resp := rfl
@[simp] theorem releaseEnable_link (c : Ch) (s : State) : (releaseEnable c s).link = s.link := rfl
@[simp] theorem releaseEnable_tally (c : Ch) (s : State) : (releaseEnable c s).tally = s.tally := rfl
@[simp] theorem releaseEnable_cause (c : Ch) (s : State) : (releaseEnable c s).cause = s.cause := rfl
@[simp] theorem releaseEnable_work (c : Ch) (s : State) : (releaseEnable c s).work = s.work := rfl
@[simp] theorem releaseEnable_orders (c : Ch) (s : State) : (releaseEnable c s).orders = s.orders := rfl
@[simp] theorem releaseEnable_pending (c : Ch) (s : State) : (releaseEnable c s).pending = s.pending := rfl

@[simp] theorem enterState_power (c : Ch) (st : ChState) (s : State) : (enterState c st s).power = s.power := by
  obtain ⟨p, h⟩ := enterState_spec c st s; rw [h]
@[simp] theorem enterState_now (c : Ch) (st : ChState) (s : State) : (enterState c st s).now = s.now := by
  obtain ⟨p, h⟩ := enterState_spec c st s; rw [h]
@[simp] theorem enterState_cfg (c : Ch) (st : ChState) (s : State) : (enterState c st s).cfg = s.cfg := by
  obtain ⟨p, h⟩ := enterState_spec c st s; rw [h]
@[simp] theorem enterState_cfgFrom (c : Ch) (st : ChState) (s : State) : (enterState c st s).cfgFrom = s.cfgFrom := by
  obtain ⟨p, h⟩ := enterState_spec c st s; rw [h]
@[simp] theorem enterState_store (c : Ch) (st : ChState) (s : State) : (enterState c st s).store = s.store := by
  obtain ⟨p, h⟩ := enterState_spec c st s; rw [h]
@[simp] theorem enterState_run (c : Ch) (st : ChState) (s : State) : (enterState c st s).run = s.run := by
  obtain ⟨p, h⟩ := enterState_spec c st s; rw [h]
@[simp] theorem enterState_shelf (c : Ch) (st : ChState) (s : State) : (enterState c st s).shelf = s.shelf := by
  obtain ⟨p, h⟩ := enterState_spec c st s; rw [h]
@[simp] theorem enterState_source (c : Ch) (st : ChState) (s : State) : (enterState c st s).source = s.source := by
  obtain ⟨p, h⟩ := enterState_spec c st s; rw [h]
@[simp] theorem enterState_zones (c : Ch) (st : ChState) (s : State) : (enterState c st s).zones = s.zones := by
  obtain ⟨p, h⟩ := enterState_spec c st s; rw [h]
@[simp] theorem enterState_scan (c : Ch) (st : ChState) (s : State) : (enterState c st s).scan = s.scan := by
  obtain ⟨p, h⟩ := enterState_spec c st s; rw [h]
@[simp] theorem enterState_resp (c : Ch) (st : ChState) (s : State) : (enterState c st s).resp = s.resp := by
  obtain ⟨p, h⟩ := enterState_spec c st s; rw [h]
@[simp] theorem enterState_link (c : Ch) (st : ChState) (s : State) : (enterState c st s).link = s.link := by
  obtain ⟨p, h⟩ := enterState_spec c st s; rw [h]
@[simp] theorem enterState_tally (c : Ch) (st : ChState) (s : State) : (enterState c st s).tally = s.tally := by
  obtain ⟨p, h⟩ := enterState_spec c st s; rw [h]
@[simp] theorem enterState_cause (c : Ch) (st : ChState) (s : State) : (enterState c st s).cause = s.cause := by
  obtain ⟨p, h⟩ := enterState_spec c st s; rw [h]
@[simp] theorem enterState_orders (c : Ch) (st : ChState) (s : State) : (enterState c st s).orders = s.orders := by
  obtain ⟨p, h⟩ := enterState_spec c st s; rw [h]
@[simp] theorem enterState_pending (c : Ch) (st : ChState) (s : State) : (enterState c st s).pending = s.pending := by
  obtain ⟨p, h⟩ := enterState_spec c st s; rw [h]

/-! ### What they make of the channels and the budget -/

/-- A channel's record after a state change of one of them. -/
theorem enterState_ch (c d : Ch) (st : ChState) (s : State) :
    (enterState c st s).ch d = if d = c then (s.ch c).enter st s.now else s.ch d := by
  obtain ⟨p, h⟩ := enterState_spec c st s
  rw [h]
  exact State.modCh_ch s c d fun r => r.enter st s.now

theorem enterState_budget (c : Ch) (st : ChState) (s : State) :
    (enterState c st s).budget = { s.budget with inflight := inflightAfter c s } := by
  obtain ⟨p, h⟩ := enterState_spec c st s
  rw [h]

theorem enterState_work (c : Ch) (st : ChState) (s : State) :
    ∃ p, (enterState c st s).work = { s.work with
      eval := true, plan := p, restore := s.work.restore || (decide (st = .off) && (s.ch c).shed) } := by
  obtain ⟨p, h⟩ := enterState_spec c st s
  exact ⟨p, by rw [h]⟩

theorem clearShed_ch (c d : Ch) (s : State) :
    (clearShed c s).ch d = if d = c then { s.ch c with shed := false } else s.ch d :=
  State.modCh_ch s c d fun r => { r with shed := false }

theorem clearShed_source (c : Ch) (s : State) :
    (clearShed c s).source = { s.source with placed := setErase c s.source.placed } := rfl

theorem releaseEnable_ch (c d : Ch) (s : State) :
    (releaseEnable c s).ch d =
      if d = c then { s.ch c with ramp := none, warn := none, admitted := none, confirm := some ⟨s.now, 1000⟩ }
      else s.ch d :=
  State.modCh_ch s c d fun r =>
    { r with ramp := none, warn := none, admitted := none, confirm := some (s.timer Config.stopConfirmMs) }

@[simp] theorem count_ch (e : TallyEvent) (s : State) (d : Ch) : (count e s).ch d = s.ch d := rfl
@[simp] theorem raise_ch (k : ReportKind) (a b c : Option Nat) (s : State) (d : Ch) :
    (raise k a b c s).ch d = s.ch d := by simp [State.ch]
@[simp] theorem modWork_ch (f : Work → Work) (s : State) (d : Ch) : (s.modWork f).ch d = s.ch d := rfl
@[simp] theorem modBudget_ch (f : Budget → Budget) (s : State) (d : Ch) : (s.modBudget f).ch d = s.ch d := rfl
@[simp] theorem modSource_ch (f : Source → Source) (s : State) (d : Ch) : (s.modSource f).ch d = s.ch d := rfl
@[simp] theorem modRun_ch (f : Run → Run) (s : State) (d : Ch) : (s.modRun f).ch d = s.ch d := rfl
@[simp] theorem modResp_ch (f : Response → Response) (s : State) (d : Ch) : (s.modResp f).ch d = s.ch d := rfl
@[simp] theorem modPort_ch (p : Port) (f : PortCtx → PortCtx) (s : State) (d : Ch) : (s.modPort p f).ch d = s.ch d := rfl

end Sys2Proof.Machine
end

