-- ==== Sys2Proof/Laws/Fixed.lean ====
section
/-! SUPPORT. No hand-over inside a step changes the fixed part of the state: one lemma for each operation that a
hand-over can reach, up to `settle_fixed`. -/

namespace Sys2Proof.Machine

/-! ### Updates -/

theorem fixed_modBudget (f : Budget → Budget) (s : State) : (s.modBudget f).fixed = s.fixed := rfl
theorem fixed_modSource (f : Source → Source) (s : State) : (s.modSource f).fixed = s.fixed := rfl
theorem fixed_modWork (f : Work → Work) (s : State) : (s.modWork f).fixed = s.fixed := rfl
theorem fixed_modTally (f : Tally → Tally) (s : State) : (s.modTally f).fixed = s.fixed := rfl
theorem fixed_modRun (f : Run → Run) (s : State) : (s.modRun f).fixed = s.fixed := rfl
theorem fixed_setRun (r : Option Run) (s : State) : (s.setRun r).fixed = s.fixed := rfl
theorem fixed_orders (n : Nat) (s : State) : ({ s with orders := n } : State).fixed = s.fixed := rfl

theorem fixed_modCh (c : Ch) (f : Channel → Channel) (s : State) (h : (f (s.ch c)).fixed = (s.ch c).fixed) :
    (s.modCh c f).fixed = s.fixed := by
  have : (Vector.ofFn fun d : Ch => (s.modCh c f).chans[d].fixed) = Vector.ofFn fun d : Ch => s.chans[d].fixed := by
    apply Vector.ext
    intro i hi
    simp only [Vector.getElem_ofFn]
    have hc := State.modCh_ch s c ⟨i, hi⟩ f
    by_cases e : (⟨i, hi⟩ : Ch) = c
    · rw [if_pos e] at hc
      exact (congrArg Channel.fixed hc).trans (h.trans (by rw [e]; rfl))
    · rw [if_neg e] at hc
      exact congrArg Channel.fixed hc
  simp only [State.fixed, this]
  rfl

theorem fixed_modShelf (f : Shelf → Shelf) (s : State) (h : (f s.shelf).bare = s.shelf.bare) :
    (s.modShelf f).fixed = s.fixed := by
  simp only [State.fixed, State.modShelf_shelf, h]
  rfl

theorem fixed_modPort (p : Port) (f : PortCtx → PortCtx) (s : State) (h : (f (s.port p)).fixed = (s.port p).fixed) :
    (s.modPort p f).fixed = s.fixed := by
  cases p <;> simp only [State.fixed, State.modPort, State.modLink, State.port] at * <;> simp only [h]

theorem fixed_modLink_flags (f : Flags → Flags) (s : State) :
    (s.modLink fun k => { k with flags := f k.flags }).fixed = s.fixed := rfl

theorem fixed_modBatt (n : BmSlot) (f : Batt → Batt) (s : State) (h : (f s.shelf.batt[n]).bare = s.shelf.batt[n].bare) :
    (s.modBatt n f).fixed = s.fixed := by
  apply fixed_modShelf
  simp only [Shelf.bare]
  congr 1
  apply Vector.ext
  intro i hi
  simp only [Vector.getElem_ofFn, Fin.getElem_fin, Vector.getElem_set]
  split
  · next e => subst e; exact h
  · rfl

/-! ### Loops -/

theorem fixed_forEach {α : Type} (f : α → State → State) (h : ∀ a s, (f a s).fixed = s.fixed) (l : List α) (s : State) :
    (forEach l f s).fixed = s.fixed := forEach_same State.fixed f h l s

/-! ### Marks, tallies and reports -/

theorem markEval_fixed (s : State) : (markEval s).fixed = s.fixed := rfl
theorem markExam_fixed (s : State) : (markExam s).fixed = s.fixed := rfl
theorem markRide_fixed (s : State) : (markRide s).fixed = s.fixed := rfl
theorem markRestore_fixed (s : State) : (markRestore s).fixed = s.fixed := rfl
theorem markPlan_fixed (p : PlanWork) (s : State) : (markPlan p s).fixed = s.fixed := rfl
theorem count_fixed (e : TallyEvent) (s : State) : (count e s).fixed = s.fixed := rfl

theorem joinReport_fixed (p : Port) (r : Report) (s : State) : (joinReport p r s).fixed = s.fixed := by
  simp only [joinReport]
  split
  · rw [count_fixed]; exact fixed_modPort _ _ _ rfl
  · exact fixed_modPort _ _ _ rfl

theorem raise_fixed (k : ReportKind) (a b c : Option Nat) (s : State) : (raise k a b c s).fixed = s.fixed := by
  simp only [raise]
  split
  · exact fixed_modLink_flags _ _
  · rw [joinReport_fixed]; exact fixed_modLink_flags _ _
  · rw [joinReport_fixed]; exact fixed_modLink_flags _ _
  · rw [joinReport_fixed, joinReport_fixed]; exact fixed_modLink_flags _ _

/-! ### The queue and the run's notices -/

/-- The lemmas that rewrite a fixed part through the plain updates. -/
theorem fixed_ite (p : Prop) [Decidable p] (s t u : State) (hs : s.fixed = u.fixed) (ht : t.fixed = u.fixed) :
    (if p then s else t).fixed = u.fixed := by
  split
  · exact hs
  · exact ht

theorem lateCheck_fixed (s : State) : (lateCheck s).fixed = s.fixed := by
  simp only [lateCheck]
  split
  · rfl
  · split
    · rfl
    · rw [fixed_modBudget, raise_fixed]

theorem watchHead_fixed (s : State) : (watchHead s).fixed = s.fixed := by
  simp only [watchHead]
  split
  · rfl
  · split
    · rfl
    · rw [lateCheck_fixed, fixed_modBudget]

theorem headGone_fixed (s : State) : (headGone s).fixed = s.fixed := by
  simp only [headGone]
  split
  · rfl
  · exact watchHead_fixed s

theorem dropFromQueue_fixed (c : Ch) (s : State) : (dropFromQueue c s).fixed = s.fixed := by
  simp only [dropFromQueue]
  split
  · rfl
  · split
    · rfl
    · rw [headGone_fixed, fixed_modBudget]

theorem skipMember_fixed (c : Ch) (n : Nat) (s : State) : (skipMember c n s).fixed = s.fixed := by
  simp only [skipMember]
  split
  · rfl
  · rw [raise_fixed, count_fixed, fixed_modRun]

theorem memberLeft_fixed (s : State) : (memberLeft s).fixed = s.fixed := by
  simp only [memberLeft]
  split
  · split <;> rfl
  · rfl

theorem noticeAdmitted_fixed (c : Ch) (s : State) : (noticeAdmitted c s).fixed = s.fixed := by
  simp only [noticeAdmitted]
  split
  · split
    · rw [memberLeft_fixed, fixed_modRun]
    · rfl
  · rfl

theorem noticeWithdrawn_fixed (c : Ch) (w : Withdrawal) (s : State) : (noticeWithdrawn c w s).fixed = s.fixed := by
  simp only [noticeWithdrawn]
  split
  · split
    · rw [memberLeft_fixed]
      refine fixed_ite _ _ _ _ ?_ ?_
      · rw [skipMember_fixed, fixed_modRun]
      · rfl
    · rfl
  · rfl

theorem noticeChanged_fixed (c : Ch) (s : State) : (noticeChanged c s).fixed = s.fixed := by
  simp only [noticeChanged]
  split
  · split <;> rfl
  · rfl

/-! ### Channels -/

theorem enterState_fixed (c : Ch) (st : ChState) (s : State) : (enterState c st s).fixed = s.fixed := by
  simp only [enterState]
  rw [noticeChanged_fixed, markEval_fixed]
  have h : (s.modCh c (Channel.enter st s.now)).fixed = s.fixed := fixed_modCh _ _ _ rfl
  refine fixed_ite _ _ _ _ ?_ ?_
  · rw [markRestore_fixed]
    exact fixed_ite _ _ _ _ h h
  · exact fixed_ite _ _ _ _ h h

theorem clearShed_fixed (c : Ch) (s : State) : (clearShed c s).fixed = s.fixed := by
  simp only [clearShed]
  rw [fixed_modSource]
  exact fixed_modCh _ _ _ rfl

theorem releaseEnable_fixed (c : Ch) (s : State) : (releaseEnable c s).fixed = s.fixed := fixed_modCh _ _ _ rfl

theorem switchOff_fixed (c : Ch) (s : State) : (switchOff c s).fixed = s.fixed := by
  rw [switchOff, enterState_fixed, releaseEnable_fixed]

theorem reportFault_fixed (c : Ch) (s : State) : (reportFault c s).fixed = s.fixed := by
  rw [reportFault, raise_fixed, count_fixed]

theorem faultChannel_fixed (c : Ch) (k : FaultKind) (s : State) : (faultChannel c k s).fixed = s.fixed := by
  simp only [faultChannel]
  rw [reportFault_fixed, enterState_fixed, fixed_modCh _ _ _ rfl, clearShed_fixed, releaseEnable_fixed]

theorem withdraw_fixed (c : Ch) (w : Withdrawal) (s : State) : (withdraw c w s).fixed = s.fixed := by
  simp only [withdraw]
  split
  · rw [noticeWithdrawn_fixed, enterState_fixed, dropFromQueue_fixed]
  · rfl

/-- A power-good rise at a channel whose level is already present changes no level. -/
theorem takePowerGoodRise_fixed (c : Ch) (s : State) (h : (s.ch c).powerGood = true) :
    (takePowerGoodRise c s).fixed = s.fixed := by
  simp only [takePowerGoodRise]
  split
  · rw [enterState_fixed]; exact fixed_modCh _ _ _ (by simp [Channel.fixed, h])
  all_goals exact fixed_modCh _ _ _ (by simp [Channel.fixed, h])

/-- A tray fault at a channel whose level is already asserted changes no level. -/
theorem takeTrayFault_fixed (c : Ch) (s : State) (h : (s.ch c).trayFault = true) :
    (takeTrayFault c s).fixed = s.fixed := by
  have e : (s.modCh c fun r => { r with trayFault := true }).fixed = s.fixed :=
    fixed_modCh _ _ _ (by simp [Channel.fixed, h])
  simp only [takeTrayFault]
  split <;> first | exact e | (rw [faultChannel_fixed]; exact e)

theorem takeWarningExpiry_fixed (c : Ch) (s : State) : (takeWarningExpiry c s).fixed = s.fixed := by
  simp only [takeWarningExpiry]
  split
  · exact switchOff_fixed c s
  · rfl

theorem startWarning_fixed (c : Ch) (s : State) : (startWarning c s).fixed = s.fixed := by
  simp only [startWarning]
  split
  · rw [takeWarningExpiry_fixed, enterState_fixed]; exact fixed_modCh _ _ _ rfl
  · rw [enterState_fixed]; exact fixed_modCh _ _ _ rfl

theorem markForStop_fixed (c : Ch) (w : StopCause) (s : State) : (markForStop c w s).fixed = s.fixed := by
  simp only [markForStop]
  split
  · split
    · exact fixed_modCh _ _ _ rfl
    · rfl
  · split
    · exact fixed_modCh _ _ _ rfl
    · rfl
  · exact clearShed_fixed c s
  all_goals rfl

theorem gracefulStop_fixed (w : StopCause) (c : Ch) (s : State) : (gracefulStop w c s).fixed = s.fixed := by
  simp only [gracefulStop]
  split <;> simp only [startWarning_fixed, withdraw_fixed, switchOff_fixed, markForStop_fixed]

theorem cut_fixed (w : StopCause) (c : Ch) (s : State) : (cut w c s).fixed = s.fixed := by
  simp only [cut]
  split <;> simp only [withdraw_fixed, switchOff_fixed, markForStop_fixed]

/-- The two levels of a channel stand in its fixed part. -/
theorem level_of_fixed {s t : State} (h : t.fixed = s.fixed) (c : Ch) : (t.ch c).fixed = (s.ch c).fixed := by
  have e := congrArg Fixed.chans h
  have e' := congrArg (fun v : Vector ChanFixed 24 => v[c]) e
  simpa [State.fixed, State.ch] using e'

theorem admitChannel_fixed (c : Ch) (s : State) : (admitChannel c s).fixed = s.fixed := by
  let a : State := noticeAdmitted c (count .channelStarts (enterState c .ramping (clearShed c
    (s.modCh c fun r => { r with admitted := some (s.chCfg c).inrush, confirm := none
                                 ramp := some (s.timer (s.chCfg c).ramp) }))))
  have ha : a.fixed = s.fixed := by
    simp only [a]
    rw [noticeAdmitted_fixed, count_fixed, enterState_fixed, clearShed_fixed]
    exact fixed_modCh _ _ _ rfl
  let b : State := if (a.ch c).powerGood then takePowerGoodRise c a else a
  have hb : b.fixed = s.fixed := by
    simp only [b]
    split
    · next h => rw [takePowerGoodRise_fixed c a h, ha]
    · exact ha
  show (if (b.ch c).trayFault then takeTrayFault c b else b).fixed = s.fixed
  split
  · next h => rw [takeTrayFault_fixed c b h, hb]
  · exact hb

/-! ### The Budget Unit -/

theorem giveCharge_fixed (n : BmSlot) (x : State × Nat) : (giveCharge n x).1.fixed = x.1.fixed := by
  simp only [giveCharge]
  exact fixed_modBatt _ _ _ rfl

theorem distribute_fixed (s : State) : (distribute s).fixed = s.fixed := by
  have h : ∀ (l : List BmSlot) (x : State × Nat), (l.foldl (fun x n => giveCharge n x) x).1.fixed = x.1.fixed := by
    intro l
    induction l with
    | nil => intro x; rfl
    | cons n l ih => intro x; rw [List.foldl_cons, ih, giveCharge_fixed]
  exact h _ _

theorem deficitTest_fixed (s : State) : (deficitTest s).fixed = s.fixed := by
  simp only [deficitTest]
  split
  · split <;> rfl
  · rfl

theorem evaluate_fixed (s : State) : (evaluate s).fixed = s.fixed := by
  simp only [evaluate]
  rw [fixed_modWork, distribute_fixed, deficitTest_fixed, fixed_modBudget]

theorem shedForDeficit_fixed (c : Ch) (s : State) : (shedForDeficit c s).fixed = s.fixed := by
  simp only [shedForDeficit]
  rw [count_fixed]
  refine fixed_ite _ _ _ _ ?_ (gracefulStop_fixed _ _ _)
  rw [fixed_modBudget, gracefulStop_fixed]

theorem shedTier_fixed (t : Nat) (s : State) : (shedTier t s).fixed = s.fixed := by
  simp only [shedTier]
  rw [raise_fixed, fixed_forEach _ shedForDeficit_fixed]

theorem reportDeficit_fixed (s : State) : (reportDeficit s).fixed = s.fixed := by
  simp only [reportDeficit]
  split
  · rfl
  · rw [fixed_modBudget, raise_fixed]

theorem restartGrace_fixed (s : State) : (restartGrace s).fixed = s.fixed := rfl

theorem takeGraceExpiry_fixed (s : State) : (takeGraceExpiry s).fixed = s.fixed := by
  simp only [takeGraceExpiry]
  split
  · split
    · split
      · rw [restartGrace_fixed, shedTier_fixed]
      · rw [restartGrace_fixed, reportDeficit_fixed]
    · rfl
  · rfl

theorem join_fixed (n : EntryName) (o : Origin) (s : State) : (join n o s).fixed = s.fixed := by
  simp only [join]
  split
  · rw [markExam_fixed]
    refine fixed_ite _ _ _ _ ?_ ?_
    · rw [watchHead_fixed, fixed_forEach _ fun c s => enterState_fixed c _ s, fixed_modBudget]
    · rw [fixed_forEach _ fun c s => enterState_fixed c _ s, fixed_modBudget]
  · rfl

theorem admitHead_fixed (e : Entry) (s : State) : (admitHead e s).fixed = s.fixed := by
  simp only [admitHead]
  rw [headGone_fixed]
  split
  · rw [fixed_modBudget, fixed_forEach _ admitChannel_fixed, fixed_modBudget]
  · rw [fixed_forEach _ admitChannel_fixed, fixed_modBudget]

theorem headWaits_fixed (e : Entry) (s : State) : (headWaits e s).fixed = s.fixed := by
  simp only [headWaits]
  split <;> rfl

theorem examineSingle_fixed (e : Entry) (s : State) : (examineSingle e s).fixed = s.fixed := by
  simp only [examineSingle]
  split
  · rfl
  · split
    · exact admitHead_fixed e s
    · exact headWaits_fixed e s

theorem examine_fixed (s : State) : (examine s).fixed = s.fixed := by
  simp only [examine]
  split
  · rfl
  · split
    · exact examineSingle_fixed _ s
    · split
      · exact admitHead_fixed _ s
      · split
        · rw [headGone_fixed, fixed_modBudget]
        · rw [examineSingle_fixed, watchHead_fixed, fixed_modBudget]

theorem emptyQueue_fixed (s : State) : (emptyQueue s).fixed = s.fixed := by
  simp only [emptyQueue]
  rw [fixed_forEach _ fun c s => withdraw_fixed c _ s, fixed_modBudget]

theorem withdrawAll_fixed (l : List Ch) (w : Withdrawal) (s : State) : (withdrawAll l w s).fixed = s.fixed := by
  simp only [withdrawAll]
  rw [fixed_forEach _ fun c s => withdraw_fixed c _ s]
  refine fixed_ite _ _ _ _ ?_ (fixed_modBudget _ _)
  rw [headGone_fixed, fixed_modBudget]

/-! ### The Sequence Engine -/

theorem endRun_fixed (st : RunState) (n : Nat) (s : State) : (endRun st n s).fixed = s.fixed := by
  simp only [endRun]
  split
  · rfl
  · rw [raise_fixed, markPlan_fixed, fixed_modRun]

theorem completeStep_fixed (s : State) : (completeStep s).fixed = s.fixed := by
  simp only [completeStep]
  split
  · rfl
  · split
    · rw [endRun_fixed, fixed_modRun]
    · split <;> rfl

theorem skipFailing_fixed (s : State) (c : Ch) (t : State) : (skipFailing s c t).fixed = t.fixed := by
  simp only [skipFailing]
  split
  · exact skipMember_fixed _ _ _
  · rfl

theorem startStep_fixed (p : PlanStep) (s : State) : (startStep p s).fixed = s.fixed := by
  simp only [startStep]
  split
  · rw [markPlan_fixed, fixed_forEach _ (skipFailing_fixed s)]
  · rw [join_fixed, fixed_modRun, fixed_forEach _ (skipFailing_fixed s)]

theorem executeStep_fixed (s : State) : (executeStep s).fixed = s.fixed := by
  simp only [executeStep]
  split
  · rfl
  · split
    · split
      · rw [startStep_fixed, fixed_modRun]
      · split <;> rfl
    · rw [markPlan_fixed, fixed_forEach _ (gracefulStop_fixed _), fixed_modRun]
    · rfl
    · split <;> rfl
    · split <;> rfl

theorem planWork_fixed (s : State) : (planWork s).fixed = s.fixed := by
  simp only [planWork]
  split
  · rfl
  · rw [executeStep_fixed, markPlan_fixed]
  · rw [completeStep_fixed, markPlan_fixed]

theorem startRun_fixed (k : RunKind) (e : StepIx) (o : RunBy) (s : State) : (startRun k e o s).fixed = s.fixed := rfl

theorem withdrawOutstanding_fixed (l : List Ch) (s : State) : (withdrawOutstanding l s).fixed = s.fixed := by
  rw [withdrawOutstanding, withdrawAll_fixed, fixed_modRun]

theorem pauseRun_fixed (c : RunBy) (s : State) : (pauseRun c s).fixed = s.fixed := by
  simp only [pauseRun]
  split
  · split
    · rw [raise_fixed, markPlan_fixed, fixed_modRun, withdrawOutstanding_fixed]
    · rfl
  · rfl

theorem resumeRun_fixed (s : State) : (resumeRun s).fixed = s.fixed := by
  simp only [resumeRun]
  split
  · split
    · rfl
    · split <;> rfl
  · rfl

theorem abortRun_fixed (n : Nat) (s : State) : (abortRun n s).fixed = s.fixed := by
  simp only [abortRun]
  split
  · split
    · rw [endRun_fixed, withdrawOutstanding_fixed]
    · rfl
  · rfl

theorem planLeftGrid_fixed (s : State) : (planLeftGrid s).fixed = s.fixed := by
  simp only [planLeftGrid]
  split
  · split
    · exact pauseRun_fixed _ s
    · rfl
  · rfl

theorem planEnteredGrid_fixed (s : State) : (planEnteredGrid s).fixed = s.fixed := by
  simp only [planEnteredGrid]
  split
  · split
    · split
      · exact resumeRun_fixed s
      · rfl
    · split <;> rfl
  · rfl

theorem drainPlan_fixed : ∀ (n : Nat) (s : State), (drainPlan n s).fixed = s.fixed
  | 0, _ => rfl
  | n + 1, s => by
    simp only [drainPlan]
    split
    · rfl
    · rw [drainPlan_fixed n, planWork_fixed]

theorem reserveRequest_fixed (d : Option StepIx) (s : State) : (reserveRequest d s).fixed = s.fixed := by
  simp only [reserveRequest]
  split
  · rw [startRun_fixed, abortRun_fixed, drainPlan_fixed]
  · rw [abortRun_fixed, drainPlan_fixed]

theorem requestUpRun_fixed (s : State) : (requestUpRun s).fixed = s.fixed := by
  simp only [requestUpRun]
  split
  · rfl
  · split <;> rfl

/-! ### The Source Controller -/

theorem chargeFirstTest_fixed (s : State) : (chargeFirstTest s).fixed = s.fixed := by
  simp only [chargeFirstTest]
  split <;> rfl

theorem autoPlace_fixed (c : Ch) (s : State) : (autoPlace c s).fixed = s.fixed := by
  rw [autoPlace, fixed_modSource, placeRestore, join_fixed]

theorem autoRestore_fixed (s : State) : (autoRestore s).fixed = s.fixed := by
  simp only [autoRestore]
  split
  · exact fixed_forEach _ autoPlace_fixed _ s
  · rfl

theorem setPolicy_fixed (p : RestorePolicy) (s : State) : (setPolicy p s).fixed = s.fixed := by
  simp only [setPolicy]
  split <;> rfl

theorem endSilence_fixed (s : State) : (endSilence s).fixed = s.fixed := by
  simp only [endSilence]
  rw [fixed_modSource]
  refine fixed_ite _ _ _ _ rfl ?_
  rw [setPolicy_fixed, fixed_modSource]

theorem setSetPoints_fixed (d : Bool) (w : Option Nat) (s : State) : (setSetPoints d w s).fixed = s.fixed := by
  apply fixed_modShelf
  simp only [Shelf.bare]
  congr 1

theorem enterSource_fixed (st : SrcState) (o : Option ReturnFrom) (s : State) : (enterSource st o s).fixed = s.fixed := by
  simp only [enterSource]
  rw [markRestore_fixed, markEval_fixed, setSetPoints_fixed, fixed_modSource]

theorem raiseRideEnd_fixed (l n : Nat) (s : State) : (raiseRideEnd l n s).fixed = s.fixed := raise_fixed _ _ _ _ s

theorem beginRide_fixed (l : SrcState) (s : State) : (beginRide l s).fixed = s.fixed := by
  rw [beginRide, markRide_fixed, count_fixed, raise_fixed]

theorem rideFromGrid_fixed (s : State) : (rideFromGrid s).fixed = s.fixed := by
  simp only [rideFromGrid]
  rw [beginRide_fixed, emptyQueue_fixed, planLeftGrid_fixed, fixed_modSource, enterSource_fixed]

theorem testLoss_fixed (s : State) : (testLoss s).fixed = s.fixed := by
  simp only [testLoss]
  split
  · split <;> simp only [rideFromGrid_fixed, beginRide_fixed, enterSource_fixed]
  · rfl

theorem enterGrid_fixed (s : State) : (enterGrid s).fixed = s.fixed := by
  simp only [enterGrid]
  rw [fixed_modWork, raiseRideEnd_fixed, planEnteredGrid_fixed, fixed_modSource, fixed_modSource, enterSource_fixed]

theorem enterHandback_fixed (s : State) : (enterHandback s).fixed = s.fixed := by
  simp only [enterHandback]
  split
  · rw [enterGrid_fixed, enterSource_fixed]
  · rw [fixed_modSource, enterSource_fixed]

theorem enterQualify_fixed (o : ReturnFrom) (s : State) : (enterQualify o s).fixed = s.fixed := by
  simp only [enterQualify]
  split
  · rw [enterHandback_fixed, enterSource_fixed]
  · rw [fixed_modSource, enterSource_fixed]

theorem testReturn_fixed (s : State) : (testReturn s).fixed = s.fixed := by
  simp only [testReturn]
  split
  · split <;> simp only [enterQualify_fixed]
  · rfl

theorem testAllOff_fixed (s : State) : (testAllOff s).fixed = s.fixed := by
  simp only [testAllOff]
  split
  · rw [raiseRideEnd_fixed, enterSource_fixed]
  · rfl

theorem deplete_fixed (s : State) : (deplete s).fixed = s.fixed := by
  simp only [deplete]
  rw [raiseRideEnd_fixed, enterSource_fixed, raise_fixed, fixed_forEach _ (cut_fixed _)]

theorem shedLadderTier_fixed (a b t : Nat) (s : State) : (shedLadderTier a b t s).fixed = s.fixed := by
  simp only [shedLadderTier]
  have h : ∀ (c : Ch) (s : State), (count .channelsShed (gracefulStop .ladder c s)).fixed = s.fixed :=
    fun c s => by rw [count_fixed, gracefulStop_fixed]
  split
  · refine fixed_ite _ _ _ _ ?_ (fixed_forEach _ h _ _)
    rw [raise_fixed, fixed_forEach _ h]
  · rfl

theorem ladder_fixed (s : State) : (ladder s).fixed = s.fixed := by
  simp only [ladder]
  rw [fixed_forEach _ (shedLadderTier_fixed _ _), fixed_modSource]

theorem reserveStage_fixed (s : State) : (reserveStage s).fixed = s.fixed := by
  simp only [reserveStage]
  split
  · split
    · rw [reserveRequest_fixed, raise_fixed, fixed_modSource]
    · rw [fixed_forEach _ (cut_fixed _), reserveRequest_fixed, raise_fixed, fixed_modSource]
  · rfl

theorem rideEvaluation_fixed (s : State) : (rideEvaluation s).fixed = s.fixed := by
  simp only [rideEvaluation]
  split
  · split
    · rw [deplete_fixed, fixed_modSource]
    · rw [testAllOff_fixed, reserveStage_fixed, ladder_fixed, fixed_modSource]
  · rfl

/-! ### The hand-overs -/

theorem useOrder_fixed (s : State) : (useOrder s).fixed = s.fixed := by
  simp only [useOrder]
  split <;> rfl

theorem sourceTests_fixed (s : State) : (sourceTests s).fixed = s.fixed := by
  rw [sourceTests, chargeFirstTest_fixed, testReturn_fixed, testAllOff_fixed]

/-- No hand-over changes the fixed part. -/
theorem handOver_fixed (s : State) : (handOver s).fixed = s.fixed := by
  simp only [handOver]
  repeat' first
    | rfl
    | split
    | rw [evaluate_fixed]
    | rw [sourceTests_fixed, fixed_modWork, useOrder_fixed]
    | rw [examine_fixed, fixed_modWork, useOrder_fixed]
    | rw [testLoss_fixed, fixed_modWork]
    | rw [rideEvaluation_fixed, fixed_modWork]
    | rw [takeGraceExpiry_fixed, fixed_modWork]
    | rw [planWork_fixed]
    | rw [autoRestore_fixed, fixed_modWork]
    | rw [requestUpRun_fixed, fixed_modWork]

/-- Whatever each hand-over keeps, the end of the step keeps. -/
theorem settleN_keeps (P : State → Prop) (h : ∀ s, P s → P (handOver s)) : ∀ (n : Nat) (s : State), P s → P (settleN n s)
  | 0, _, hs => hs
  | n + 1, s, hs => by
    simp only [settleN]
    split
    · exact hs
    · exact settleN_keeps P h n _ (h s hs)

/-- Whatever each hand-over keeps, `settle` keeps. -/
theorem settle_keeps (P : State → Prop) (h : ∀ s, P s → P (handOver s)) (s : State) (hs : P s) : P (settle s) :=
  settleN_keeps P h _ s hs

/-- The hand-overs of a step leave the fixed part of the state alone. -/
theorem settle_fixed (s : State) : (settle s).fixed = s.fixed :=
  settle_keeps (fun t => t.fixed = s.fixed) (fun t ht => (handOver_fixed t).trans ht) s rfl

/-- Nothing happens where no hand-over waits. -/
theorem settle_quiet (s : State) (h : s.work = .none) : settle s = s := by
  have : ∀ n, settleN n s = s := by
    intro n
    cases n with
    | zero => rfl
    | succ n => simp [settleN, h, Work.settled]
  exact this _

end Sys2Proof.Machine
end

