-- ==== Sys2Proof/Laws/Stops.lean ====
section
/-! SUPPORT. What the stopping operations make of a channel's record and of the admission queue: withdrawals, graceful
stops and cuts (R12 to R17, R42), one at a time and over a list. -/

namespace Sys2Proof.Machine

/-! ### Operations over the queue and the run leave the channel records alone -/

theorem lateCheck_chans (s : State) : (lateCheck s).chans = s.chans := by
  simp only [lateCheck]
  split
  · rfl
  · split <;> simp

theorem watchHead_chans (s : State) : (watchHead s).chans = s.chans := by
  simp only [watchHead]
  split
  · rfl
  · split
    · rfl
    · rw [lateCheck_chans]; rfl

theorem headGone_chans (s : State) : (headGone s).chans = s.chans := by
  simp only [headGone]
  split
  · rfl
  · exact watchHead_chans s

theorem dropFromQueue_chans (c : Ch) (s : State) : (dropFromQueue c s).chans = s.chans := by
  simp only [dropFromQueue]
  split
  · rfl
  · split
    · rfl
    · rw [headGone_chans]; rfl

theorem skipMember_chans (c : Ch) (n : Nat) (s : State) : (skipMember c n s).chans = s.chans := by
  simp only [skipMember]
  split <;> simp

theorem memberLeft_chans (s : State) : (memberLeft s).chans = s.chans := by
  simp only [memberLeft]
  split
  · split <;> rfl
  · rfl

theorem noticeAdmitted_chans (c : Ch) (s : State) : (noticeAdmitted c s).chans = s.chans := by
  simp only [noticeAdmitted]
  split
  · split
    · rw [memberLeft_chans]; rfl
    · rfl
  · rfl

theorem noticeWithdrawn_chans (c : Ch) (w : Withdrawal) (s : State) : (noticeWithdrawn c w s).chans = s.chans := by
  simp only [noticeWithdrawn]
  split
  · split
    · rw [memberLeft_chans]
      cases w <;> simp only
      · rw [if_pos trivial, skipMember_chans]; rfl
      · split
        · rw [skipMember_chans]; rfl
        · rfl
      · rfl
    · rfl
  · rfl

/-! ### The source state is left alone -/

theorem lateCheck_source (s : State) : (lateCheck s).source = s.source := by
  simp only [lateCheck]
  split
  · rfl
  · split <;> simp

theorem watchHead_source (s : State) : (watchHead s).source = s.source := by
  simp only [watchHead]
  split
  · rfl
  · split
    · rfl
    · rw [lateCheck_source]; rfl

theorem headGone_source (s : State) : (headGone s).source = s.source := by
  simp only [headGone]
  split
  · rfl
  · exact watchHead_source s

theorem dropFromQueue_source (c : Ch) (s : State) : (dropFromQueue c s).source = s.source := by
  simp only [dropFromQueue]
  split
  · rfl
  · split
    · rfl
    · rw [headGone_source]; rfl

theorem skipMember_source (c : Ch) (n : Nat) (s : State) : (skipMember c n s).source = s.source := by
  simp only [skipMember]
  split <;> simp

theorem memberLeft_source (s : State) : (memberLeft s).source = s.source := by
  simp only [memberLeft]
  split
  · split <;> rfl
  · rfl

theorem noticeWithdrawn_source (c : Ch) (w : Withdrawal) (s : State) :
    (noticeWithdrawn c w s).source = s.source := by
  simp only [noticeWithdrawn]
  split
  · split
    · rw [memberLeft_source]
      cases w <;> simp only
      · rw [if_pos trivial, skipMember_source]; rfl
      · split
        · rw [skipMember_source]; rfl
        · rfl
      · rfl
    · rfl
  · rfl

theorem switchOff_source (c : Ch) (s : State) : (switchOff c s).source = s.source := by simp [switchOff]

theorem withdraw_source (c : Ch) (w : Withdrawal) (s : State) : (withdraw c w s).source = s.source := by
  simp only [withdraw]
  split
  · rw [noticeWithdrawn_source, enterState_source, dropFromQueue_source]
  · rfl

theorem takeWarningExpiry_source (c : Ch) (s : State) : (takeWarningExpiry c s).source = s.source := by
  simp only [takeWarningExpiry]
  split
  · exact switchOff_source c s
  · rfl

theorem startWarning_source (c : Ch) (s : State) : (startWarning c s).source = s.source := by
  simp only [startWarning]
  split
  · rw [takeWarningExpiry_source]; simp
  · simp

/-- Only a leak cause reaches the source records: it takes the channel out of the restore-placed set (R17, R124). -/
theorem markForStop_source (c : Ch) (w : StopCause) (s : State) :
    (markForStop c w s).source =
      if w = .leak then { s.source with placed := setErase c s.source.placed } else s.source := by
  cases w <;> simp only [markForStop] <;> try rfl
  all_goals split <;> rfl

/-! ### One channel -/

/-- The record of a channel after the mark of a stop or cut (R17). -/
def Channel.marked (w : StopCause) (r : Channel) : Channel :=
  match w with
  | .ladder | .deficit => if r.state = .on ∨ r.state = .ramping then { r with shed := true } else r
  | .leak => { r with shed := false }
  | .host | .plan | .source => r

@[simp] theorem Channel.marked_state (w : StopCause) (r : Channel) : (r.marked w).state = r.state := by
  cases w <;> simp only [Channel.marked] <;> split <;> rfl

theorem switchOff_ch (c d : Ch) (s : State) :
    (switchOff c s).ch d = if d = c then (s.ch c).switchedOff s.now else s.ch d := by
  simp only [switchOff, enterState_ch, releaseEnable_ch, if_true]
  split <;> rfl

theorem withdraw_ch (c d : Ch) (w : Withdrawal) (s : State) :
    (withdraw c w s).ch d =
      if d = c ∧ (s.ch c).state = .pending then (s.ch c).withdrawn s.now else s.ch d := by
  simp only [withdraw]
  by_cases h : (s.ch c).state = .pending
  · have hd : ∀ e, (dropFromQueue c s).ch e = s.ch e := fun e => by
      simp only [State.ch, dropFromQueue_chans]
    have hn : (dropFromQueue c s).now = s.now := congrArg Fixed.now (dropFromQueue_fixed c s)
    rw [if_pos h]
    have : ∀ t : State, (noticeWithdrawn c w t).ch d = t.ch d := fun t => by
      simp only [State.ch, noticeWithdrawn_chans]
    rw [this, enterState_ch, hd, hd, hn]
    by_cases hdc : d = c <;> simp [hdc, h, Channel.enter, Channel.withdrawn]
  · rw [if_neg h]; simp [h]

theorem markForStop_ch (c d : Ch) (w : StopCause) (s : State) :
    (markForStop c w s).ch d = if d = c then (s.ch c).marked w else s.ch d := by
  have hself : s.ch d = if d = c then s.ch c else s.ch d := by split <;> simp_all
  cases w <;> simp only [markForStop, Channel.marked]
  · exact hself
  · exact hself
  · exact clearShed_ch c d s
  all_goals first
    | exact hself
    | (split
       · simp [State.modCh_ch]
       · exact hself)

theorem markForStop_fields (c : Ch) (w : StopCause) (s : State) :
    (markForStop c w s).now = s.now ∧ (markForStop c w s).cfg = s.cfg ∧
      (markForStop c w s).source.state = s.source.state ∧ (markForStop c w s).budget = s.budget := by
  cases w <;> simp only [markForStop] <;> first | exact ⟨trivial, trivial, trivial, trivial⟩ | exact ⟨rfl, rfl, rfl, rfl⟩ | (split <;> exact ⟨rfl, rfl, rfl, rfl⟩)

theorem warningTime_congr (c : Ch) {s t : State} (h1 : t.cfg = s.cfg) (h2 : t.source.state = s.source.state) :
    warningTime t c = warningTime s c := by
  simp [warningTime, State.chCfg, h1, h2]

theorem startWarning_ch (c d : Ch) (s : State) (h : (s.ch c).state = .on) :
    (startWarning c s).ch d = if d = c then (s.ch c).stopped s.now (warningTime s c) else s.ch d := by
  simp only [startWarning]
  have hw : ∀ e, (enterState c .warning (s.modCh c fun r => { r with warn := some (s.timer (warningTime s c)) })).ch e =
      if e = c then { s.ch c with state := .warning, since := s.now, warn := some ⟨s.now, warningTime s c⟩ }
      else s.ch e := by
    intro e
    simp only [enterState_ch, State.modCh_ch, if_true]
    split <;> simp_all [Channel.enter, State.timer]
  by_cases h0 : warningTime s c = 0
  · rw [if_pos h0, takeWarningExpiry, if_pos (by simp [hw]), switchOff_ch, hw]
    by_cases hd : d = c
    · simp [hd, Channel.stopped, h, h0, Channel.switchedOff]
    · simp [hd, hw]
  · rw [if_neg h0, hw]
    split <;> simp [Channel.stopped, h, h0]

/-- A graceful stop on the record of its channel and of any other (Table 1-4, R17). -/
theorem gracefulStop_ch (w : StopCause) (c d : Ch) (s : State) :
    (gracefulStop w c s).ch d =
      if d = c then ((s.ch c).marked w).stopped s.now (warningTime s c) else s.ch d := by
  obtain ⟨h1, h2, h3, h4⟩ := markForStop_fields c w s
  have hm := fun e => markForStop_ch c e w s
  have hwt := warningTime_congr c h2 h3
  have hc : ((markForStop c w s).ch c) = (s.ch c).marked w := by rw [hm, if_pos rfl]
  simp only [gracefulStop]
  cases h : (s.ch c).state <;> simp only
  · rw [hm]; split <;> simp [Channel.stopped, h]
  · rw [withdraw_ch, hc, hm, h1]
    by_cases hd : d = c <;> simp [hd, h, Channel.stopped, Channel.marked_state]
  · rw [switchOff_ch, hc, hm, h1]
    by_cases hd : d = c <;> simp [hd, h, Channel.stopped, Channel.marked_state]
  · rw [startWarning_ch c d _ (by rw [hc, Channel.marked_state, h]), hc, hm, h1, hwt]
    by_cases hd : d = c <;> simp [hd]
  · rw [hm]; split <;> simp [Channel.stopped, h]
  · rw [hm]; split <;> simp [Channel.stopped, h]

/-- A cut on the record of its channel and of any other (Table 1-5, R17). -/
theorem cut_ch (w : StopCause) (c d : Ch) (s : State) :
    (cut w c s).ch d = if d = c then ((s.ch c).marked w).wasCut s.now else s.ch d := by
  obtain ⟨h1, -, -, -⟩ := markForStop_fields c w s
  have hm := fun e => markForStop_ch c e w s
  have hc : ((markForStop c w s).ch c) = (s.ch c).marked w := by rw [hm, if_pos rfl]
  simp only [cut]
  cases h : (s.ch c).state <;> simp only
  · rw [hm]; split <;> simp [Channel.wasCut, h]
  · rw [withdraw_ch, hc, hm, h1]
    by_cases hd : d = c <;> simp [hd, h, Channel.wasCut, Channel.marked_state]
  all_goals first
    | (rw [switchOff_ch, hc, hm, h1]
       by_cases hd : d = c <;> simp [hd, h, Channel.wasCut, Channel.marked_state])
    | (rw [hm]; split <;> simp [Channel.wasCut, h])

/-! ### A list of channels -/

/-- What an operation over a list without repeats makes of each channel's record, when it changes that channel's
record alone, by a rule of the record, the time, the settings and the source state, and leaves those as they are. -/
theorem forEach_ch (f : Ch → State → State) (g : Stamp → WorkCfg → SrcState → Ch → Channel → Channel)
    (hk : ∀ c s, (f c s).now = s.now ∧ (f c s).cfg = s.cfg ∧ (f c s).source.state = s.source.state)
    (hf : ∀ c d s, (f c s).ch d = if d = c then g s.now s.cfg s.source.state c (s.ch c) else s.ch d) :
    ∀ (l : List Ch), l.Nodup → ∀ (s : State) (d : Ch),
      (forEach l f s).ch d = if d ∈ l then g s.now s.cfg s.source.state d (s.ch d) else s.ch d := by
  intro l
  induction l with
  | nil => intro _ s d; rfl
  | cons a l ih =>
    intro hl s d
    have hn := List.nodup_cons.mp hl
    obtain ⟨k1, k2, k3⟩ := hk a s
    show (forEach l f (f a s)).ch d = _
    rw [ih hn.2, k1, k2, k3, hf]
    by_cases hd : d = a
    · subst hd; simp [hn.1]
    · simp [hd]

theorem gracefulStop_keeps (w : StopCause) (c : Ch) (s : State) :
    (gracefulStop w c s).now = s.now ∧ (gracefulStop w c s).cfg = s.cfg ∧
      (gracefulStop w c s).source.state = s.source.state := by
  refine ⟨congrArg Fixed.now (gracefulStop_fixed w c s), congrArg Fixed.cfg (gracefulStop_fixed w c s), ?_⟩
  have hm := (markForStop_fields c w s).2.2.1
  simp only [gracefulStop]
  split <;> simp [startWarning_source, withdraw_source, switchOff_source, hm]

theorem cut_keeps (w : StopCause) (c : Ch) (s : State) :
    (cut w c s).now = s.now ∧ (cut w c s).cfg = s.cfg ∧ (cut w c s).source.state = s.source.state := by
  refine ⟨congrArg Fixed.now (cut_fixed w c s), congrArg Fixed.cfg (cut_fixed w c s), ?_⟩
  have hm := (markForStop_fields c w s).2.2.1
  simp only [cut]
  split <;> simp [withdraw_source, switchOff_source, hm]

theorem forEach_gracefulStop_ch (w : StopCause) (l : List Ch) (hl : l.Nodup) (s : State) (d : Ch) :
    (forEach l (gracefulStop w) s).ch d =
      if d ∈ l then ((s.ch d).marked w).stopped s.now (warningTime s d) else s.ch d :=
  forEach_ch (gracefulStop w)
    (fun now cfg st c r => (r.marked w).stopped now
      (if st = .ride then min cfg.chan[c].warn cfg.ride.cap else cfg.chan[c].warn))
    (gracefulStop_keeps w) (gracefulStop_ch w) l hl s d

theorem forEach_cut_ch (w : StopCause) (l : List Ch) (hl : l.Nodup) (s : State) (d : Ch) :
    (forEach l (cut w) s).ch d = if d ∈ l then ((s.ch d).marked w).wasCut s.now else s.ch d :=
  forEach_ch (cut w) (fun now _ _ _ r => (r.marked w).wasCut now) (cut_keeps w) (cut_ch w) l hl s d

/-! ### The admission queue -/

theorem queuedChans_cons (e : Entry) (q : List Entry) : queuedChans (e :: q) = e.chans ++ queuedChans q := by
  simp [queuedChans]

/-- An entry without a channel names the others (R42). -/
theorem Entry.drop_chans (c : Ch) (e : Entry) :
    (match e.drop c with
      | some f => f.chans
      | none => []) = e.chans.filter (· ≠ c) := by
  rcases e with ⟨n, f, o, j, r, w⟩
  cases n with
  | single d =>
    by_cases h : d = c <;> simp [Entry.drop, Entry.chans, h]
  | gang g ms =>
    by_cases h : ms.all (· == c) = true
    · have h' : ∀ x ∈ ms, x = c := by simpa using h
      simp only [Entry.drop, if_pos h, Entry.chans]
      exact (List.filter_eq_nil_iff.mpr fun x hx => by simp [h' x hx]).symm
    · simp only [Entry.drop, if_neg h, Entry.chans, setErase]

theorem queuedChans_drop (c : Ch) (q : List Entry) :
    queuedChans (q.filterMap (Entry.drop c)) = (queuedChans q).filter (· ≠ c) := by
  induction q with
  | nil => rfl
  | cons e q ih =>
    have he := Entry.drop_chans c e
    rw [queuedChans_cons, List.filter_append, ← he, ← ih]
    cases h : e.drop c <;> simp [h, queuedChans_cons]

theorem lateCheck_queued (s : State) : queuedChans (lateCheck s).budget.queue = queuedChans s.budget.queue := by
  simp only [lateCheck]
  split
  · rfl
  · next e q h =>
    split
    · rfl
    · simp only [State.modBudget_budget, h, queuedChans_cons]
      rfl

theorem watchHead_queued (s : State) : queuedChans (watchHead s).budget.queue = queuedChans s.budget.queue := by
  simp only [watchHead]
  split
  · rfl
  · split
    · rfl
    · rw [lateCheck_queued]; rfl

theorem headGone_queued (s : State) : queuedChans (headGone s).budget.queue = queuedChans s.budget.queue := by
  simp only [headGone]
  split
  · rfl
  · exact watchHead_queued s

theorem dropFromQueue_queued (c : Ch) (s : State) :
    queuedChans (dropFromQueue c s).budget.queue = (queuedChans s.budget.queue).filter (· ≠ c) := by
  simp only [dropFromQueue]
  split
  · next h => rw [h]; rfl
  · next e q h =>
    split
    · rw [h]; exact queuedChans_drop c (e :: q)
    · rw [headGone_queued, h]; exact queuedChans_drop c (e :: q)

theorem skipMember_budget (c : Ch) (n : Nat) (s : State) : (skipMember c n s).budget = s.budget := by
  simp only [skipMember]
  split <;> simp

theorem memberLeft_budget (s : State) : (memberLeft s).budget = s.budget := by
  simp only [memberLeft]
  split
  · split <;> rfl
  · rfl

theorem noticeWithdrawn_budget (c : Ch) (w : Withdrawal) (s : State) :
    (noticeWithdrawn c w s).budget = s.budget := by
  simp only [noticeWithdrawn]
  split
  · split
    · rw [memberLeft_budget]
      cases w <;> simp only
      · rw [if_pos trivial, skipMember_budget]; rfl
      · split
        · rw [skipMember_budget]; rfl
        · rfl
      · rfl
    · rfl
  · rfl

theorem enterState_queue (c : Ch) (st : ChState) (s : State) :
    (enterState c st s).budget.queue = s.budget.queue := by rw [enterState_budget]

theorem switchOff_queue (c : Ch) (s : State) : (switchOff c s).budget.queue = s.budget.queue := by
  simp [switchOff, enterState_queue]

/-- A withdrawal takes its channel out of the queue (R42). -/
theorem withdraw_queued (c : Ch) (w : Withdrawal) (s : State) :
    queuedChans (withdraw c w s).budget.queue =
      if (s.ch c).state = .pending then (queuedChans s.budget.queue).filter (· ≠ c)
      else queuedChans s.budget.queue := by
  simp only [withdraw]
  split
  · rw [noticeWithdrawn_budget, enterState_queue, dropFromQueue_queued]
  · rfl

theorem startWarning_queue (c : Ch) (s : State) : (startWarning c s).budget.queue = s.budget.queue := by
  simp only [startWarning, takeWarningExpiry]
  split
  · split
    · rw [switchOff_queue, enterState_queue]; rfl
    · rw [enterState_queue]; rfl
  · rw [enterState_queue]; rfl

/-- A graceful stop takes a PENDING channel out of the queue and leaves the queue alone otherwise (R12, R42). -/
theorem gracefulStop_queued (w : StopCause) (c : Ch) (s : State) :
    queuedChans (gracefulStop w c s).budget.queue =
      if (s.ch c).state = .pending then (queuedChans s.budget.queue).filter (· ≠ c)
      else queuedChans s.budget.queue := by
  have hb := (markForStop_fields c w s).2.2.2
  have hc : ((markForStop c w s).ch c).state = (s.ch c).state := by
    rw [markForStop_ch, if_pos rfl, Channel.marked_state]
  simp only [gracefulStop]
  cases h : (s.ch c).state <;> simp [startWarning_queue, switchOff_queue, withdraw_queued, hb, hc, h]

/-- A cut takes a PENDING channel out of the queue and leaves the queue alone otherwise (R14, R42). -/
theorem cut_queued (w : StopCause) (c : Ch) (s : State) :
    queuedChans (cut w c s).budget.queue =
      if (s.ch c).state = .pending then (queuedChans s.budget.queue).filter (· ≠ c)
      else queuedChans s.budget.queue := by
  have hb := (markForStop_fields c w s).2.2.2
  have hc : ((markForStop c w s).ch c).state = (s.ch c).state := by
    rw [markForStop_ch, if_pos rfl, Channel.marked_state]
  simp only [cut]
  cases h : (s.ch c).state <;> simp [switchOff_queue, withdraw_queued, hb, hc, h]

/-! ### Slots and free choices -/

/-- The slot records and the count of free choices taken. -/
def aside (s : State) : Shelf × Nat := (s.shelf, s.orders)

theorem lateCheck_aside (s : State) : aside (lateCheck s) = aside s := by
  simp only [lateCheck]
  split
  · rfl
  · split <;> simp [aside]

theorem watchHead_aside (s : State) : aside (watchHead s) = aside s := by
  simp only [watchHead]
  split
  · rfl
  · split
    · rfl
    · rw [lateCheck_aside]; rfl

theorem headGone_aside (s : State) : aside (headGone s) = aside s := by
  simp only [headGone]
  split
  · rfl
  · exact watchHead_aside s

theorem dropFromQueue_aside (c : Ch) (s : State) : aside (dropFromQueue c s) = aside s := by
  simp only [dropFromQueue]
  split
  · rfl
  · split
    · rfl
    · rw [headGone_aside]; rfl

theorem skipMember_aside (c : Ch) (n : Nat) (s : State) : aside (skipMember c n s) = aside s := by
  simp only [skipMember]
  split <;> simp [aside]

theorem memberLeft_aside (s : State) : aside (memberLeft s) = aside s := by
  simp only [memberLeft]
  split
  · split <;> rfl
  · rfl

theorem noticeWithdrawn_aside (c : Ch) (w : Withdrawal) (s : State) :
    aside (noticeWithdrawn c w s) = aside s := by
  simp only [noticeWithdrawn]
  split
  · split
    · rw [memberLeft_aside]
      cases w <;> simp only
      · rw [if_pos trivial, skipMember_aside]; rfl
      · split
        · rw [skipMember_aside]; rfl
        · rfl
      · rfl
    · rfl
  · rfl

theorem enterState_aside (c : Ch) (st : ChState) (s : State) : aside (enterState c st s) = aside s := by
  simp [aside]

theorem switchOff_aside (c : Ch) (s : State) : aside (switchOff c s) = aside s := by simp [switchOff, aside]

theorem withdraw_aside (c : Ch) (w : Withdrawal) (s : State) : aside (withdraw c w s) = aside s := by
  simp only [withdraw]
  split
  · rw [noticeWithdrawn_aside, enterState_aside, dropFromQueue_aside]
  · rfl

theorem startWarning_aside (c : Ch) (s : State) : aside (startWarning c s) = aside s := by
  simp only [startWarning, takeWarningExpiry]
  split
  · split
    · rw [switchOff_aside, enterState_aside]; rfl
    · rw [enterState_aside]; rfl
  · rw [enterState_aside]; rfl

theorem markForStop_aside (c : Ch) (w : StopCause) (s : State) : aside (markForStop c w s) = aside s := by
  cases w <;> simp only [markForStop] <;> first | rfl | (split <;> rfl)

theorem gracefulStop_aside (w : StopCause) (c : Ch) (s : State) : aside (gracefulStop w c s) = aside s := by
  simp only [gracefulStop]
  split <;> simp only [startWarning_aside, switchOff_aside, withdraw_aside, markForStop_aside]

theorem cut_aside (w : StopCause) (c : Ch) (s : State) : aside (cut w c s) = aside s := by
  simp only [cut]
  split <;> simp only [switchOff_aside, withdraw_aside, markForStop_aside]

end Sys2Proof.Machine
end

