-- ==== Sys2Proof/Tests/Slice0.lean ====
section
/-! SUPPORT. Tests on fixed values taken from the manual's worked cases and rules, and a witness for the hypotheses of
each obligation. -/

namespace Sys2Proof.Tests

open Sys2Proof Sys2Proof.Machine

/-! ### Small states -/

/-- A line on the manager port with the tag P1. -/
def mgr : LineId := ⟨.manager, ['P', '1']⟩

/-- A line on the service port with the tag S1. -/
def svc : LineId := ⟨.service, ['S', '1']⟩

/-- A rectifier slot with a sample of the given state and capacity. -/
def rectOf (x : RectState) (rated avail : Nat) : Rect := ⟨x, true, 0, some ⟨rated, avail, true, true, false, 0⟩, some 0, true, none⟩

/-- A part that runs, in GRID, with the factory configuration, a normal bus, RM0 online and every other record cold. -/
def base : State :=
  { State.reset with
    power := .running
    source := { Source.cold with state := .grid }
    shelf := { Shelf.cold with busLow := false, rect := (Vector.replicate 8 Rect.cold).set 0 (rectOf .online 18000 18000) } }

/-- The same in another source state. -/
def inState (x : SrcState) : State := base.modSource fun y => { y with state := x }

/-- The state after a command, or the state itself if the command had no next state. -/
def after (i : Instr) (s : State) : State :=
  match exec i s with
  | .next t => t
  | .fault _ => s
  | .refused _ => s

/-- One channel put into a state. -/
def put (c : Ch) (x : ChState) (s : State) : State := s.modCh c fun r => { r with state := x }

/-- One channel configured with an allocation, an inrush allowance and a tier. -/
def conf (c : Ch) (alloc inrush : Nat) (t : Tier) (s : State) : State :=
  s.modCfg fun w => { w with chan := w.chan.set c ⟨true, alloc, inrush, t, 5000, 1000⟩ }

/-- The lines in the output of the manager port. -/
def sent (s : State) : List (List Char) := (s.link.manager.output.map OutItem.lines).flatten

/-- A battery slot with usable energy, full energy, discharge limit and charge request. -/
def battOf (x : BattState) (usable full limit request : Nat) : Batt :=
  ⟨x, true, 0, some ⟨full, usable, limit, request, false, false, false, false⟩, some 0, 0, false⟩

/-- A timer of ten milliseconds. -/
def ten : Timer := ⟨0, 10⟩

/-! ### Well-formed commands -/

theorem test_wellFormed_good_ping : (Instr.ping mgr).wellFormed = true := by decide
theorem test_wellFormed_refuses_empty_tag : (Instr.ping ⟨.manager, []⟩).wellFormed = false := by decide
theorem test_wellFormed_refuses_long_tag : (Instr.ping ⟨.manager, "ABCDE".toList⟩).wellFormed = false := by decide
theorem test_wellFormed_refuses_tag_sign : (Instr.ping ⟨.manager, "A-".toList⟩).wellFormed = false := by decide
theorem test_wellFormed_refuses_reading_4096 :
    (Instr.leakScan (Vector.replicate 16 4096)).wellFormed = false ∧
      (Instr.leakScan (Vector.replicate 16 4095)).wellFormed = true := by decide
theorem test_wellFormed_refuses_cr : (Instr.lineArrival .manager ['A', '\r']).wellFormed = false := by decide
theorem test_wellFormed_refuses_lf : (Instr.lineArrival .manager ['A', '\n']).wellFormed = false := by decide
theorem test_wellFormed_refuses_not_ascii :
    (Instr.lineArrival .manager [Char.ofNat 128]).wellFormed = false := by decide
theorem test_wellFormed_refuses_gang_as_channel :
    (Instr.channelStart mgr { gang := some 1 }).wellFormed = false := by decide
theorem test_wellFormed_refuses_channel_as_gang :
    (Instr.channelStartGang mgr { ch := some 1 }).wellFormed = false := by decide
theorem test_wellFormed_refuses_gang_of_nothing : (Instr.channelStartGang mgr {}).wellFormed = false := by decide

/-! ### Lines as the ports carry them (Chapter 9) -/

/-- R170: the line of the manual's checksum account. -/
theorem test_ping_as_text :
    sent (after (.lineArrival .manager "P1 PING *EF".toList) base) = ["P1 OK port=MANAGER *78".toList] := by decide

/-- R171: a wrong check discards the line and counts it. -/
theorem test_wrong_check_is_discarded :
    (after (.lineArrival .manager "P1 PING *EE".toList) base).link.manager.rejected = 1 := by decide

/-- R172: a verb row and its text are one command. -/
theorem test_channel_start_as_text :
    (after (.lineArrival .manager (withCheck "P1 CHANNEL START ch=1".toList)) (conf 1 100 100 1 base)).chans =
      (after (.channelStart mgr { ch := some 1 }) (conf 1 100 100 1 base)).chans := by decide

/-- Table 9-3: an unknown verb is a syntax error. -/
theorem test_unknown_verb :
    (after (.lineArrival .manager (withCheck "P1 PONG".toList)) base).link.manager.output.map (fun o => o.reply.status) =
      [.err .syntaxError] := by decide

/-! ### The worked budget case (Chapter 2) -/

/-- The shelf of the worked budget case: seven rectifiers counted, the batteries of the charge case. -/
def worked : State :=
  let s := { base with
    cfg := { base.cfg with charge := { base.cfg.charge with limit := 6000 } }
    source := { base.source with chargeFirst := true, request := 7500 }
    shelf := { base.shelf with
      rect := #v[rectOf .online 18000 18000, rectOf .online 18000 18000, rectOf .online 18000 18000,
        rectOf .online 18000 18000, rectOf .online 18000 18000, rectOf .online 18000 18000,
        rectOf .derated 18000 12000, rectOf .faulted 18000 18000]
      batt := #v[battOf .charging 3900 4400 0 2500, battOf .standby 4400 4400 0 600, battOf .standby 3100 4400 0 4000,
        battOf .charging 4200 4400 0 1000, battOf .depleted 0 4400 0 3000, .cold] } }
  let on := forEach (allCh.filter (·.val < 16)) fun c s => put c .on (conf c 5050 0 0 s)
  (put 21 .pending (conf 21 3500 2000 0 ((put 20 .ramping (conf 20 3500 2500 0 (on s))).modCh 20 fun r =>
    { r with admitted := some 2500 }))).modBudget fun b =>
      { b with queue := [⟨.single 21, none, .host, 0, false, false⟩] }

/-- Table 2-2. -/
theorem test_worked_budget_figures :
    (evaluate worked).budget.figs =
      { counted := [0, 1, 2, 3, 4, 5, 6], raw := 120000, red := 18000, guard := 5100, firm := 96900, com := 84300
        m := 12600, fact := 3000, h := 9600, o := 2500, chg := 6000 } := by decide

/-- Table 6-2. -/
theorem test_worked_charge_division :
    (allBm.map fun n => (evaluate worked).shelf.batt[n].chargeLimit) = [2500, 0, 3500, 0, 0, 0] := by decide

/-- The head of the worked budget case is admitted. -/
theorem test_worked_head_is_admitted :
    ((examine (evaluate worked)).ch 21).state = .ramping ∧ (examine (evaluate worked)).budget.queue = [] := by decide

/-- The figures after the admission. -/
theorem test_worked_figures_after_admission :
    let f := (evaluate (examine (evaluate worked))).budget.figs
    f.com = 87800 ∧ f.m = 9100 ∧ f.h = 6100 ∧ f.o = 4500 ∧ f.chg = 6000 := by decide

/-- Table 2-5, first row: RM3 faulted leaves a negative margin, and the grace timer runs. -/
theorem test_worked_deficit :
    let s := evaluate ((examine (evaluate worked)).modRect 3 fun _ => rectOf .faulted 18000 18000)
    s.budget.figs.firm = 79800 ∧ s.budget.figs.m = -8000 ∧ s.budget.figs.chg = 0 ∧ s.budget.grace = some ⟨0, 2000⟩ := by
  decide

/-- Table 2-4, first row: the gang degrades and its first member is admitted. -/
def gangOfFive : State :=
  (forEach [20, 21, 22, 23] (fun c s => put c .pending (conf c 3500 2000 0 s)) base).modBudget fun b => { b with
    figs := { b.figs with h := 20000 }
    queue := [⟨.gang 5 [20, 21, 22, 23], none, .host, 0, false, false⟩] }

theorem test_worked_gang_splits :
    let s := examine gangOfFive
    queuedChans s.budget.queue = [21, 22, 23] ∧ (s.ch 20).state = .ramping ∧
      s.budget.spacing = some (5, ⟨0, 200⟩) := by decide

/-! ### The worked cases of the shelf link, the ride and the leak example (Chapters 4, 5 and 7) -/

/-- Table 4-8, last row: the third miss of RM4. -/
theorem test_third_miss_is_lost :
    let s := (base.modRect 4 fun _ => { rectOf .online 18000 18000 with misses := 2 }).modShelf fun h =>
      { h with inRound := true, poll := some ⟨4, ⟨0, 20⟩, .rect true none⟩ }
    let t := after .responseTimeout s
    t.shelf.rect[4].state = .lost ∧ t.shelf.rect[4].misses = 3 ∧ t.shelf.poll.map Poll.slot = some 5 := by decide

/-- The rack of the worked outage, with CH18 standing for the loads of tier 3, CH12 of tier 2, CH8 and CH9 of tier 1, CH0
and CH1 of tier 0. -/
def outage : State :=
  let on := fun (x : Ch × Nat × Tier) (s : State) =>
    (put x.1 .on (conf x.1 20000 0 x.2.2 s)).modCh x.1 fun r => { r with draw := x.2.1 }
  let s := forEach [(0, 15000, 0), (1, 15000, 0), (8, 13000, 1), (9, 13000, 1), (12, 22500, 2), (18, 9500, 3)] on base
  { s with
    cfg := { s.cfg with ride := { s.cfg.ride with eff := 940, target := 180, reserve := 20, cap := 2000 }, down := some 40 }
    shelf := { s.shelf with
      busLow := false, debounce := some ten
      rect := Vector.replicate 8 (rectOf .online 18000 18000)
      batt := #v[battOf .standby 4100 4400 30000 0, battOf .standby 4250 4400 30000 0, battOf .standby 3980 4400 30000 0,
        battOf .standby 4300 4400 30000 0, battOf .depleted 0 4400 0 0, .cold] } }

/-- Table 5-5: the bus is declared low, level 1 is chosen and tier 3 is shed with the capped warning. -/
theorem test_worked_outage_begins :
    let s := after .debounceTimerExpiry outage
    s.source.state = .ride ∧ s.source.level = 1 ∧ s.source.hold = some 199 ∧ (s.ch 18).state = .warning ∧
      (s.ch 18).shed = true ∧ (s.ch 18).warn = some ⟨0, 2000⟩ ∧ (s.ch 12).state = .on := by decide

/-- Table 5-6, the line at 745,000: the reserve action starts the down plan. -/
theorem test_worked_reserve :
    let s := { outage with
      source := { outage.source with state := .ride, level := 3 }
      shelf := { outage.shelf with batt := #v[battOf .discharging 660 4400 30000 0, .cold, .cold, .cold, .cold, .cold] } }
    let low := forEach [8, 9, 12, 18] (fun c s => put c .off (s.modCh c fun r => { r with draw := 0 })) s
    let t := rideEvaluation low
    t.source.hold = some 20 ∧ t.source.reserveTaken = true ∧ t.run.map (fun r => (r.kind, r.cursor)) = some (.down, 40) := by
  decide

/-- LZ3 of the slow drip, as it stands after the reading at 800,500. -/
def drip : State :=
  { base with
    now := 800600
    cfg := { base.cfg with
      zone := base.cfg.zone.set 3 { defaultZone with pats := [0, 1] }
      pats := base.cfg.pats.set 1 ⟨true, [(0, .wet), (1, .dry), (2, .wet), (3, .dry), (4, .wet)], 5⟩ }
    zones := base.zones.set 3 { base.zones[3] with cls := some .dry, history := [.dry, .wet, .dry, .wet, .dry] } }

set_option maxRecDepth 8192 in
/-- Table 7-4 at 800,600: QP1 alone matches, and the zone latches. -/
theorem test_worked_drip_latches :
    let s := after (.leakScan ((Vector.replicate 16 2000).set 3 950)) drip
    s.zones[3].state = .wet ∧ s.zones[3].matched = [1] ∧ s.zones[3].esc = some ⟨800600, 30000⟩ ∧
      s.zones[3].wetSince = some 800600 := by decide

set_option maxRecDepth 8192 in
/-- The two LEAK CLEARs of the slow drip: refused at once, taken after the DRY sample. -/
theorem test_worked_drip_clears :
    let s := after (.leakScan ((Vector.replicate 16 2000).set 3 950)) drip
    let t := after (.leakScan (Vector.replicate 16 2000)) s
    (runCommand (.leakClear mgr (some 3)) s).2 = { status := .err .notDry, fields := [fNums "mat" []] } ∧
      (runCommand (.leakClear mgr (some 3)) t).2.status = .ok ∧
      (runCommand (.leakClear mgr (some 3)) t).1.zones[3].state = .watch := by decide

/-! ### Boundary values of single rules -/

set_option maxRecDepth 8192 in
/-- R5: an ON channel is marked overdrawn above its allocation, not at it. -/
theorem test_overdraw_above_the_allocation :
    let s := put 0 .on (conf 0 100 0 0 base)
    ((after (.channelSenseScan ((Vector.replicate 24 0).set 0 100)) s).ch 0).overdrawn = false ∧
      ((after (.channelSenseScan ((Vector.replicate 24 0).set 0 101)) s).ch 0).overdrawn = true := by decide

/-- R2: the enable line of a WARNING channel stays up and its warning line is up. -/
theorem test_lines_of_warning :
    enableLine (put 0 .warning base) 0 = true ∧ warningLine (put 0 .warning base) 0 = true ∧
      enableLine (put 0 .pending base) 0 = false := by decide

/-- R91: the normal level is above the threshold and the hysteresis. -/
theorem test_bus_normal_above_45600 :
    let s := base.modShelf fun h => { h with busLow := true }
    (after (.busSample 45600) s).shelf.busLow = true ∧ (after (.busSample 45601) s).shelf.busLow = false := by decide

/-- R134: the wet and open levels belong to WET and CABLE. -/
theorem test_levels_of_a_reading :
    (sampleZone 0 1200 base).1.zones[0].cls = some .wet ∧ (sampleZone 0 1201 base).1.zones[0].cls = some .dry ∧
      (sampleZone 0 3800 base).1.zones[0].cls = some .cable := by decide

/-- R190: a HOLD counter stops at its limit and overflows on reaching it; a WRAP counter goes on from 0. -/
theorem test_tally_limits :
    Counter.take .channelStarts ⟨.channelStarts, true, .hold, 4294967294, false⟩ =
        ⟨.channelStarts, true, .hold, 4294967295, true⟩ ∧
      (Counter.take .channelStarts ⟨.channelStarts, true, .wrap, 4294967295, true⟩).value = 0 := by decide

/-- R187: a loss of power during a save leaves the store INVALID. -/
theorem test_power_loss_during_save : (after .powerLoss (after (.configSave mgr) base)).store = .invalid := by decide

/-- R157: two lines set the override mark of a held channel. -/
theorem test_override_in_two_lines :
    let s := base.modCh 4 fun r => { r with holds := [2] }
    let t := after (.overrideCommit svc (some 4)) (after (.outputLineSent .service) (after (.overridePrepare svc (some 4)) s))
    (t.ch 4).override = true := by decide

/-- R160: a closed contact that is already present takes a commanded valve to CLOSED at once. -/
theorem test_valve_close_with_contact :
    let s := base.modValve 1 fun v => { v with state := .opened, closedContact := true }
    (after (.valveClose mgr (some 1)) s).resp.valve[1].state = .closed ∧
      closeDrive (after (.valveClose mgr (some 1)) s) 1 = false := by decide

/-- R177: an ordinary report does not displace an alarm, and the oldest ordinary one goes for an alarm. -/
theorem test_full_report_queue :
    let ordinary : Report := ⟨.saveDone, 0, none, none, none⟩
    let alarm : Report := ⟨.leakWet, 0, none, none, none⟩
    ReportOrder (queueJoin alarm (List.replicate 32 ordinary)).1 ∧
      (queueJoin alarm (List.replicate 32 ordinary)).1.head? = some alarm := by
  unfold ReportOrder
  decide

/-- R41: a head is late when its waiting time exceeds the late time, one millisecond after it reaches it. -/
theorem test_late_timer_exceeds :
    (after (.channelStart mgr { ch := some 3 }) (conf 3 100 100 1 (base.modBudget fun b => { b with
      figs := { b.figs with h := -1 } }))).budget.late = some ⟨0, defaultCfg.policy.late + 1⟩ := by decide

/-- R78: the poll of RM1 carries its set-points as they stood when it was sent, and a disable waits for the next poll. -/
theorem test_poll_carries_the_set_points :
    let s := base.modShelf fun h => { h with inRound := true, poll := some ⟨0, ten, .rect true none⟩ }
    let t := after .responseTimeout s
    t.shelf.poll.map Poll.carries = some (.rect true none) ∧
      (after (.rectifierDisable mgr (some 1)) t).shelf.poll.map Poll.carries = some (.rect true none) ∧
      (after .responseTimeout (after (.rectifierDisable mgr (some 2)) t)).shelf.poll.map Poll.carries =
        some (.rect false none) := by decide

/-- R78 and R99: a sample that takes HANDBACK back to RIDE leaves the poll sent at its end with the set-points from before. -/
theorem test_poll_precedes_the_sample :
    let s := ((inState .handback).modSource fun y => { y with origin := some .ride, walkIn := some ten }).modShelf fun h => { h with
      inRound := true, poll := some ⟨0, ten, .rect true (some 700)⟩
      rect := h.rect.set 1 { Rect.cold with walkIn := some 700 } }
    let t := after (.shelfResponse ⟨false, true, .rect 0 ⟨18000, 18000, true, false, false, 0⟩⟩) s
    t.source.lastEval = some 0 ∧ t.shelf.poll.map Poll.carries = some (.rect true (some 700)) ∧
      t.shelf.rect[1].walkIn = none := by decide

/-- R128: a manager line at stage 2 ends the silence without a report. -/
theorem test_line_ends_the_silence :
    let s := base.modSource fun x => { x with stage := 2, policy := .auto }
    let t := after (.ping mgr) s
    t.source.stage = 0 ∧ t.source.policy = .host ∧ t.link.manager.queue = [] := by decide

/-- R142: a LEAK CLEAR refused with STATE names the matching patterns. -/
theorem test_leak_clear_state_names_patterns :
    (runCommand (.leakClear mgr (some 3)) drip).2 = { status := .err .state, fields := [fNums "mat" []] } := by decide

/-- R57, R62 and R66: a step that is complete when the reserve action of the same event comes counts, and its run is DONE
before the DOWN run begins. -/
theorem test_step_completes_before_the_reserve_run :
    let r : Run := { state := .waiting, kind := .down, origin := .host, entry := 0, endStep := 0, unterminated := false
                     cursor := 0, phase := .step, pauseCause := none, gap := none, gapLeft := 0, outstanding := [], done := 0
                     admitted := 0, skipped := 1, admittedSet := [], startedAt := 0 }
    let s := (put 0 .on (conf 0 9000 0 0
      { inState .ride with run := some r, work := { Work.none with plan := .complete, ride := true } })).modCh 0 fun c => { c with draw := 9000 }
    let t := settle { s with
      cfg := { s.cfg with down := some 40 }
      shelf := { s.shelf with batt := #v[battOf .discharging 1 4400 30000 0, .cold, .cold, .cold, .cold, .cold] } }
    t.source.reserveTaken = true ∧ t.run.map Run.entry = some 40 ∧
      (t.link.manager.queue.filter fun x => x.kind = .planEnded).map (fun x => (x.subject, x.v1, x.v2)) =
        [(some 0, some 0, some 1), (some 40, some 0, some 1)] := by decide

/-- R115: at a warm reset in RIDE input return is tested first, and a rack that is then in QUALIFY takes no ride
evaluation. -/
theorem test_warm_reset_tests_return_before_the_ride :
    let s := put 0 .on (conf 0 0 0 3 (inState .ride))
    let t := after .resetPin s
    t.source.state = .qualify ∧ t.source.lastEval = none ∧ (t.ch 0).state = .on := by decide

/-! ### Witnesses for the hypotheses of the obligations, clause by clause, at the boundaries of their ranges -/

/-- Every condition of a ready manager port, as a test. -/
def quiet (s : State) : Bool :=
  decide (s.power = .running) && decide (s.work = .none) && s.link.manager.buffer.isEmpty && decide (s.source.stage = 0)

/-- A quiet part takes any verb's line on the manager port. -/
theorem takes (i : Instr) (s : State) (h : quiet s = true) (hv : (verbClass i).isSome = true) : CanTake mgr i s := by
  simp only [quiet, Bool.and_eq_true, decide_eq_true_eq, List.isEmpty_iff] at h
  obtain ⟨⟨⟨h1, h2⟩, h3⟩, h4⟩ := h
  refine ⟨⟨h1, h2, h3, fun _ => h4⟩, ?_⟩
  obtain ⟨k, hk⟩ := Option.isSome_iff_exists.mp hv
  simp [verbPermitted, mgr, hk, permits]

/-- The service port of `base` is ready. -/
theorem service_ready : Ready .service base := ⟨by decide, by decide, by decide, by decide⟩

theorem witness_PowerLossAndPowerUp :
    (∃ copy at', ({ base with store := .writing defaultCfg 5 } : State).store = .writing copy at') ∧
      (∃ image, ({ base with store := .valid defaultCfg } : State).store = .valid image) ∧ base.store = .invalid := by
  exact ⟨⟨_, _, rfl⟩, ⟨_, rfl⟩, rfl⟩

theorem witness_LoadCompletionStartsEveryBlock :
    State.reset.power = .loading ∧ (∀ image, State.reset.store ≠ .valid image) ∧
      (∃ image, ({ State.reset with store := .valid defaultCfg } : State).store = .valid image) ∧
      (let pins : PinSample := ⟨Vector.replicate 24 false, Vector.replicate 24 false, #v[true, true, false, false],
        #v[true, false, true, false]⟩
      pins.closed[0] = pins.opened[0] ∧ pins.closed[3] = pins.opened[3] ∧ pins.closed[1] ≠ pins.opened[1] ∧
        pins.closed[2] ≠ pins.opened[2]) := by
  exact ⟨rfl, by simp [State.reset], ⟨_, rfl⟩, by decide⟩

theorem witness_NothingHappensUnasked :
    State.reset.pending = [] ∧ takenAfterLoad .resetPin = true ∧ State.reset.power ≠ .running ∧
      takenAfterLoad .saveCompletion = true ∧ (after .powerLoss base).power = .off := by decide

/-- A part whose RESET has been answered and whose answer is the next to be sent. -/
def resetAnswered : State := after (.reset mgr) base

theorem witness_Resets :
    base.power = .running ∧ CanTake mgr (.reset mgr) base ∧ Ready .service base ∧
      (∃ o rest, resetAnswered.link.manager.output = o :: rest ∧ o.reply.resets = true) ∧ resetAnswered.power = .running ∧
      base.work = .none ∧ ∀ o ∈ base.link.manager.output, o.reply.resets = false := by
  refine ⟨rfl, takes _ _ (by decide) (by decide), service_ready, ⟨⟨['P', '1'], .line, ⟨.ok, [], [], true⟩, false⟩, [], ?_⟩, ?_⟩ <;>
    decide

theorem witness_SenseScanStoresClampedDraws :
    let s := put 23 .on (conf 23 100 0 0 base)
    s.power = .running ∧ (s.ch 23).state = .on ∧ (s.ch 23).overdrawn = false ∧
      (s.chCfg 23).alloc < min (101 : Int).toNat 32767 ∧ min (100 : Int).toNat 32767 ≤ (s.chCfg 23).alloc ∧
      min (-1 : Int).toNat 32767 = 0 ∧ min (32768 : Int).toNat 32767 = 32767 := by decide

theorem witness_ChannelEvents :
    (∀ x ∈ [ChState.off, .pending, .ramping, .on, .warning, .faulted], ∀ c ∈ [(0 : Ch), 23],
      (put c x base).power = .running ∧ ((put c x base).ch c).state = x) ∧
      (let s := base.modCh 0 fun r => { r with state := .warning, warn := some ten, powerGood := false }
      (s.ch 0).warn.isSome ∧ (s.ch 0).powerGood = false ∧ (s.ch 0).state = .warning) ∧
      ((base.modCh 0 fun r => { r with trayFault := true }).ch 0).trayFault = true ∧
      ((base.modCh 0 fun r => { r with state := .ramping, ramp := some ten }).ch 0).ramp.isSome ∧
      (base.ch 0).ramp = none ∧ (base.ch 0).warn = none ∧ (base.ch 0).confirm = none := by decide

theorem witness_StopConfirmExpiry :
    let t := fun x k pg => base.modCh 0 fun r => { r with state := x, fault := k, powerGood := pg, confirm := some ten }
    (∀ x ∈ [ChState.off, .pending, .faulted], ∀ pg, ((t x .noFault pg).ch 0).confirm.isSome ∧
      ((t x .noFault pg).ch 0).state = x ∧ ((t x .noFault pg).ch 0).powerGood = pg) ∧
      ((t .faulted .stuck true).ch 0).fault = .stuck ∧ ((t .faulted .drop true).ch 0).fault ≠ .stuck := by decide

/-- A queue with one entry at its head. -/
def queued (n : EntryName) (s : State) : State := s.modBudget fun b => { b with queue := [⟨n, none, .host, 0, false, false⟩] }

/-- A run at its first step. -/
def aRun : Run :=
  { state := .running, kind := .up, origin := .host, entry := 0, endStep := 1, unterminated := false, cursor := 0, phase := .step
    pauseCause := none, gap := none, gapLeft := 0, outstanding := [], done := 0, admitted := 0, skipped := 0
    admittedSet := [], startedAt := 0 }

/-- `base` with a run. -/
def running (r : Run) : State := { base with run := some r }

theorem witness_SpacingLateAndGapExpiries :
    base.budget.spacing = none ∧ base.budget.late = none ∧ base.run = none ∧
      (let s := base.modBudget fun b => { b with spacing := some (0, ten), late := some ten }
      s.budget.spacing.isSome ∧ s.budget.late.isSome ∧ s.budget.queue = [] ∧
        (queued (.single 0) s).budget.late.isSome ∧ ((queued (.single 0) s).budget.queue.map Entry.lateReported) = [false] ∧
        ((queued (.gang 5 [20]) s).budget.queue.map Entry.lateReported) = [false]) ∧
      (running { aRun with phase := .gap, gap := some ten }).run = some { aRun with phase := .gap, gap := some ten } ∧
      (running aRun).run = some aRun ∧ aRun.gap = none := by decide

theorem witness_GraceExpiryShedsTheHighestTier :
    let g := base.modBudget fun b => { b with grace := some ten }
    g.budget.grace.isSome ∧ g.budget.inflight = [] ∧ base.budget.grace = none ∧
      ({ g with budget := { g.budget with inflight := [3] } } : State).budget.inflight ≠ [] ∧
      (∀ c, (g.chCfg c).tier ≠ 0 → (g.ch c).state ≠ .ramping ∧ (g.ch c).state ≠ .on) ∧
      ∀ t ∈ [(1 : Tier), 3], let s := put 5 .on (conf 5 100 0 t g)
        s.budget.grace.isSome ∧ s.budget.inflight = [] ∧
          (∃ c, (s.chCfg c).tier = t ∧ ((s.ch c).state = .ramping ∨ (s.ch c).state = .on)) ∧
          ∀ c, t < (s.chCfg c).tier → (s.ch c).state ≠ .ramping ∧ (s.ch c).state ≠ .on := by decide

theorem witness_ShelfResponseIsSampleMissOrLate :
    let s := fun (p : SlotPos) => base.modShelf fun h => { h with inRound := true, poll := some ⟨p, ten, carried h p⟩ }
    (s 0).shelf.poll = some ⟨0, ten, .rect true none⟩ ∧ (s 13).shelf.poll = some ⟨13, ten, .batt 0 false⟩ ∧
      base.shelf.poll = none ∧ (s 13).power = .running ∧ (s 0).shelf.rect[0].present = true ∧ (s 13).shelf.batt[5].present = false := by decide

theorem witness_RoundTimer :
    let s := fun b => base.modShelf fun h => { h with inRound := b, roundTimer := some ten }
    (∀ b, (s b).shelf.roundTimer.isSome ∧ (s b).shelf.inRound = b) ∧ base.shelf.roundTimer = none := by decide

theorem witness_BusSamplesDeclareLowAndNormal :
    let thr := 45000
    base.cfg.ride.thr = 1 ∧ base.shelf.busLow = false ∧ base.shelf.debounce = none ∧ base.cfg.ride.deb ≠ 0 ∧
      thr ≤ min 45000 65535 ∧ min 44999 65535 < thr ∧ min 45600 65535 ≤ thr + 600 ∧ thr + 600 < min 45601 65535 ∧
      (let low := inState .ride |>.modShelf fun h => { h with busLow := true }
      let normal := { low with shelf := { low.shelf with busMv := 45601, busLow := false } }
      low.shelf.busLow = true ∧ inputReturn normal = true ∧ normal.cfg.ride.qual ≠ 0 ∧ normal.source.state = .ride) ∧
      (let empty := base.modShelf fun h => { h with busLow := false, rect := Vector.replicate 8 .cold }
      inputReturn empty = false) ∧
      (let deb := base.modShelf fun h => { h with debounce := some ten }
      deb.shelf.debounce.isSome ∧ deb.source.state = .grid) ∧
      (∀ x ∈ [RunState.running, .waiting, .paused, .done], ∀ k ∈ [RunKind.up, .down],
        let r := { aRun with kind := k, state := x }
        let deb := (running r).modShelf fun h => { h with debounce := some ten }
        deb.shelf.debounce.isSome ∧ deb.source.state = .grid ∧ deb.run = some r ∧ r.outstanding = []) ∧
      ({ base with cfg := { base.cfg with ride := { defaultRide with deb := 0 } } } : State).cfg.ride.deb = 0 := by decide

/-- A part in QUALIFY or HANDBACK with its timer running. -/
def returning (x : SrcState) (o : ReturnFrom) : State :=
  (inState x).modSource fun y => { y with origin := some o, qualify := some ten, walkIn := some ten }

theorem witness_QualifyAndWalkInExpiries :
    base.source.qualify = none ∧ base.source.walkIn = none ∧ (returning .qualify .ride).source.qualify.isSome ∧
      (returning .qualify .ride).source.state = .qualify ∧ (returning .qualify .ride).cfg.ride.walk ≠ 0 ∧
      ({ returning .qualify .ride with cfg := { defaultCfg with ride := { defaultRide with walk := 0 } } } : State).cfg.ride.walk = 0 ∧
      (returning .handback .down).source.walkIn.isSome ∧ (returning .handback .down).source.state = .handback ∧
      (∀ c ∈ [RunBy.host, .source], ∀ p ∈ [Phase.step, .gap], ∀ g ∈ [0, 1],
        let r := { aRun with state := .paused, pauseCause := some c, phase := p, gapLeft := g }
        ({ returning .handback .down with run := some r } : State).run = some r ∧ r.kind = .up) ∧
      (let r := { aRun with kind := .down, state := .waiting }
      let s := { returning .handback .down with
        run := some r, cfg := { defaultCfg with steps := defaultCfg.steps.set 0 ⟨.awaitGrid, none, 0, false⟩ } }
      s.run = some r ∧ s.cfg.steps[r.cursor].action = .awaitGrid) := by decide

theorem witness_RestoreAndRunAtTheEntryIntoGrid :
    (let s := ((conf 23 100 100 3 base).modCh 23 fun r => { r with shed := true }).modSource fun x => { x with policy := .auto }
    s.source.policy = .auto ∧ s.source.state = .grid ∧ s.source.chargeFirst = false ∧ (23 : Ch) ∉ s.source.placed ∧
      (s.ch 23).shed = true ∧ (s.ch 23).state = .off) ∧
      base.source.policy ≠ .auto ∧ (inState .ride).source.state ≠ .grid ∧ worked.source.chargeFirst = true ∧
      runActive (running aRun) = true ∧ base.cfg.up = none ∧
      (let s := { base with cfg := { base.cfg with up := some 47 } }
      runActive s = false ∧ s.cfg.up = some 47) := by decide

theorem witness_InputLossWhileReturning :
    (∀ x ∈ [SrcState.qualify, .handback], ∀ o ∈ [ReturnFrom.ride, .down],
      let s := (returning x o).modShelf fun h => { h with busLow := true }
      inputLoss s = true ∧ s.source.state = x ∧ s.source.origin = some o) ∧
      inputReturn (inState .down) = true ∧ (inState .down).source.state = .down ∧ (inState .down).cfg.ride.qual ≠ 0 ∧
      (let q := { inState .down with cfg := { defaultCfg with ride := { defaultRide with qual := 0 } } }
      q.cfg.ride.qual = 0 ∧ q.cfg.ride.walk ≠ 0) := by decide

set_option maxRecDepth 8192 in
theorem witness_SilenceStagesAndTheirEnd :
    (∀ n ∈ [1, 2], let s := base.modSource fun x => { x with stage := n, policy := if n = 2 then .auto else x.policy }
      s.power = .running ∧ s.work = .none ∧ s.source.stage ≠ 0 ∧ s.source.stage ≤ 2 ∧
        s.source.policy = (if s.source.stage = 2 then .auto else s.cfg.charge.policy) ∧
        (s.port .manager).overlong = false ∧ (receivedLine ((s.port .manager).rx ++ "P1 PING *EF".toList)).isSome) ∧
      (Instr.ping mgr).line? = some mgr := by decide

theorem witness_SilenceTimerRuns :
    base.source.silence = none ∧ ∀ n ∈ [0, 1], let s := base.modSource fun x => { x with silence := some ten, stage := n }
      s.power = .running ∧ s.source.silence.isSome ∧ s.source.stage = n := by decide

theorem witness_LeakScanJudgesEveryZone :
    let r : RespEntry := ⟨.cut, [23], some 3, .nothing, false⟩
    let s := { base with
      cfg := { base.cfg with resp := base.cfg.resp.set 15 r }
      zones := base.zones.set 15 { base.zones[15] with history := [.wet, .wet] } }
    (s.zones[15].state ≠ .wet ∧ s.zones[15].state ≠ .escalated ∧
      (zoneAfterScan s.cfg s.now 15 1200 s.zones[15]).state = .wet) ∧ s.cfg.resp[15].action ≠ .report ∧
      s.cfg.resp[15].valve = some 3 ∧
      (let w := { s.cfg with zone := s.cfg.zone.set 15 { defaultZone with cpol := .treatWet, cnt := 1 } }
      w.zone[15].cpol = .treatWet ∧ s.zones[15].state = .watch ∧
        (zoneAfterScan w s.now 15 3800 s.zones[15]).state = .cableFault) := by decide

/-- A latching zone's CUT reaches an ON channel without an override mark, and one with a mark that the zone held before
stays. -/
theorem witness_LeakScanReachesTheChannels :
    let e : RespEntry := ⟨.cut, [23], none, .nothing, false⟩
    let s := (put 23 .on { base with
      cfg := { base.cfg with resp := base.cfg.resp.set 15 e }
      zones := base.zones.set 15 { base.zones[15] with history := [.wet, .wet] } })
    let marked := s.modCh 23 fun r => { r with holds := [15], override := true }
    (zoneAfterScan s.cfg s.now 15 1200 s.zones[15]).state = .wet ∧ s.zones[15].state = .watch ∧
      s.cfg.resp[15].action = .cut ∧ (23 : Ch) ∈ s.cfg.resp[15].chans ∧ (15 : Zone) ∉ (s.ch 23).holds ∧
      (15 : Zone) ∈ (marked.ch 23).holds ∧ (marked.ch 23).override = true := by decide

theorem witness_ReadingsAreClassified :
    base.zones[15].state ≠ .off ∧ base.cfg.zone[15].wet < base.cfg.zone[15].openLevel ∧
      base.cfg.zone[15].openLevel ≤ 3800 ∧ 1200 ≤ base.cfg.zone[15].wet ∧
      (base.cfg.zone[15].wet < 1201 ∧ 1201 < base.cfg.zone[15].openLevel) ∧ 3799 < base.cfg.zone[15].openLevel := by decide

/-- Zone LZ2 latched, with its escalation timer running and a response entry. -/
def latched (r : RespEntry) : State :=
  { base with
    cfg := { base.cfg with resp := base.cfg.resp.set 2 r }
    zones := base.zones.set 2 { base.zones[2] with state := .wet, esc := some ten } }

theorem witness_EscalationExpiryAppliesTheAction :
    base.zones[2].esc = none ∧ ∀ e ∈ [EscAction.nothing, .isolateNoncritical, .cutAll], ∀ b,
      let s := latched ⟨.report, [], none, e, b⟩
      s.power = .running ∧ s.zones[2].esc.isSome ∧ s.zones[2].state = .wet ∧ s.cfg.resp[2].esc = e ∧
        s.cfg.resp[2].closeAll = b := by decide

theorem witness_WindowContactsAndTravel :
    ∀ x ∈ [ValveState.opened, .closing, .closed, .opening, .fault], ∀ v ∈ [(0 : ValveIx), 3],
      let s := base.modValve v fun y => { y with state := x, travel := some ten }
      s.power = .running ∧ s.resp.valve[v].state = x ∧ s.resp.valve[v].travel.isSome ∧ base.resp.valve[v].travel = none := by
  decide

set_option maxRecDepth 8192 in
theorem witness_LineArrivalDiscardsOrReceives :
    Ready .manager base ∧
    (after .powerLoss base).power = .off ∧ base.power ≠ .off ∧ (base.port .manager).overlong = false ∧
      ([] : List Char) ++ [] = [] ∧ 160 < (List.replicate 161 'A').length ∧ (List.replicate 160 'A').length ≤ 160 ∧
      receivedLine (List.replicate 160 'A') = none ∧ (receivedLine "P1 PING *EF".toList).isSome ∧
      ((base.modPort .manager fun c => { c with overlong := true }).port .manager).overlong = true := by
  exact ⟨⟨by decide, by decide, by decide, by decide⟩, by decide⟩

/-- A manager port with two lines in its buffer, the first of them answered with `n` report lines. -/
def twoLines (w : OutOwner) (begun : Bool) (n : Nat) : State :=
  base.modPort .manager fun c => { c with
    buffer := [⟨['A'], .cmd (.ping mgr), true, 0⟩, ⟨['B'], .cmd (.ping mgr), false, 1⟩]
    output := [⟨['A'], w, { okReply with reports := List.replicate n ⟨.saveDone, 0, none, none, none⟩ }, begun⟩] }

/-- R173: a response with two report lines is sent in three lines, and the buffer keeps its line until the third. -/
theorem test_report_lines_are_sent_one_by_one :
    let s := fun n => forEach (List.replicate n ()) (fun _ => after (.outputLineSent .manager)) (twoLines .line false 2)
    (List.range 4).map (fun n => (s n).link.manager.buffer.length) = [2, 2, 2, 1] ∧
      (List.range 3).map (fun n => (s n).link.manager.output.map fun o => o.lines.length) = [[3], [2], [1]] := by decide

theorem witness_OutputSentMovesToTheNextLine :
    (base.port .manager).output = [] ∧
      (∀ w ∈ [OutOwner.line, .busy], ∀ b, ∀ n ∈ [0, 1, 2],
        ((twoLines w b n).port .manager).output.map (fun o => (o.owner, o.begun, o.reply.reports.length, o.reply.resets)) =
          [(w, b, n, false)]) ∧
      (after (.ping svc) base).link.service.buffer.tail = [] ∧
      ((twoLines .line false 0).port .manager).buffer.map BufLine.taken = [true, false] := by decide

theorem witness_DeniedAndBusyLinesAreNotActedOn :
    (Instr.configSave svc).line? = some svc ∧ Ready svc.port base ∧
      verbPermitted svc.port (.configSave svc) (carriesSvc (.configSave svc)) base = false ∧
      State.reset.power = .loading ∧
      (let s := base.modPort .manager fun c => { c with buffer := List.replicate 4 ⟨['A'], .cmd (.ping mgr), false, 0⟩ }
      4 ≤ (s.port .manager).buffer.length ∧ s.power = .running ∧ s.work = .none ∧ s.source.stage = 0) ∧
      verbClass (.reset svc) = some .reset ∧ carriesSvc (.routeSet svc { svc := some true }) = true ∧
      (verbClass (.routeSet svc {})).isSome := by
  exact ⟨rfl, service_ready, by decide, by decide, by decide, by decide, by decide, by decide⟩

theorem witness_RefusedCommandsChangeNothing :
    (runCommand (.channelClear mgr (some 24)) base).2.status = .err .range ∧
      (runCommand (.overrideCommit mgr (some 23)) base).2.status = .err .sequence := by decide

theorem witness_PermittedLineIsTakenAtOnce :
    (Instr.ping mgr).line? = some mgr ∧ CanTake mgr (.ping mgr) base ∧ (Instr.ping svc).line? = some svc ∧
      CanTake svc (.ping svc) base :=
  ⟨rfl, takes _ _ (by decide) (by decide), rfl, service_ready, by decide⟩

theorem witness_Reads :
    ∀ i ∈ [Instr.channelRead mgr (some 0), .channelRead mgr (some 23), .budgetRead mgr none, .budgetRead mgr (some .fig),
      .budgetRead mgr (some .state), .budgetRead mgr (some .policy), .admissionRead mgr none, .admissionRead mgr (some 0),
      .admissionRead mgr (some 24), .planRead mgr none, .planRead mgr (some 0), .planRead mgr (some 47), .planStatus mgr,
      .moduleRead mgr none none, .moduleRead mgr (some 7) none, .moduleRead mgr none (some 5), .linkStats mgr,
      .sourceRead mgr true, .sourceRead mgr false, .zoneRead mgr none none, .zoneRead mgr (some 15) none,
      .zoneRead mgr none (some 3), .valveRead mgr none, .valveRead mgr (some 3), .captureRead mgr, .statusRead mgr,
      .tallyRead mgr none, .tallyRead mgr (some 0), .tallyRead mgr (some 3), .timeRead mgr, .identify mgr, .ping mgr,
      .captureClear mgr, .configSave mgr, .overrideLockout mgr], CanTake mgr i base := by
  intro i hi
  refine takes i base (by decide) ?_
  simp only [List.mem_cons, List.not_mem_nil, or_false] at hi
  rcases hi with rfl | rfl | rfl | rfl | rfl | rfl | rfl | rfl | rfl | rfl | rfl | rfl | rfl | rfl | rfl | rfl | rfl | rfl |
    rfl | rfl | rfl | rfl | rfl | rfl | rfl | rfl | rfl | rfl | rfl | rfl | rfl | rfl | rfl | rfl | rfl <;> rfl

theorem witness_ReadIndexesAndContents :
    let s := queued (.single 0) base
    (s.budget.queue[0]? = some ⟨.single 0, none, .host, 0, false, false⟩ ∧ s.run = none) ∧
      (queued (.gang 5 [20]) base).budget.queue.length = 1 ∧ (running aRun).run = some aRun ∧ runActive (running aRun) = true ∧
      (let r := { aRun with state := .paused, phase := .gap, gapLeft := 7, pauseCause := some .host }
      (running r).run = some r ∧ r.gap = none) ∧
      (running { aRun with gap := some ten }).run.map Run.gap = some (some ten) ∧
      (∀ i ∈ [Instr.channelRead mgr (some (-1)), .channelRead mgr (some 24), .admissionRead mgr (some (-1)),
        .admissionRead mgr (some 1), .admissionRead mgr (some 24), .planRead mgr (some (-1)), .planRead mgr (some 48)],
        quiet s = true ∧ (verbClass i).isSome = true) := by decide

theorem witness_SamplesAndCapture :
    base.shelf.rect[0].sample.isSome ∧ base.shelf.rect[1].sample = none ∧ base.shelf.rect[0].time.isSome ∧
      worked.shelf.batt[0].sample.isSome ∧ worked.shelf.batt[5].sample = none ∧ base.resp.capture = none ∧
      (base.modResp fun r => { r with
        capture := some ⟨3, .wet, [1], [.dry, .wet], 5, .grid, [0], 100, 0⟩ }).resp.capture.isSome ∧
      CanTake mgr (.moduleRead mgr (some 0) (some 0)) base ∧ CanTake mgr (.moduleRead mgr none (some 5)) worked ∧
      CanTake mgr (.moduleRead mgr none (some 0)) worked :=
  ⟨by decide, by decide, by decide, by decide, by decide, by decide, by decide, takes _ _ (by decide) rfl,
    takes _ _ (by decide) rfl, takes _ _ (by decide) rfl⟩

theorem witness_TallyReadPairs :
    let s := { base with tally := { base.tally with pair := true } }
    quiet s = true ∧ s.tally.pair = true ∧ base.tally.pair = false := by decide

theorem witness_ChannelStartJoinsTheQueue :
    let s := conf 23 100 100 1 base
    let i := Instr.channelStart mgr { ch := some ((23 : Ch).val : Int) }
    CanTake mgr i s ∧ Startable s 23 ∧ s.source.state = .grid ∧ 0 < s.cfg.policy.late ∧ s.budget.queue = [] ∧
      (queued (.single 0) s).budget.queue ≠ [] ∧ CanTake mgr i base ∧ ¬ Startable base 23 ∧
      startCode (s.modCh 23 fun r => { r with holds := [0] }) 23 = .held ∧ startCode base 23 = .state ∧
      (let r := s.modSource fun x => { x with state := .ride }
      CanTake mgr i r ∧ Startable r 23 ∧ r.source.state ≠ .grid) := by
  refine ⟨takes _ _ (by decide) (by decide), ?_, by decide, by decide, by decide, by decide,
    takes _ _ (by decide) (by decide), ?_, by decide, by decide, takes _ _ (by decide) (by decide), ?_, by decide⟩ <;>
    unfold Startable <;> decide

theorem witness_GangStartJoinsAsOneEntry :
    let s := conf 23 100 100 1 base
    let i := Instr.channelStartGang mgr { gang := some ((5 : Gang).val : Int) }
    CanTake mgr i s ∧ ([(23 : Ch)].Pairwise (· < ·)) ∧ (∀ c, c ∈ [(23 : Ch)] ↔ c.val / 4 = (5 : Gang).val ∧ Startable s c) ∧
      s.source.state = .grid ∧ 0 < s.cfg.policy.late ∧
      (∀ c, c ∈ ([] : List Ch) ↔ c.val / 4 = (5 : Gang).val ∧ Startable base c) ∧ CanTake mgr i base ∧
      CanTake mgr i (inState .down) ∧ (inState .down).source.state ≠ .grid := by
  refine ⟨takes _ _ (by decide) (by decide), by decide, ?_, by decide, by decide, ?_, takes _ _ (by decide) (by decide),
    takes _ _ (by decide) (by decide), by decide⟩ <;> unfold Startable <;> decide

theorem witness_StopAndCutByState :
    Names { ch := some ((23 : Ch).val : Int) } [23] ∧
      Names { gang := some ((5 : Gang).val : Int) } (allCh.filter fun c => c.val / 4 = (5 : Gang).val) ∧
      (∀ x ∈ [ChState.off, .pending, .ramping, .on, .warning, .faulted], quiet (put 23 x base) = true) ∧
      CanTake mgr (.channelStop mgr { ch := some 23 }) (put 23 .on base) ∧
      CanTake mgr (.channelCut mgr { gang := some 5 }) (put 23 .on base) :=
  ⟨.inl ⟨_, rfl, rfl⟩, .inr ⟨_, rfl, rfl⟩, by decide, takes _ _ (by decide) (by decide), takes _ _ (by decide) (by decide)⟩

theorem witness_ChannelClearReturnsToOff :
    let i := Instr.channelClear mgr (some ((0 : Ch).val : Int))
    ∀ pg, let s := base.modCh 0 fun r => { r with state := .faulted, powerGood := pg, holds := [2] }
      CanTake mgr i s ∧ (s.ch 0).state = .faulted ∧ (s.ch 0).powerGood = pg ∧ (base.ch 0).state ≠ .faulted := by
  intro i pg
  cases pg <;> exact ⟨takes _ _ (by decide) (by decide), by decide⟩

theorem witness_ChannelSetStoresClampedSettings :
    let s := put 0 .on (conf 0 100 0 1 base)
    let t := s.modBudget fun b => { b with figs := { b.figs with h := 50 } }
    (∀ a, CanTake mgr (.channelSet mgr (some ((0 : Ch).val : Int)) a) s ∧
      CanTake mgr (.channelSet mgr (some ((0 : Ch).val : Int)) a) t) ∧
      (s.ch 0).state ≠ .off ∧ (s.ch 0).state ≠ .faulted ∧
      ((t.chCfg 0).alloc < numArg 0 20000 (some 151) 100 ∧ t.budget.figs.h < (numArg 0 20000 (some 151) 100 : Int) - 100) ∧
      ((numArg 0 20000 (some 150) 100 : Int) - 100 ≤ t.budget.figs.h) ∧ numArg 0 20000 (some 100) 100 ≤ (t.chCfg 0).alloc ∧
      clamps 0 20000 (some 20001) = true ∧ clamps 0 20000 (some 20000) = false ∧ clamps 100 10000 (some 99) = true ∧
      (base.ch 0).state = .off := by
  exact ⟨fun a => ⟨takes _ _ (by decide) rfl, takes _ _ (by decide) rfl⟩, by decide⟩

theorem witness_SettingCommands :
    (∀ a, CanTake mgr (.policySet mgr a) base) ∧ (∀ a, CanTake mgr (.rideSet mgr a) base) ∧
      (∀ a, CanTake mgr (.chargeSet mgr a) base) ∧ (∀ a, CanTake mgr (.routeSet mgr a) base) ∧
      (∀ a, CanTake mgr (.tallySet mgr a) base) ∧ (∀ a, CanTake mgr (.zoneSet mgr a) base) ∧
      (∀ a, CanTake mgr (.patternSet mgr a) base) ∧ (∀ a, CanTake mgr (.responseSet mgr a) base) ∧
      (∀ a, CanTake mgr (.planWrite mgr a) base) ∧ (∀ a, CanTake mgr (.rideSet mgr a) (inState .ride)) ∧
      ({ reserve := some 90 } : RideArgs) ≠ {} ∧ numArg 10 3600 (none : Option Int) 90 - 1 < numArg 0 600 (some 90) 20 ∧
      ¬ numArg 10 3600 (none : Option Int) 90 - 1 < numArg 0 600 (some 89) 20 := by
  refine ⟨?_, ?_, ?_, ?_, ?_, ?_, ?_, ?_, ?_, ?_, by decide⟩ <;> exact fun a => takes _ _ (by decide) rfl

theorem witness_PlanWriteStoresTheRecord :
    EntryWritten none none none ∧ EntryWritten (some .absent) (some 3) none ∧
      EntryWritten (some (.index ((47 : StepIx).val : Int))) none (some 47) ∧
      TargetWritten .start { ch := some ((23 : Ch).val : Int) } (some (.chan 23)) ∧
      TargetWritten .stop { gang := some ((5 : Gang).val : Int) } (some (.gang 5)) ∧ TargetWritten .delay {} none ∧
      isProtected (running aRun) 0 = true ∧ isProtected base 47 = false ∧ quiet (running aRun) = true := by
  exact ⟨.inl ⟨rfl, rfl⟩, .inr (.inl ⟨rfl, rfl⟩), .inr (.inr ⟨_, rfl, rfl⟩), .inl ⟨_, rfl, rfl⟩, .inr ⟨_, rfl, rfl⟩, ⟨rfl, rfl⟩,
    by decide, by decide, by decide⟩

theorem witness_PlanStartSetsTheRun :
    let s := { base with cfg := { base.cfg with up := some 0, down := some 47
                                                steps := base.cfg.steps.set 0 { defaultStep with endMark := false } } }
    (∀ k, CanTake mgr (.planStart mgr (some k)) s) ∧ CanTake mgr (.planStart mgr (some .up)) (running aRun) ∧
      runActive (running aRun) = true ∧ runActive s = false ∧ base.cfg.up = none ∧ s.source.state = .grid ∧
      ((0 : StepIx) ≤ 1 ∧ (∀ n : StepIx, 0 ≤ n → n < 1 → s.cfg.steps[n].endMark = false) ∧ s.cfg.steps[1].endMark = true) ∧
      ((47 : StepIx) ≤ 47 ∧ ∀ n : StepIx, 47 ≤ n → n < 47 → s.cfg.steps[n].endMark = false) ∧
      (inState .ride).source.state ≠ .grid := by
  exact ⟨fun k => takes _ _ (by decide) (by cases k <;> decide), takes _ _ (by decide) (by decide), by decide⟩

theorem witness_PlanPauseResumeAndStopByRunState :
    (∀ x ∈ [RunState.running, .waiting, .paused, .done, .aborted], ∀ i ∈ [Instr.planPause mgr, .planResume mgr, .planStop mgr],
      CanTake mgr i (running { aRun with state := x })) ∧
      (running { aRun with outstanding := [3] }).run.map Run.outstanding = some [3] ∧
      (let r := { aRun with state := .paused, phase := .gap, gapLeft := 40 }
      (running r).run = some r ∧ r.phase = .gap ∧ r.gapLeft ≠ 0 ∧ (running r).source.state = .grid) ∧
      (let s := { inState .ride with run := some { aRun with state := .paused } }
      s.source.state ≠ .grid ∧ aRun.kind = .up) := by
  refine ⟨fun x hx i hi => takes _ _ ?_ ?_, by decide⟩
  · cases x <;> decide
  · simp only [List.mem_cons, List.not_mem_nil, or_false] at hi
    rcases hi with rfl | rfl | rfl <;> rfl

theorem witness_RectifierDisableAndEnable :
    let d := Instr.rectifierDisable mgr (some ((0 : RmSlot).val : Int))
    let e := Instr.rectifierEnable mgr (some ((0 : RmSlot).val : Int))
    let off := base.modRect 0 fun r => { r with enable := false, state := .disabled }
    let loaded := base.modBudget fun b => { b with figs := { b.figs with com := 1 } }
    let short := fun (s : State) => s.shelf.rect[0].counted = true ∧
      (supply s ((countedSlots s).filter (· ≠ 0))).2.2.2 < s.budget.figs.com
    (CanTake mgr d base ∧ CanTake mgr e base ∧ CanTake mgr d off ∧ CanTake mgr e off ∧ CanTake mgr d loaded) ∧
      base.shelf.rect[0].enable = true ∧ off.shelf.rect[0].enable = false ∧ short loaded ∧ ¬ short base ∧
      base.shelf.rect[0].present = true ∧ base.shelf.rect[0].state ≠ .lost ∧ base.shelf.rect[7].present = false ∧
      (∀ m : RmSlot, m ≠ 0 → base.shelf.rect[m].counted = false) ∧ off.shelf.rect[0].state = .disabled := by
  exact ⟨⟨takes _ _ (by decide) rfl, takes _ _ (by decide) rfl, takes _ _ (by decide) rfl, takes _ _ (by decide) rfl,
    takes _ _ (by decide) rfl⟩, by decide⟩

theorem witness_RestorePlacesTheEligible :
    let s := (conf 23 100 100 3 base).modCh 23 fun r => { r with shed := true }
    (∀ x, CanTake mgr (.restore mgr x) s) ∧ s.source.state = .grid ∧ 0 < s.cfg.policy.late ∧ ((-1 : Int) < 0 ∧ 3 < (4 : Int)) ∧
      (∃ t : Tier, some (TierArg.tier 3) = some (.tier t.val)) ∧ (∃ t : Tier, some (TierArg.tier 0) = some (.tier t.val)) ∧
      (s.ch 23).shed = true ∧ (s.ch 23).state = .off ∧ (s.chCfg 23).tier.val = 3 ∧ (inState .down).source.state ≠ .grid ∧
      ∀ x, CanTake mgr (.restore mgr x) (inState .down) := by
  exact ⟨fun x => takes _ _ (by decide) rfl, by decide, by decide, by decide, ⟨3, rfl⟩, ⟨0, rfl⟩, by decide, by decide,
    by decide, by decide, fun x => takes _ _ (by decide) rfl⟩

theorem witness_ZoneSetAndPatternSet :
    let g := fun (w o : Option Int) => (numArg 0 4095 w 1200, numArg 0 4095 o 3800)
    ((g (some 3800) none).2 ≤ (g (some 3800) none).1) ∧ (g (some 3799) none).1 < (g (some 3799) none).2 ∧
      ¬ ([0, 0] : List Int).Nodup ∧ ((base.zones[15]).state = .watch) ∧ (latched defaultResp).zones[2].state = .wet ∧
      quiet (latched defaultResp) = true ∧ clamps 20 1000 (some 19) = true ∧ clamps 20 1000 (some 20) = false ∧
      (let s := base.modZone 15 fun r => { r with state := .cableFault }
      quiet s = true ∧ s.zones[15].state = .cableFault ∧ CablePolicy.treatWet ≠ s.cfg.zone[15].cpol) ∧
      ¬ ([((0 : Fin 16), Wetness.wet), (0, .dry)].map Prod.fst).Nodup ∧
      ([((0 : Fin 16), Wetness.wet), (15, .dry)].map Prod.fst).Nodup ∧ clamps 1 16 (some 17) = true := by decide

theorem witness_LeakClearResponseSetAndCaptureClear :
    let s := fun k => { latched defaultResp with zones := (latched defaultResp).zones.set 2 { (latched defaultResp).zones[2] with cls := k } }
    let still := { s (some .dry) with zones := (s (some .dry)).zones.set 2 { (s (some .dry)).zones[2] with history := [.wet, .wet, .wet] } }
    (∀ k ∈ [none, some LoopClass.dry, some .wet, some .cable], quiet (s k) = true ∧ (s k).zones[2].state ≠ .off ∧
      (s k).zones[2].state ≠ .watch ∧ (s k).zones[2].cls = k) ∧ quiet still = true ∧
      matchingOf (s (some .dry)).cfg 2 (s (some .dry)).zones[2].history = [] ∧
      matchingOf still.cfg 2 still.zones[2].history ≠ [] ∧ base.zones[2].state = .watch ∧
      clamps 1000 60000 (some 60001) = true ∧ ¬ ([1, 1] : List Int).Nodup ∧
      (let held := base.modCh 3 fun r => { r with holds := [2], shed := true }
      (held.ch 3).holds = [2] ∧ (held.ch 3).state = .off) := by decide

theorem witness_OverrideTakesTwoLines :
    let held := base.modCh 4 fun r => { r with holds := [2] }
    let live := fun c => held.modResp fun r => { r with seq := some ⟨.manager, c, ten⟩ }
    let lock := fun (s : State) => s.modResp fun r => { r with lockout := true }
    (∀ x, CanTake mgr (.overridePrepare mgr x) held ∧ CanTake mgr (.overrideCommit mgr x) held ∧
      CanTake mgr (.overrideCommit mgr x) (live 4) ∧ CanTake mgr (.overrideCommit mgr x) (live 5) ∧
      CanTake mgr (.overrideCommit mgr x) (lock (live 4))) ∧
      held.resp.lockout = false ∧ (held.ch 4).state = .off ∧ (held.ch 4).holds ≠ [] ∧
      (∀ z ∈ (held.ch 4).holds, held.zones[z].state ≠ .escalated) ∧ (base.ch 4).holds = [] ∧
      (lock held).resp.lockout = true ∧ (live 4).resp.seq = some ⟨mgr.port, 4, ten⟩ ∧
      (live 5).resp.seq = some ⟨mgr.port, 5, ten⟩ ∧ held.resp.seq = none := by
  refine ⟨fun x => ⟨?_, ?_, ?_, ?_, ?_⟩, by decide⟩ <;> exact takes _ _ (by decide) rfl

theorem witness_ValveCommandsByState :
    (∀ x ∈ [ValveState.opened, .closing, .closed, .opening, .fault], ∀ b,
      let s := base.modValve 3 fun v => { v with state := x, closedContact := b, openContact := b }
      quiet s = true ∧ s.resp.valve[3].state = x ∧ s.resp.valve[3].zones = [] ∧ s.resp.valve[3].closedContact = b) ∧
      (base.modValve 3 fun v => { v with zones := [0] }).resp.valve[3].zones ≠ [] ∧
      CanTake mgr (.valveClose mgr (some ((3 : ValveIx).val : Int))) base ∧
      CanTake mgr (.valveOpen mgr (some ((0 : ValveIx).val : Int))) base :=
  ⟨by decide, by decide, takes _ _ (by decide) rfl, takes _ _ (by decide) rfl⟩

theorem witness_RaiseJoinsTheQueues :
    let full := fun k => base.modPort .manager fun c => { c with queue := List.replicate 32 ⟨k, 0, none, none, none⟩ }
    base.cfg.routes.of .leak = .both ∧ base.cfg.routes.of .channel = .manager ∧ (base.port .manager).queue.length < 32 ∧
      32 ≤ ((full .saveDone).port .manager).queue.length ∧ ordinaryOf ((full .saveDone).port .manager).queue ≠ [] ∧
      ordinaryOf ((full .leakWet).port .manager).queue = [] ∧ ReportKind.leakWet.alarm = true ∧
      ReportKind.channelFault.alarm = false := by decide

theorem witness_FetchRouteSetAndStatusClear :
    (∀ x, CanTake mgr (.fetch mgr x) base) ∧ (∃ y : Int, some (0 : Int) = some y ∧ (y < 1 ∨ 8 < y)) ∧
      (∃ y : Int, some (9 : Int) = some y ∧ (y < 1 ∨ 8 < y)) ∧ (1 ≤ 8 ∧ 8 ≤ 8) ∧ ({ svc := some true } : RouteArgs) ≠ {} ∧
      (∀ x, CanTake mgr (.statusClear mgr x) base) ∧ ∀ g, g ∈ allGroups := by
  exact ⟨fun x => takes _ _ (by decide) rfl, ⟨0, rfl, by decide⟩, ⟨9, rfl, by decide⟩, by decide, by decide,
    fun x => takes _ _ (by decide) rfl, by intro g; cases g <;> decide⟩

theorem witness_SaveAndDefaults :
    CanTake mgr (.configSave mgr) base ∧ CanTake mgr (.configDefaults mgr) base ∧ base.store = .invalid ∧
      (after (.configSave mgr) base).store = .writing base.cfg 0 ∧ (after (.configSave mgr) base).power = .running ∧
      quiet ({ base with store := .writing base.cfg 0 }) = true ∧
      ¬ ((∃ c, (base.ch c).state ≠ .off ∧ (base.ch c).state ≠ .faulted) ∨ runActive base = true ∨
        ∃ z : Zone, base.zones[z].state = .cableFault ∧ base.cfg.zone[z].cpol = .treatWet) ∧
      (put 0 .on base |>.ch 0).state ≠ .off ∧ CanTake mgr (.configDefaults mgr) (put 0 .on base) :=
  ⟨takes _ _ (by decide) rfl, takes _ _ (by decide) rfl, by decide, by decide, by decide, by decide, by decide, by decide,
    takes _ _ (by decide) rfl⟩

theorem witness_TallyCommandsAndCounting :
    let t := fun b v => { base with tally := { ctr := base.tally.ctr.set 3 { base.tally.ctr[3] with running := v }, pair := b } }
    (∀ b v x, CanTake mgr (.tallySet mgr x) (t b v)) ∧ (∀ b v x, CanTake mgr (.tallyClear mgr x) (t b v)) ∧
      (∀ b v x, CanTake mgr (.tallyStart mgr x) (t b v)) ∧ (∀ b v x, CanTake mgr (.tallyStop mgr x) (t b v)) ∧
      (t false true).tally.ctr[3].running = true ∧ (t false false).tally.ctr[3].running = false ∧
      (t true false).tally.pair = true ∧ (t true false).tally.ctr[0].value < 4294967296 ∧
      (t false false).tally.ctr[0].running = false ∧ (t false false).tally.ctr[1].running = false := by
  refine ⟨fun b v x => ?_, fun b v x => ?_, fun b v x => ?_, fun b v x => ?_, by decide⟩ <;>
    cases b <;> cases v <;> exact takes _ _ (by decide) rfl

theorem witness_SupplyFiguresAndHoldTime :
    let caps := (countedSlots worked).map fun n => worked.shelf.rect[n].capacity
    let short := put 0 .on (conf 0 20000 0 0 base)
    let timed := short.modBudget fun b => { b with grace := some ten }
    worked.cfg.policy.k ≤ caps.length ∧ worked.cfg.policy.guard ≤ 25 ∧ ([] : List Nat).length < base.cfg.policy.k ∧
      short.source.state = .grid ∧ (evaluate short).budget.figs.m < 0 ∧ short.budget.grace = none ∧
      (evaluate timed).budget.figs.m < 0 ∧ timed.budget.grace = some ten ∧ 0 ≤ (evaluate worked).budget.figs.m ∧
      (inState .ride).source.state ≠ .grid := by
  decide

theorem witness_HeadIsAdmittedWhenItFits :
    let ready := (conf 21 3500 2000 0 base).modBudget fun b => { b with figs := { b.figs with h := 3500, o := 4000 } }
    let fitting := fun (s : State) (cs : List Ch) => s.source.state = .grid ∧
      ((cs.map fun c => (s.chCfg c).alloc).sum : Int) ≤ s.budget.figs.h ∧
      s.budget.figs.o + (cs.map fun c => (s.chCfg c).inrush).sum ≤ s.cfg.policy.inrush
    (queued (.single 21) ready).budget.queue = [⟨.single 21, none, .host, 0, false, false⟩] ∧ fitting ready [21] ∧
      ¬ fitting (ready.modBudget fun b => { b with figs := { b.figs with o := 4001 } }) [21] ∧
      ¬ fitting (ready.modBudget fun b => { b with figs := { b.figs with h := 3499 } }) [21] ∧
      ¬ fitting gangOfFive [20, 21, 22, 23] ∧ fitting gangOfFive [20] ∧ ([20, 21, 22, 23] : List Ch).Nodup ∧
      msBetween 0 gangOfFive.now ≤ gangOfFive.cfg.policy.late ∧ fitting gangOfFive [20, 21, 22] ∧
      (let small := (queued (.gang 5 [20]) gangOfFive).modBudget fun b => { b with figs := { b.figs with h := 0 } }
      ¬ fitting small [20] ∧ small.budget.spacing = none) ∧
      (let timed := gangOfFive.modBudget fun b => { b with spacing := some (5, ten) }
      timed.budget.spacing = some (5, ten) ∧ ¬ fitting timed [20, 21, 22, 23]) ∧
      (∀ pg tf, ((ready.modCh 21 fun r => { r with powerGood := pg, trayFault := tf }).ch 21).powerGood = pg) ∧
      gangOfFive.budget.spacing = none ∧ ready.cfg.policy.spacing ≠ 0 := by decide

theorem witness_PlanStepsByAction :
    let at_ := fun (a : StepAction) (t : Option Target) => { running aRun with
      cfg := { base.cfg with
        steps := base.cfg.steps.set 0 ⟨a, t, 0, false⟩
        chan := base.cfg.chan.set 23 ⟨true, 100, 100, 1, 5000, 1000⟩ } }
    let s := at_ .start (some (.gang 5))
    s.run = some aRun ∧ aRun.skipped ≤ 65535 ∧ ([(23 : Ch)].Pairwise (· < ·)) ∧
      (∀ c, c ∈ [(23 : Ch)] ↔ c ∈ s.cfg.steps[aRun.cursor].members ∧ Startable s c) ∧
      (∀ a ∈ [StepAction.delay, .awaitOn, .awaitGrid, .stop], (at_ a none).cfg.steps[aRun.cursor].action = a) ∧
      s.source.state = .grid ∧ 0 < s.cfg.policy.late ∧ (inState .ride).source.state ≠ .grid ∧ aRun.cursor ≠ aRun.endStep ∧
      s.cfg.steps[aRun.cursor].gap = 0 ∧ aRun.admittedSet = [] ∧
      (∀ n ∈ [(0 : StepIx), 1], let x := { running { aRun with endStep := n } with
        work := { Work.none with plan := .complete }
        cfg := { base.cfg with steps := base.cfg.steps.set 0 ⟨.delay, none, 50, false⟩ } }
      x.run = some { aRun with endStep := n } ∧ x.work.plan = .complete ∧ x.cfg.steps[aRun.cursor].gap ≠ 0) := by
  refine ⟨rfl, by decide, by decide, ?_, by decide⟩
  unfold Startable
  decide

theorem witness_RideEvaluationShedsAndReserves :
    let s := outage.modSource fun x => { x with state := .ride }
    let exhausted := fun (s : State) => (∀ n : BmSlot, s.shelf.batt[n].available = false) ∨ energyTotal s = 0
    let holds := fun lv => candidate s lv ≤ dischargeTotal s ∧ s.cfg.ride.target ≤ holdTime s (candidate s lv)
    s.source.state = .ride ∧ ¬ exhausted s ∧ exhausted base ∧ s.source.level ≤ 1 ∧ ¬ holds 0 ∧ holds 1 ∧
      base.source.state ≠ .ride ∧ s.cfg.down = some 40 ∧ base.cfg.down = none ∧ s.source.reserveTaken = false ∧
      runActive s = false ∧ s.work.plan = .idle ∧ (rideEvaluation s).source.reserveTaken = false := by decide

/-- R104 and R112: with the reserve action taken and every channel OFF the rack is DOWN, and until then in RIDE. -/
theorem witness_RideEvaluationReserveAndAllOff :
    let s := outage.modSource fun x => { x with state := .ride, level := 3 }
    let low := s.modShelf fun h => { h with
      batt := #v[battOf .discharging 660 4400 30000 0, .cold, .cold, .cold, .cold, .cold] }
    let noDown := { low with cfg := { low.cfg with down := none } }
    let off := forEach [0, 1, 8, 9, 12, 18] (fun c s => put c .off (s.modCh c fun r => { r with draw := 0 })) s
    let taken := off.modSource fun x => { x with reserveTaken := true }
    low.cfg.down.isSome ∧ runActive low = false ∧ low.work.plan = .idle ∧ low.source.reserveTaken = false ∧
      (rideEvaluation low).source.reserveTaken = true ∧ (rideEvaluation low).source.state = .ride ∧
      noDown.cfg.down = none ∧ (rideEvaluation noDown).source.state = .down ∧
      taken.source.reserveTaken = true ∧ (∀ c, ((rideEvaluation taken).ch c).state = .off) ∧
      (rideEvaluation taken).source.state = .down := by decide

/-- A state that no reset gives: a pending channel in the queue, an alarm ahead of an ordinary report, a demanded valve. -/
def busy : State :=
  ((queued (.single 3) (put 3 .pending base)).modPort .manager fun c => { c with
    queue := [⟨.leakWet, 5, some 0, some 1, some 900⟩, ⟨.saveDone, 3, none, some 1, none⟩] }).modValve 0 fun v =>
      { v with state := .closing, zones := [0] }

theorem witness_EveryStepKeepsItsLaws :
    QueueLaw busy ∧ ReportLaw busy ∧ ValveLaw busy ∧ SettingsLaw busy ∧ PolicyLaw busy := by
  refine ⟨?_, ?_, ?_, ?_, ?_⟩
  · unfold QueueLaw
    decide
  · intro p
    unfold ReportOrder
    cases p <;> decide
  · unfold ValveLaw
    decide
  · unfold SettingsLaw WorkCfg.inRange ChanCfg.inRange PolicyCfg.inRange RideCfg.inRange ChargeCfg.inRange ZoneCfg.inRange
    exact ⟨by decide, trivial⟩
  · unfold PolicyLaw
    decide

end Sys2Proof.Tests
end

section
/-! The frame of a step: what an event or a command line leaves to be said of its own part, and the records that every
operation over channels, budget and run leaves alone. -/

namespace Sys2Proof.Machine

/-! ### Events -/

/-- An event that reaches a running part has its part's effect, and the hand-overs follow. -/
theorem Acts.of_event {i : Instr} {s : State} {f : State → State} (hi : exec i s = event f s)
    (hp : s.power = .running) : Acts i s (f s) := by
  rw [Acts, hi, event, whenRunning, if_pos hp]

theorem Acts.of_event_eq {i : Instr} {s u : State} {f : State → State} (hi : exec i s = event f s)
    (hp : s.power = .running) (hu : f s = u) : Acts i s u := hu ▸ .of_event hi hp

/-! ### The records left alone -/

theorem SameRest.trans {s t u : State} (h : SameRest s t) (k : SameRest t u) : SameRest s u where
  power := k.power.trans h.power
  now := k.now.trans h.now
  cfg := k.cfg.trans h.cfg
  cfgFrom := k.cfgFrom.trans h.cfgFrom
  store := k.store.trans h.store
  zones := k.zones.trans h.zones
  scan := k.scan.trans h.scan
  cause := k.cause.trans h.cause
  orders := k.orders.trans h.orders
  pending := k.pending.trans h.pending

/-- What keeps the fixed part and the count of free choices keeps the rest. -/
theorem SameRest.of_fixed {s u : State} (h : u.fixed = s.fixed) (ha : aside u = aside s) : SameRest s u where
  power := congrArg Fixed.power h
  now := congrArg Fixed.now h
  cfg := congrArg Fixed.cfg h
  cfgFrom := congrArg Fixed.cfgFrom h
  store := congrArg Fixed.store h
  zones := congrArg Fixed.zones h
  scan := congrArg Fixed.scan h
  cause := congrArg Fixed.cause h
  orders := congrArg Prod.snd ha
  pending := congrArg Fixed.pending h

theorem modCh_sameRest (c : Ch) (f : Channel → Channel) (s : State) : SameRest s (s.modCh c f) :=
  ⟨rfl, rfl, rfl, rfl, rfl, rfl, rfl, rfl, rfl, rfl⟩

theorem enterState_sameRest (c : Ch) (st : ChState) (s : State) : SameRest s (enterState c st s) := by
  constructor <;> simp

theorem clearShed_sameRest (c : Ch) (s : State) : SameRest s (clearShed c s) :=
  ⟨rfl, rfl, rfl, rfl, rfl, rfl, rfl, rfl, rfl, rfl⟩

theorem reportFault_sameRest (c : Ch) (s : State) : SameRest s (reportFault c s) := by
  constructor <;> simp [reportFault]

theorem switchOff_sameRest (c : Ch) (s : State) : SameRest s (switchOff c s) :=
  .trans (modCh_sameRest c _ s) (enterState_sameRest c .off _)

theorem faultChannel_sameRest (c : Ch) (k : FaultKind) (s : State) : SameRest s (faultChannel c k s) :=
  .trans (.trans (.trans (.trans (modCh_sameRest c _ s) (clearShed_sameRest c _)) (modCh_sameRest c _ _))
    (enterState_sameRest c .faulted _)) (reportFault_sameRest c _)

/-! ### Every other channel -/

theorem OnlyChannel.trans {c : Ch} {s t u : State} (h : OnlyChannel c s t) (k : OnlyChannel c t u) :
    OnlyChannel c s u := fun d hd => (k d hd).trans (h d hd)

theorem modCh_onlyChannel (c : Ch) (f : Channel → Channel) (s : State) : OnlyChannel c s (s.modCh c f) :=
  fun _ hd => s.modCh_ch_other f hd

theorem enterState_onlyChannel (c : Ch) (st : ChState) (s : State) : OnlyChannel c s (enterState c st s) :=
  fun d hd => by rw [enterState_ch, if_neg hd]

theorem reportFault_ch (c d : Ch) (s : State) : (reportFault c s).ch d = s.ch d := by simp [reportFault]

/-! ### Reports -/

/-- CHANNEL FAULT sets the flag of its group (R176). -/
theorem reportFault_flag (c : Ch) (s : State) : (reportFault c s).link.flags.channel = true := by
  rw [reportFault, raise_flags]
  rfl

theorem reportFault_work (c : Ch) (s : State) : (reportFault c s).work = s.work := by simp [reportFault]

/-- What a CHANNEL FAULT leaves in the ports and tallies is told from an earlier state with the same time, settings,
ports and tallies. -/
theorem reportFault_reports {c : Ch} {s t : State} (hr : SameRest s t) (hl : t.link = s.link)
    (ht : t.tally = s.tally) :
    Reports .channelFault (some c.val) (some (t.ch c).fault.code) (some (t.ch c).draw) (count .channelFaults s)
      (reportFault c t) :=
  raise_congr _ _ _ _ (s := count .channelFaults t) (t := count .channelFaults s) hr.now hr.cfg hl
    (congrArg (Tally.take .channelFaults) ht)

end Sys2Proof.Machine
end

section
/-! The channel events (Chapter 1). -/

namespace Sys2Proof.Machine

/-! ### Entering FAULTED -/

theorem faultChannel_ch (c d : Ch) (k : FaultKind) (s : State) :
    (faultChannel c k s).ch d = if d = c then (s.ch c).faultedAs k s.now else s.ch d := by
  simp only [faultChannel, reportFault_ch, enterState_ch, State.modCh_ch, clearShed_ch, releaseEnable_ch, if_true]
  split <;> rfl

/-- A RAMPING, ON or WARNING channel that faults enters FAULTED as R11 has it. -/
theorem faultChannel_entersFaulted (c : Ch) (k : FaultKind) (s : State) :
    EntersFaulted c k (s.ch c) s (faultChannel c k s) := by
  let t := enterState c .faulted
    ((clearShed c (releaseEnable c s)).modCh c fun r => { r with fault := k })
  have hu : faultChannel c k s = reportFault c t := rfl
  have htc : t.ch c = (s.ch c).faultedAs k s.now := by
    rw [← reportFault_ch c c t, ← hu, faultChannel_ch, if_pos rfl]
  have htr : SameRest s t :=
    .trans (.trans (.trans (modCh_sameRest c _ s) (clearShed_sameRest c _)) (modCh_sameRest c _ _))
      (enterState_sameRest c .faulted _)
  have hold : (((clearShed c (releaseEnable c s)).modCh c fun r => { r with fault := k }).ch c).state =
      (s.ch c).state := by
    rw [State.modCh_ch_same, clearShed_ch, if_pos rfl, releaseEnable_ch, if_pos rfl]
  refine ⟨?_, ?_, ?_, ?_, ?_, ?_, ?_, ?_, ?_, ?_⟩
  · rw [faultChannel_ch, if_pos rfl]
  · intro d hd
    rw [faultChannel_ch, if_neg hd]
  · show (raise _ _ _ _ _).budget = _
    rw [raise_budget, count_budget, enterState_budget, inflightAfter, inflightAfter, hold]
    rfl
  · simp [faultChannel, reportFault, clearShed_source]
  · simp [faultChannel, reportFault]
  · simp [faultChannel, reportFault]
  · simp [faultChannel, reportFault]
  · have h := reportFault_reports (c := c) (s := s) (t := t) htr (by simp [t]) (by simp [t])
    rw [htc] at h
    exact h
  · rw [hu, reportFault_work]
    obtain ⟨p, hp⟩ := enterState_work c .faulted
      ((clearShed c (releaseEnable c s)).modCh c fun r => { r with fault := k })
    exact congrArg Work.eval hp
  · exact faultChannel_sameRest c k s

/-- A level stored in the same step, before the fault, goes with the record that enters FAULTED. -/
theorem faultChannel_modCh_entersFaulted (c : Ch) (k : FaultKind) (f : Channel → Channel) (s : State)
    (hf : (f (s.ch c)).state = (s.ch c).state) :
    EntersFaulted c k (f (s.ch c)) s (faultChannel c k (s.modCh c f)) := by
  have h := faultChannel_entersFaulted c k (s.modCh c f)
  have hch := s.modCh_ch_same c f
  refine ⟨?_, (modCh_onlyChannel c f s).trans h.others, ?_, h.source, h.run, h.shelf, h.resp, ?_, h.eval,
    (modCh_sameRest c f s).trans h.rest⟩
  · rw [h.record, hch]; rfl
  · rw [h.budget, inflightAfter, inflightAfter, hch, hf]; rfl
  · have hr := h.report
    rw [hch] at hr
    have hs := raise_congr .channelFault (some c.val) (some k.code) (some (f (s.ch c)).draw)
      (s := count .channelFaults (s.modCh c f)) (t := count .channelFaults s) rfl rfl rfl rfl
    exact ⟨hr.1.trans hs.1, hr.2.trans hs.2⟩

/-! ### Power-good, tray fault and the ramp timer -/

/-- A RAMPING channel that rises is ON, with its ramp timer dropped and its admitted inrush out of the pool (R7). -/
theorem takePowerGoodRise_ramping {c : Ch} {s : State} (h : (s.ch c).state = .ramping) :
    OnlyRecord c { s.ch c with
      powerGood := true, state := .on, since := s.now, ramp := none, overdrawn := false, admitted := none } s
      (takePowerGoodRise c s) := by
  let f : Channel → Channel := fun r => { r with powerGood := true, ramp := none, overdrawn := false, admitted := none }
  have hu : takePowerGoodRise c s = enterState c .on (s.modCh c f) := by simp only [takePowerGoodRise, h]; rfl
  rw [hu]
  refine ⟨?_, (modCh_onlyChannel c f s).trans (enterState_onlyChannel c .on _), ?_, ?_, ?_, ?_, ?_, ?_, ?_,
    (modCh_sameRest c f s).trans (enterState_sameRest c .on _)⟩
  · rw [enterState_ch, if_pos rfl, State.modCh_ch_same]; rfl
  · rw [enterState_budget, inflightAfter, inflightAfter, State.modCh_ch_same]; rfl
  · simp
  · simp
  · simp
  · simp
  · exact ⟨by simp, by simp⟩
  · obtain ⟨p, hp⟩ := enterState_work c .on (s.modCh c f)
    exact congrArg Work.eval hp

/-- A rise in OFF, PENDING or FAULTED leaves the stop-confirm timer running (R7, R16). -/
theorem takePowerGoodRise_down {c : Ch} {s : State}
    (h : (s.ch c).state = .off ∨ (s.ch c).state = .pending ∨ (s.ch c).state = .faulted) :
    takePowerGoodRise c s = s.modCh c fun r =>
      { r with powerGood := true, confirm := some (r.confirm.getD ⟨s.now, 1000⟩) } := by
  rcases h with h | h | h <;> simp only [takePowerGoodRise, h] <;> rfl

/-- Settles O9: the effect of a rise, by the channel's state. -/
theorem powerGoodRiseByState : Obligations.PowerGoodRiseByState := by
  intro c s hp
  refine ⟨takePowerGoodRise c s, .of_event rfl hp, ?_⟩
  cases h : (s.ch c).state with
  | ramping => exact takePowerGoodRise_ramping h
  | off | pending | faulted =>
    refine (takePowerGoodRise_down (by simp [h])).trans (congrArg (fun f => s.modCh c f) (funext fun r => ?_))
    cases r.confirm <;> rfl
  | on | warning => simp only [takePowerGoodRise, h]

/-- A fall in ON faults the channel with kind DROP (R8). -/
theorem takePowerGoodFall_on {c : Ch} {s : State} (h : (s.ch c).state = .on) :
    EntersFaulted c .drop { s.ch c with powerGood := false } s (takePowerGoodFall c s) := by
  have hu : takePowerGoodFall c s = faultChannel c .drop (s.modCh c fun r => { r with powerGood := false }) := by
    simp only [takePowerGoodFall, h]
  rw [hu]
  exact faultChannel_modCh_entersFaulted c .drop (fun r => { r with powerGood := false }) s rfl

theorem modCh_modCh (c : Ch) (f g : Channel → Channel) (s : State) :
    (s.modCh c f).modCh c g = s.modCh c fun r => g (f r) := by
  simp [State.modCh]

/-- A WARNING channel whose warning timer expires is switched off (R13). -/
theorem takeWarningExpiry_warning {c : Ch} {s : State} (h : (s.ch c).state = .warning)
    (ht : (s.ch c).warn.isSome) : takeWarningExpiry c s = switchOff c s := if_pos ⟨ht, h⟩

/-- Settles O10: the effect of a fall, by the channel's state; the WARNING channel's timer runs on to its expiry. -/
theorem powerGoodFallByState : Obligations.PowerGoodFallByState := by
  refine ⟨fun c s hp => ⟨takePowerGoodFall c s, .of_event rfl hp, ?_⟩, fun c s hp hw ht _ =>
    ⟨switchOff c s, ?_, ?_⟩⟩
  · cases h : (s.ch c).state with
    | on => exact takePowerGoodFall_on h
    | warning | ramping => simp only [takePowerGoodFall, h]
    | off | pending | faulted => simp only [takePowerGoodFall, h, modCh_modCh]
  · exact .of_event_eq rfl hp (takeWarningExpiry_warning hw ht)
  · rw [switchOff_ch, if_pos rfl]; rfl

/-- A tray fault in RAMPING, ON or WARNING faults the channel with kind TRAY (R10, R11). -/
theorem takeTrayFault_up {c : Ch} {s : State}
    (h : (s.ch c).state = .ramping ∨ (s.ch c).state = .on ∨ (s.ch c).state = .warning) :
    EntersFaulted c .tray { s.ch c with trayFault := true } s (takeTrayFault c s) := by
  have hu : takeTrayFault c s = faultChannel c .tray (s.modCh c fun r => { r with trayFault := true }) := by
    rcases h with h | h | h <;> simp only [takeTrayFault, h]
  rw [hu]
  exact faultChannel_modCh_entersFaulted c .tray (fun r => { r with trayFault := true }) s rfl

/-- An admission that finds the tray fault level asserted ends in the entry into FAULTED of R10, from the RAMPING or ON
record that the admission has made by then (R6). -/
theorem admitChannel_trayFault {c : Ch} {s : State} (h : (s.ch c).trayFault = true) :
    ∃ x, EntersFaulted c .tray { x.ch c with trayFault := true } x (admitChannel c s) := by
  let x := noticeAdmitted c (count .channelStarts (enterState c .ramping (clearShed c (s.modCh c fun r =>
    { r with admitted := some (s.chCfg c).inrush, confirm := none, ramp := some (s.timer (s.chCfg c).ramp) }))))
  let y := if (x.ch c).powerGood then takePowerGoodRise c x else x
  have hx : (x.ch c).state = .ramping ∧ (x.ch c).trayFault = true := by
    have hch : ∀ t : State, (noticeAdmitted c t).ch c = t.ch c := fun t => by simp only [State.ch, noticeAdmitted_chans]
    simp [x, hch, enterState_ch, clearShed_ch, Channel.enter, h]
  have hy : ((y.ch c).state = .ramping ∨ (y.ch c).state = .on) ∧ (y.ch c).trayFault = true := by
    by_cases hg : (x.ch c).powerGood = true
    · simp [y, hg, (takePowerGoodRise_ramping hx.1).record, hx.2]
    · simp [y, hg, hx]
  have hu : admitChannel c s = takeTrayFault c y := if_pos hy.2
  exact ⟨y, hu ▸ takeTrayFault_up (hy.1.imp_right .inl)⟩

/-- Settles O11: the fault input by the channel's state, its release, and an admission with the level asserted. -/
theorem trayFaultByState : Obligations.TrayFaultByState := by
  refine ⟨fun c s hp => ⟨takeTrayFault c s, .of_event rfl hp, ?_⟩, fun c s hp => .of_event rfl hp, fun c s h => ?_⟩
  · cases h : (s.ch c).state with
    | ramping | on | warning => exact takeTrayFault_up (by simp [h])
    | off | pending | faulted => simp only [takeTrayFault, h]
  · obtain ⟨x, hx⟩ := admitChannel_trayFault h
    rw [hx.record]
    exact ⟨rfl, rfl⟩

/-- Settles O12: the ramp timer's expiry, the two events that drop the timer, and an expiry without it. -/
theorem rampExpiryFaultsTheChannel : Obligations.RampExpiryFaultsTheChannel := by
  refine ⟨fun c s hp h ht => ⟨takeRampExpiry c s, .of_event rfl hp, ?_⟩, fun c s hp h =>
    ⟨takePowerGoodRise c s, takeTrayFault c s, .of_event rfl hp, ?_, .of_event rfl hp, ?_⟩, fun c s hp ht => ?_⟩
  · rw [takeRampExpiry, if_pos ⟨ht, h⟩]
    exact faultChannel_entersFaulted c .ramp s
  · rw [(takePowerGoodRise_ramping h).record]
  · rw [(takeTrayFault_up (.inl h)).record]; rfl
  · exact .of_event_eq rfl hp (if_neg (by simp [ht]) : takeRampExpiry c s = s)

/-! ### The warning and stop-confirm timers -/

/-- A timer that does not run has no expiry (log 4). -/
theorem takeWarningExpiry_stopped {c : Ch} {s : State} (h : (s.ch c).warn = none) : takeWarningExpiry c s = s :=
  if_neg (by simp [h])

theorem switchOff_budget (c : Ch) (s : State) :
    (switchOff c s).budget = { s.budget with inflight := inflightAfter c s } := by
  rw [switchOff, enterState_budget, inflightAfter, inflightAfter, releaseEnable_ch, if_pos rfl]
  rfl

theorem switchOff_work (c : Ch) (s : State) :
    (switchOff c s).work.eval = true ∧ (switchOff c s).work.restore = (s.work.restore || (s.ch c).shed) := by
  obtain ⟨p, h⟩ := enterState_work c .off (releaseEnable c s)
  rw [switchOff, h, releaseEnable_ch, if_pos rfl]
  exact ⟨rfl, by simp⟩

/-- The stop-confirm timer has stopped. -/
def stopConfirmed (c : Ch) (s : State) : State := s.modCh c fun r => { r with confirm := none }

theorem stopConfirmed_ch (c d : Ch) (s : State) :
    (stopConfirmed c s).ch d = if d = c then { s.ch c with confirm := none } else s.ch d :=
  State.modCh_ch s c d fun r => { r with confirm := none }

theorem stopConfirmed_fixed (c : Ch) (s : State) : (stopConfirmed c s).fixed = s.fixed := fixed_modCh _ _ _ rfl

/-- A timer that does not run has no expiry (log 4). -/
theorem takeConfirmExpiry_stopped {c : Ch} {s : State} (h : (s.ch c).confirm = none) : takeConfirmExpiry c s = s :=
  if_neg (by simp [h])

/-- With power-good absent the timer only stops (R16). -/
theorem takeConfirmExpiry_absent {c : Ch} {s : State} (h : (s.ch c).confirm.isSome)
    (hg : (s.ch c).powerGood = false) : takeConfirmExpiry c s = stopConfirmed c s := by
  simp [takeConfirmExpiry, h, hg, stopConfirmed]

section
variable {c : Ch} {s : State} (h : (s.ch c).confirm.isSome) (hg : (s.ch c).powerGood = true)
include h hg

theorem takeConfirmExpiry_off (ho : (s.ch c).state = .off) :
    takeConfirmExpiry c s = markStuck c (stopConfirmed c s) := by
  simp [takeConfirmExpiry, h, hg, ho, stopConfirmed]

theorem takeConfirmExpiry_pending (ho : (s.ch c).state = .pending) :
    takeConfirmExpiry c s = markStuck c (withdraw c .counted (stopConfirmed c s)) := by
  simp [takeConfirmExpiry, h, hg, ho, stopConfirmed]

theorem takeConfirmExpiry_faulted (ho : (s.ch c).state = .faulted) :
    takeConfirmExpiry c s =
      if (s.ch c).fault = .stuck then stopConfirmed c s
      else reportFault c (s.modCh c fun r => { r with fault := .stuck, since := s.now, confirm := none }) := by
  simp [takeConfirmExpiry, h, hg, ho, stopConfirmed, modCh_modCh]

end

theorem markStuck_ch (c d : Ch) (s : State) :
    (markStuck c s).ch d = if d = c then
      { s.ch c with state := .faulted, fault := .stuck, since := s.now, shed := false, override := false }
    else s.ch d := by
  simp only [markStuck, reportFault_ch, enterState_ch, State.modCh_ch, clearShed_ch, if_true]
  split <;> rfl

theorem markStuck_queue (c : Ch) (s : State) : (markStuck c s).budget.queue = s.budget.queue := by
  simp [markStuck, reportFault, enterState_queue]

theorem markStuck_flag (c : Ch) (s : State) : (markStuck c s).link.flags.channel = true := reportFault_flag c _

theorem markStuck_fixed (c : Ch) (s : State) : (markStuck c s).fixed = s.fixed := by
  rw [markStuck, reportFault_fixed, enterState_fixed, fixed_modCh _ _ _ rfl, clearShed_fixed]

theorem markStuck_aside (c : Ch) (s : State) : aside (markStuck c s) = aside s := by
  simp [markStuck, reportFault, aside]

/-- A stop-confirm expiry that finds the output of an OFF or PENDING channel still up ends in the finding of R16, on a
state in which a PENDING one has been withdrawn. -/
theorem takeConfirmExpiry_stuck {c : Ch} {s : State} (h : (s.ch c).confirm.isSome) (hg : (s.ch c).powerGood = true)
    (ho : (s.ch c).state = .off ∨ (s.ch c).state = .pending) :
    ∃ t, takeConfirmExpiry c s = markStuck c t ∧ t.fixed = s.fixed ∧ aside t = aside s ∧ OnlyChannel c s t ∧
      (∃ x y z, t.ch c = { s.ch c with state := x, since := y, override := z, confirm := none }) ∧
      ((s.ch c).state = .pending → c ∉ queuedChans t.budget.queue) := by
  have hch : (stopConfirmed c s).ch c = { s.ch c with confirm := none } := by rw [stopConfirmed_ch, if_pos rfl]
  rcases ho with ho | ho
  · exact ⟨stopConfirmed c s, takeConfirmExpiry_off h hg ho, stopConfirmed_fixed c s, rfl, modCh_onlyChannel c _ s,
      ⟨_, _, _, hch⟩, fun hp => by simp [ho] at hp⟩
  · have hpend : ((stopConfirmed c s).ch c).state = .pending := by rw [hch, ho]
    refine ⟨withdraw c .counted (stopConfirmed c s), takeConfirmExpiry_pending h hg ho,
      (withdraw_fixed c .counted _).trans (stopConfirmed_fixed c s), (withdraw_aside c .counted _).trans rfl,
      fun d hd => ?_, ⟨.off, s.now, false, ?_⟩, fun _ => ?_⟩
    · rw [withdraw_ch, if_neg (fun e => hd e.1), stopConfirmed_ch, if_neg hd]
    · rw [withdraw_ch, if_pos ⟨rfl, hpend⟩, hch]; rfl
    · rw [withdraw_queued, if_pos hpend]
      simp

/-- Settles O13: each of the two timers by the state and the level its expiry finds. -/
theorem warningAndStopConfirmExpiries : Obligations.WarningAndStopConfirmExpiries := by
  refine ⟨fun c s hp hw ht => ⟨switchOff c s, ?_, ?_⟩, fun c s hp ht => ?_, fun c s hp ht => ?_,
    fun c s hp ht hg => ?_, fun c s hp ht hg ho => ⟨takeConfirmExpiry c s, .of_event rfl hp, ?_⟩,
    fun c s hp ht hg ho => ⟨takeConfirmExpiry c s, .of_event rfl hp, ?_⟩⟩
  · exact .of_event_eq rfl hp (takeWarningExpiry_warning hw ht)
  · refine ⟨by rw [switchOff_ch, if_pos rfl], fun d hd => by rw [switchOff_ch, if_neg hd], ?_,
      switchOff_source c s, by simp [switchOff], congrArg Prod.fst (switchOff_aside c s), by simp [switchOff],
      ⟨by simp [switchOff], by simp [switchOff]⟩, (switchOff_work c s).1, (switchOff_work c s).2,
      switchOff_sameRest c s⟩
    rw [switchOff_budget, inflightAfter, if_pos hw]
  · exact .of_event_eq rfl hp (takeWarningExpiry_stopped ht)
  · exact .of_event_eq rfl hp (takeConfirmExpiry_stopped ht)
  · exact .of_event_eq rfl hp (takeConfirmExpiry_absent ht hg)
  · obtain ⟨t, hu, hf, ha, hoc, ⟨x, y, z, htc⟩, hq⟩ := takeConfirmExpiry_stuck ht hg ho
    have hfu : (markStuck c t).fixed = s.fixed := (markStuck_fixed c t).trans hf
    have hau : aside (markStuck c t) = aside s := (markStuck_aside c t).trans ha
    have hnow : t.now = s.now := congrArg Fixed.now hf
    rw [hu]
    refine ⟨fun d hd => by rw [markStuck_ch, if_neg hd, hoc d hd], by rw [markStuck_ch, if_pos rfl, htc, hnow],
      fun hp => by rw [markStuck_queue]; exact hq hp, markStuck_flag c t, congrArg Prod.fst hau,
      congrArg Fixed.resp hfu, .of_fixed hfu hau⟩
  · rw [takeConfirmExpiry_faulted ht hg ho]
    split
    · exact ⟨modCh_onlyChannel c _ s, rfl, rfl, rfl, rfl, rfl, rfl, modCh_sameRest c _ s⟩
    · let t := s.modCh c fun r => { r with fault := .stuck, since := s.now, confirm := none }
      have htc : t.ch c = { s.ch c with fault := .stuck, since := s.now, confirm := none } := s.modCh_ch_same c _
      have hr := reportFault_reports (c := c) (s := s) (t := t) (modCh_sameRest c _ s) rfl rfl
      rw [htc] at hr
      refine ⟨fun d hd => by rw [reportFault_ch]; exact s.modCh_ch_other _ hd, ⟨?_, hr⟩, ?_, ?_, ?_, ?_, ?_,
        (modCh_sameRest c _ s).trans (reportFault_sameRest c t)⟩
      · rw [reportFault_ch]; exact htc
      all_goals simp [reportFault]

/-! ### The sense scan -/

/-- An ON channel above its allocation that is not yet marked (R5). -/
def Overdraws (s : State) (c : Ch) : Prop :=
  (s.ch c).state = .on ∧ (s.chCfg c).alloc < (s.ch c).draw ∧ (s.ch c).overdrawn = false

/-- A channel's record after the overdraw check, by its allocation (R5). -/
def Channel.checked (alloc : Nat) (r : Channel) : Channel :=
  { r with overdrawn := r.overdrawn || (decide (r.state = .on) && decide (alloc < r.draw)) }

theorem overdrawCheck_idle {c : Ch} {s : State} (h : ¬ Overdraws s c) : overdrawCheck c s = s := if_neg h

theorem overdrawCheck_acts {c : Ch} {s : State} (h : Overdraws s c) :
    overdrawCheck c s =
      (raise .channelOverdraw (some c.val) (some (s.ch c).draw) (some (s.chCfg c).alloc) s).modCh c
        fun r => { r with overdrawn := true } := if_pos h

theorem overdrawCheck_ch (c d : Ch) (s : State) :
    (overdrawCheck c s).ch d = if d = c then (s.ch c).checked (s.chCfg c).alloc else s.ch d := by
  by_cases h : Overdraws s c
  · obtain ⟨hon, hover, hmark⟩ := h
    rw [overdrawCheck_acts ⟨hon, hover, hmark⟩, State.modCh_ch, raise_ch, raise_ch]
    simp [Channel.checked, hon, hover]
  · rw [overdrawCheck_idle h]
    by_cases hd : d = c
    · have hsame : (s.ch c).overdrawn =
          ((s.ch c).overdrawn || (decide ((s.ch c).state = .on) && decide ((s.chCfg c).alloc < (s.ch c).draw))) := by
        simp only [Overdraws] at h
        cases hm : (s.ch c).overdrawn <;> simp_all
      rw [if_pos hd, hd, Channel.checked, ← hsame]
    · rw [if_neg hd]

theorem overdrawCheck_spec (c : Ch) (s : State) :
    overdrawCheck c s = { s with
      chans := (overdrawCheck c s).chans, link := (overdrawCheck c s).link, tally := (overdrawCheck c s).tally } := by
  by_cases h : Overdraws s c
  · rw [overdrawCheck_acts h, raise_spec]; rfl
  · rw [overdrawCheck_idle h]

/-- The 24 checks change the channel records, the ports, the condition summary and the tallies alone. -/
theorem forEach_overdrawCheck_spec (l : List Ch) (s : State) :
    ∃ x y z, forEach l overdrawCheck s = { s with chans := x, link := y, tally := z } :=
  forEach_keeps (fun t => ∃ x y z, t = { s with chans := x, link := y, tally := z }) overdrawCheck
    (fun c t ht => by
      obtain ⟨x, y, z, rfl⟩ := ht
      exact ⟨_, _, _, overdrawCheck_spec c _⟩) l s ⟨_, _, _, rfl⟩

theorem forEach_overdrawCheck_ch (s : State) (d : Ch) :
    (forEach allCh overdrawCheck s).ch d = (s.ch d).checked (s.chCfg d).alloc := by
  have h := forEach_ch overdrawCheck (fun _ cfg _ c r => r.checked cfg.chan[c].alloc)
    (fun c t => by rw [overdrawCheck_spec]; exact ⟨rfl, rfl, rfl⟩) overdrawCheck_ch allCh (List.nodup_finRange 24) s d
  exact h.trans (if_pos (List.mem_finRange d))

/-- A turn that changes nothing, again and again, changes nothing. -/
theorem forEach_idle {α : Type} {f : α → State → State} {s : State} (l : List α) (h : ∀ a ∈ l, f a s = s) :
    forEach l f s = s := by
  induction l with
  | nil => rfl
  | cons a l ih =>
    show forEach l f (f a s) = s
    rw [h a (by simp)]
    exact ih fun b hb => h b (by simp [hb])

/-- A set flag of the group stays set through the checks. -/
theorem overdrawCheck_keeps_flag (c : Ch) (s : State) (h : s.link.flags.channel = true) :
    (overdrawCheck c s).link.flags.channel = true := by
  by_cases ho : Overdraws s c
  · rw [overdrawCheck_acts ho, State.modCh_link, raise_flags]; rfl
  · rwa [overdrawCheck_idle ho]

/-- One channel to be marked is enough for the flag of the group (R5, R176). -/
theorem forEach_overdrawCheck_flag {c : Ch} (l : List Ch) (hc : c ∈ l) (s : State) (h : Overdraws s c) :
    (forEach l overdrawCheck s).link.flags.channel = true := by
  induction l with
  | nil => cases hc
  | cons a l ih =>
    show (forEach l overdrawCheck (overdrawCheck a s)).link.flags.channel = true
    by_cases ha : Overdraws s a
    · refine forEach_keeps (fun t => t.link.flags.channel = true) overdrawCheck overdrawCheck_keeps_flag l _ ?_
      rw [overdrawCheck_acts ha, State.modCh_link, raise_flags]; rfl
    · rw [overdrawCheck_idle ha]
      refine ih ((List.mem_cons.mp hc).resolve_left fun e => ha (e ▸ h))

theorem storeDraws_ch (x : Vector Int 24) (s : State) (c : Ch) :
    (storeDraws x s).ch c = { s.ch c with draw := min (x[c]).toNat 32767 } := by
  simp [storeDraws, State.ch, clampDraw]

theorem storeDraws_chCfg (x : Vector Int 24) (s : State) (c : Ch) : (storeDraws x s).chCfg c = s.chCfg c := by
  simp [storeDraws, State.chCfg]

theorem storeDraws_spec (x : Vector Int 24) (s : State) : ∃ v, storeDraws x s = { s with chans := v } := ⟨_, rfl⟩

/-- The readings stored and the checks made change the channel records, the ports, the condition summary and the
tallies alone. -/
theorem storedAndChecked_spec (x : Vector Int 24) (s : State) :
    ∃ a b c, forEach allCh overdrawCheck (storeDraws x s) = { s with chans := a, link := b, tally := c } := by
  obtain ⟨v, hv⟩ := storeDraws_spec x s
  obtain ⟨a, b, c, hu⟩ := forEach_overdrawCheck_spec allCh (storeDraws x s)
  exact ⟨a, b, c, by rw [hu, hv]⟩

/-- The scan's hand-over: an evaluation, and in RIDE a ride evaluation (R3, R107). -/
def scanned (x : Vector Int 24) (s : State) : State :=
  (forEach allCh overdrawCheck (storeDraws x s)).modWork fun w =>
    { w with eval := true, ride := w.ride || decide (s.source.state = .ride) }

theorem scanned_spec (x : Vector Int 24) (s : State) :
    ∃ a b c, scanned x s = { s with
      chans := a, link := b, tally := c
      work := { s.work with eval := true, ride := s.work.ride || decide (s.source.state = .ride) } } := by
  obtain ⟨a, b, c, hu⟩ := storedAndChecked_spec x s
  exact ⟨a, b, c, by rw [scanned, hu]; rfl⟩

theorem channelSenseScan_acts (x : Vector Int 24) {s : State} (hp : s.power = .running) :
    Acts (.channelSenseScan x) s (scanned x s) := by
  have hscan : (fun s => let s := markEval (forEach allCh overdrawCheck (storeDraws x s))
      if s.source.state = .ride then markRide s else s) s = scanned x s := by
    have hsrc : (forEach allCh overdrawCheck (storeDraws x s)).source = s.source := by
      obtain ⟨a, b, c, hu⟩ := storedAndChecked_spec x s
      rw [hu]
    simp only [markEval_source, hsrc, scanned]
    generalize forEach allCh overdrawCheck (storeDraws x s) = t
    by_cases h : s.source.state = .ride <;> simp [h, markEval, markRide, State.modWork]
  exact .of_event_eq rfl hp hscan

/-- Settles O8: the stored draws and marks, the reports, and what the scan hands over. -/
theorem senseScanStoresClampedDraws : Obligations.SenseScanStoresClampedDraws := by
  intro x s hp
  obtain ⟨a, b, c, hu⟩ := scanned_spec x s
  have hch := storeDraws_ch x s
  refine ⟨scanned x s, channelSenseScan_acts x hp, fun c => ?_, ?_, fun hno => ?_, fun ⟨c, hon, hmark, hover⟩ => ?_,
    ?_, ?_, ?_, ?_, ?_, ?_⟩
  · rw [scanned, modWork_ch, forEach_overdrawCheck_ch, hch, storeDraws_chCfg]
    rfl
  · rw [hu]
  · have hidle : forEach allCh overdrawCheck (storeDraws x s) = storeDraws x s :=
      forEach_idle allCh fun c _ => overdrawCheck_idle fun ⟨hon, hover, hmark⟩ => by
        rw [hch] at hon hmark
        rw [hch, storeDraws_chCfg] at hover
        exact absurd hover (Nat.not_lt.mpr (hno c hon hmark))
    obtain ⟨v, hv⟩ := storeDraws_spec x s
    rw [scanned, hidle, hv]
    exact ⟨rfl, rfl⟩
  · rw [scanned, State.modWork_link]
    refine forEach_overdrawCheck_flag allCh (List.mem_finRange c) _ ?_
    rw [Overdraws, hch, storeDraws_chCfg]
    exact ⟨hon, hover, hmark⟩
  all_goals rw [hu]
  exact ⟨rfl, rfl, rfl, rfl, rfl, rfl, rfl, rfl, rfl, rfl⟩

end Sys2Proof.Machine
end

section
/-! The path of a command line through its port (Chapter 9): from its arrival at a ready port to the block that owns its
verb, and the state that the block finds. -/

namespace Sys2Proof.Machine

/-! ### The state a command finds -/

theorem cancelOverride_spec (p : Port) (s : State) : ∃ r, cancelOverride p s = { s with resp := r } := by
  simp only [cancelOverride]
  split
  · split
    · exact ⟨_, rfl⟩
    · exact ⟨_, rfl⟩
  · exact ⟨_, rfl⟩

theorem lineAtOverride_spec (p : Port) (i : Instr) (s : State) : ∃ r, lineAtOverride p i s = { s with resp := r } := by
  simp only [lineAtOverride]
  split
  · exact ⟨_, rfl⟩
  · exact cancelOverride_spec p s

theorem lineHeard_spec (p : Port) (s : State) :
    ∃ x, lineHeard p s = { s with source := { s.source with silence := x } } := by
  cases p <;> exact ⟨_, rfl⟩

/-- A line that is found changes the silence timer, the override sequence and its port alone. -/
theorem found_spec (l : LineId) (i : Instr) (s : State) :
    ∃ x r k, found l i s = { s with source := { s.source with silence := x }, resp := r, link := k } := by
  obtain ⟨x, hx⟩ := lineHeard_spec l.port s
  obtain ⟨r, hr⟩ := lineAtOverride_spec l.port i
    ((lineHeard l.port s).modPort l.port fun c => { c with buffer := [⟨l.tag, .cmd i, false, 0⟩] })
  exact ⟨x, r, _, by rw [found, hr, hx]; rfl⟩

section
variable (l : LineId) (i : Instr) (s : State)

theorem found_sameRest : SameRest s (found l i s) := by
  obtain ⟨x, r, k, h⟩ := found_spec l i s
  rw [h]
  exact ⟨rfl, rfl, rfl, rfl, rfl, rfl, rfl, rfl, rfl, rfl⟩

@[simp] theorem found_now : (found l i s).now = s.now := (found_sameRest l i s).now
@[simp] theorem found_cfg : (found l i s).cfg = s.cfg := (found_sameRest l i s).cfg
@[simp] theorem found_chans : (found l i s).chans = s.chans := by obtain ⟨x, r, k, h⟩ := found_spec l i s; rw [h]
@[simp] theorem found_budget : (found l i s).budget = s.budget := by obtain ⟨x, r, k, h⟩ := found_spec l i s; rw [h]
@[simp] theorem found_run : (found l i s).run = s.run := by obtain ⟨x, r, k, h⟩ := found_spec l i s; rw [h]
@[simp] theorem found_shelf : (found l i s).shelf = s.shelf := by obtain ⟨x, r, k, h⟩ := found_spec l i s; rw [h]
@[simp] theorem found_work : (found l i s).work = s.work := by obtain ⟨x, r, k, h⟩ := found_spec l i s; rw [h]
@[simp] theorem found_source_state : (found l i s).source.state = s.source.state := by
  obtain ⟨x, r, k, h⟩ := found_spec l i s; rw [h]
@[simp] theorem found_ch (c : Ch) : (found l i s).ch c = s.ch c := by simp only [State.ch, found_chans]
@[simp] theorem found_chCfg (c : Ch) : (found l i s).chCfg c = s.chCfg c := by simp only [State.chCfg, found_cfg]

end

/-! ### From the arrival to the block -/

/-- Two changes that agree on a port's context are one. -/
theorem modPort_congr {p : Port} {f g : PortCtx → PortCtx} {s : State} (h : f (s.port p) = g (s.port p)) :
    s.modPort p f = s.modPort p g := by
  cases p <;> simp only [State.modPort, State.modLink, State.port] at h ⊢ <;> rw [h]

/-- A valid line that is heard while the host is not silent restarts the silence timer and does nothing else (R127). -/
theorem heard_ready {p : Port} {s : State} (h : Ready p s) : heard p s = lineHeard p s := by
  cases p with
  | service => rfl
  | manager =>
    have he : endSilence s = lineHeard .manager s := by
      rw [endSilence, if_pos (h.heard rfl)]
      rfl
    show settle (endSilence s) = _
    rw [he, settle_quiet]
    exact h.quiet

/-- A line at a ready port is the head of its buffer at once (R173). -/
theorem receive_ready {p : Port} {s : State} (h : Ready p s) (tag : List Char) (body : LineBody) :
    receive p tag body s =
      takeHead p ((lineHeard p s).modPort p fun c => { c with buffer := [⟨tag, body, false, 0⟩] }) := by
  have hb : ((lineHeard p s).port p).buffer = [] := by
    obtain ⟨x, hx⟩ := lineHeard_spec p s
    have hp : (lineHeard p s).port p = s.port p := by rw [hx]; cases p <;> rfl
    rw [hp, h.empty]
  simp only [receive, h.running, heard_ready h, hb]
  rw [if_pos (by decide), receiveRoom]
  exact congrArg (takeHead p) (modPort_congr (by rw [hb]; rfl))

/-- The head line is answered with what its command answers, and its response stands at the end of the output (R173). -/
theorem takeHead_line {l : LineId} {i : Instr} {s : State}
    (h : (s.port l.port).buffer = [⟨l.tag, .cmd i, false, 0⟩]) :
    takeHead l.port s = answered l (runLine l.port i s).2 (runLine l.port i s).1 := by
  simp only [takeHead, h]
  rfl

theorem verbPermitted_congr {s t : State} (h : t.cfg = s.cfg) (p : Port) (i : Instr) (b : Bool) :
    verbPermitted p i b t = verbPermitted p i b s := by
  simp only [verbPermitted, h]

/-- A permitted line is acted on by its block in the state it was found in (R172). -/
theorem exec_line {l : LineId} {i : Instr} {s : State} (hi : exec i s = .next (receive l.port l.tag (.cmd i) s))
    (h : CanTake l i s) :
    exec i s =
      .next (answered l (runCommand i (found l i s)).2 (settle (runCommand i (found l i s)).1)) := by
  obtain ⟨hr, hv⟩ := h
  let t := (lineHeard l.port s).modPort l.port fun c => { c with buffer := [⟨l.tag, .cmd i, false, 0⟩] }
  have hbuf : (t.port l.port).buffer = [⟨l.tag, .cmd i, false, 0⟩] := by
    rw [State.modPort_port_same]
  have hcfg : t.cfg = s.cfg := by
    obtain ⟨x, hx⟩ := lineHeard_spec l.port s
    show (lineHeard l.port s).cfg = _
    rw [hx]
  have hrun : runLine l.port i t =
      (settle (runCommand i (found l i s)).1, (runCommand i (found l i s)).2) := by
    rw [runLine, verbPermitted_congr hcfg, if_pos hv]
    rfl
  rw [hi, receive_ready hr, takeHead_line hbuf, hrun]

section
variable {l : LineId} {i : Instr} {s u : State} {r : Reply}

/-- The effect and the reply of a command, before the hand-overs. -/
theorem Takes.of_runCommand (hi : exec i s = .next (receive l.port l.tag (.cmd i) s)) (h : CanTake l i s)
    (hr : runCommand i (found l i s) = (u, r)) : Takes l i s u r := by
  rw [Takes, exec_line hi h, hr]

/-- A command that leaves the state as it found it. -/
theorem Answers.of_runCommand (hi : exec i s = .next (receive l.port l.tag (.cmd i) s)) (h : CanTake l i s)
    (hr : runCommand i (found l i s) = (found l i s, r)) : Answers l i s r := by
  have hq : settle (found l i s) = found l i s := settle_quiet _ (by rw [found_work]; exact h.1.quiet)
  rw [Answers, exec_line hi h, hr, hq]

end

/-! ### Index arguments -/

theorem index?_val {n : Nat} (c : Fin n) : index? n (c.val : Int) = some c := by
  simp [index?]

theorem index?_none {n : Nat} {x : Int} (h : x < 0 ∨ (n : Int) ≤ x) : index? n x = none := by
  rw [index?, dif_neg (by omega)]

theorem withIndex_val {n : Nat} (c : Fin n) (s : State) (k : Fin n → State × Reply) :
    withIndex n (some (c.val : Int)) s k = k c := by
  simp only [withIndex, index?_val]

theorem withIndex_none {n : Nat} {x : Int} (h : x < 0 ∨ (n : Int) ≤ x) (s : State) (k : Fin n → State × Reply) :
    withIndex n (some x) s k = refuse .range s := by
  simp only [withIndex, index?_none h]

end Sys2Proof.Machine
end

section
/-! The channel commands (01, 1.6). -/

namespace Sys2Proof.Machine

/-! ### CHANNEL CLEAR -/

theorem doChannelClear_faulted {c : Ch} {s : State} (h : (s.ch c).state = .faulted) (hg : (s.ch c).powerGood = false) :
    doChannelClear (some (c.val : Int)) s = (clearFault c s, okReply) := by
  rw [doChannelClear, withIndex_val, if_pos ⟨h, hg⟩]

theorem doChannelClear_refused {c : Ch} {s : State} (h : (s.ch c).state ≠ .faulted ∨ (s.ch c).powerGood = true) :
    doChannelClear (some (c.val : Int)) s = (s, errReply .state) := by
  rw [doChannelClear, withIndex_val, if_neg (by rintro ⟨h1, h2⟩; simp [h1, h2] at h), refuse]

theorem clearFault_ch (c d : Ch) (s : State) :
    (clearFault c s).ch d = if d = c then
      { s.ch c with state := .off, fault := .noFault, since := s.now, override := false } else s.ch d := by
  simp only [clearFault, enterState_ch, State.modCh_ch, if_true]
  split <;> rfl

theorem clearFault_sameRest (c : Ch) (s : State) : SameRest s (clearFault c s) :=
  (modCh_sameRest c _ s).trans (enterState_sameRest c .off _)

theorem clearFault_budget {c : Ch} {s : State} (h : (s.ch c).state ≠ .warning) :
    (clearFault c s).budget = s.budget := by
  rw [clearFault, enterState_budget, inflightAfter, if_neg (by rwa [State.modCh_ch_same])]
  rfl

/-- Settles O37: the clearing of a FAULTED channel, and the two refusals. -/
theorem channelClearReturnsToOff : Obligations.ChannelClearReturnsToOff := by
  intro l c s i h
  have hch := found_ch l i s c
  refine ⟨fun hf hg => ⟨clearFault c (found l i s),
      .of_runCommand rfl h (doChannelClear_faulted (by rwa [hch]) (by rwa [hch])), ?_⟩, fun hf hg => .of_runCommand rfl h (doChannelClear_refused (by rw [hch]; exact .inr hg)),
    fun hf => .of_runCommand rfl h (doChannelClear_refused (by rw [hch]; exact .inl hf))⟩
  have hu : (clearFault c (found l i s)).ch c =
      { s.ch c with state := .off, fault := .noFault, since := s.now, override := false } := by
    rw [clearFault_ch, if_pos rfl, hch, found_now]
  refine ⟨hu, fun d hd => by rw [clearFault_ch, if_neg hd, found_ch], fun hh hs => ?_, ?_, ?_, ?_, ?_, ?_, ?_,
    (found_sameRest l i s).trans (clearFault_sameRest c _)⟩
  · obtain ⟨-, -, hfree⟩ := hs
    rw [hu] at hh hfree
    simp [hh] at hfree
  · rw [clearFault_budget (by rw [hch, hf]; decide), found_budget]
  · simp [clearFault]
  · simp [clearFault]
  · simp [clearFault]
  · simp [clearFault]
  · exact ⟨by simp [clearFault], by simp [clearFault]⟩

end Sys2Proof.Machine
end

section
/-! CHANNEL SET (R23). -/

namespace Sys2Proof.Machine

/-! ### The settings stored -/

/-- Storing a channel's settings changes them, its shed mark at tier 0, and what is due. -/
theorem storeChanCfg_spec (c : Ch) (g : ChanCfg) (s : State) :
    ∃ x w, storeChanCfg c g s = { s with
        cfg := { s.cfg with chan := s.cfg.chan.set c g }
        chans := if g.tier = 0 then s.chans.set c { s.ch c with shed := false } else s.chans
        source := x, work := w } ∧
      (g.alloc ≠ (s.chCfg c).alloc → w.eval = true) := by
  obtain ⟨w, hw, he⟩ : ∃ w, (if g.alloc = (s.chCfg c).alloc then s.modCfg fun v => { v with chan := v.chan.set c g }
        else markEval (s.modCfg fun v => { v with chan := v.chan.set c g })) =
      { s with cfg := { s.cfg with chan := s.cfg.chan.set c g }, work := w } ∧
        (g.alloc ≠ (s.chCfg c).alloc → w.eval = true) := by
    by_cases ha : g.alloc = (s.chCfg c).alloc
    · exact ⟨s.work, if_pos ha, fun hne => absurd ha hne⟩
    · exact ⟨{ s.work with eval := true }, if_neg ha, fun _ => rfl⟩
  simp only [storeChanCfg, hw]
  by_cases ht : g.tier = 0
  · simp only [if_pos ht]
    split <;> exact ⟨_, _, rfl, he⟩
  · simp only [if_neg ht]
    split <;> exact ⟨_, _, rfl, he⟩

theorem chan_set (w : WorkCfg) (c d : Ch) (g : ChanCfg) :
    ({ w with chan := w.chan.set c g } : WorkCfg).chan[d] = if d = c then g else w.chan[d] := by
  by_cases h : d = c
  · subst h; simp
  · have hne : c.val ≠ d.val := fun e => h (Fin.ext e.symm)
    simp [h, Vector.getElem_set_ne, hne]

theorem clampTo_le {lo hi : Nat} (x : Int) (h : lo ≤ hi) : clampTo lo hi x ≤ hi := by
  simp only [clampTo]; omega

/-- The tier stored is the clamped number (R23). -/
theorem applyChannelSet_tier (a : ChannelSetArgs) (old : ChanCfg) :
    (applyChannelSet a old).tier.val = numArg 0 3 a.tier old.tier.val := by
  cases h : a.tier with
  | none => simp [applyChannelSet, numArg, h]
  | some x =>
    have := clampTo_le (lo := 0) (hi := 3) x (by omega)
    simp only [applyChannelSet, numArg, h, Fin.ofNat]
    omega

theorem setReplyBare_status (b : Bool) (fs : List Field) :
    (setReplyBare b fs).status = if b then .adjusted else .ok := rfl

theorem channelSetAdjusts_iff (a : ChannelSetArgs) :
    channelSetAdjusts a = true ↔ clamps 0 20000 a.alloc = true ∨ clamps 0 20000 a.inrush = true ∨
      clamps 0 3 a.tier = true ∨ clamps 0 60000 a.warn = true ∨ clamps 100 10000 a.ramp = true := by
  simp only [channelSetAdjusts, Bool.or_eq_true, or_assoc]

/-! ### The tests in their order -/

/-- cfg=NO meets a channel in use (R23). -/
def Unconfigures (a : ChannelSetArgs) (s : State) (c : Ch) : Prop :=
  a.cfg = some false ∧ (s.ch c).state ≠ .off ∧ (s.ch c).state ≠ .faulted

/-- A raised allocation of a channel whose output is up is above the headroom (R23). -/
def Overbudget (a : ChannelSetArgs) (s : State) (c : Ch) : Prop :=
  ((s.ch c).state = .ramping ∨ (s.ch c).state = .on ∨ (s.ch c).state = .warning) ∧
    (s.chCfg c).alloc < numArg 0 20000 a.alloc (s.chCfg c).alloc ∧
    s.budget.figs.h < (numArg 0 20000 a.alloc (s.chCfg c).alloc : Int) - (s.chCfg c).alloc

theorem inUse_iff (x : ChState) :
    (x = .pending ∨ x = .ramping ∨ x = .on ∨ x = .warning) ↔ x ≠ .off ∧ x ≠ .faulted := by
  cases x <;> decide

section
variable {a : ChannelSetArgs} {c : Ch} {s : State}

theorem doChannelSet_empty : doChannelSet (some (c.val : Int)) {} s = (s, errReply .syntaxError) := rfl

theorem doChannelSet_state (h0 : a ≠ {}) (h : Unconfigures a s c) :
    doChannelSet (some (c.val : Int)) a s = (s, errReply .state) := by
  rw [doChannelSet, if_neg h0, withIndex_val]
  exact if_pos ⟨h.1, (inUse_iff _).mpr h.2⟩

theorem doChannelSet_budget (h0 : a ≠ {}) (h1 : ¬ Unconfigures a s c) (h : Overbudget a s c) :
    doChannelSet (some (c.val : Int)) a s = (s, errReply .budget) := by
  rw [doChannelSet, if_neg h0, withIndex_val]
  exact (if_neg fun e => h1 ⟨e.1, (inUse_iff _).mp e.2⟩).trans (if_pos h)

theorem doChannelSet_stores (h0 : a ≠ {}) (h1 : ¬ Unconfigures a s c) (h2 : ¬ Overbudget a s c) :
    doChannelSet (some (c.val : Int)) a s =
      (storeChanCfg c (applyChannelSet a (s.chCfg c)) s,
        setReplyBare (channelSetAdjusts a) (chanCfgFields (applyChannelSet a (s.chCfg c)))) := by
  rw [doChannelSet, if_neg h0, withIndex_val]
  exact (if_neg fun e => h1 ⟨e.1, (inUse_iff _).mp e.2⟩).trans (if_neg h2)

end

/-- The tests read what a line that is found leaves alone. -/
theorem found_tests (l : LineId) (i : Instr) (a : ChannelSetArgs) (s : State) (c : Ch) :
    (Unconfigures a (found l i s) c ↔ Unconfigures a s c) ∧ (Overbudget a (found l i s) c ↔ Overbudget a s c) := by
  simp only [Unconfigures, Overbudget, found_ch, found_chCfg, found_budget, and_self]

/-- Settles O38: the refusals in the order of the tests, and the settings stored. -/
theorem channelSetStoresClampedSettings : Obligations.ChannelSetStoresClampedSettings := by
  intro l c a s i old st alloc h
  obtain ⟨hunconf, hover⟩ := found_tests l i a s c
  have hrun : ∀ {u r}, doChannelSet (some (c.val : Int)) a (found l i s) = (u, r) → Takes l i s u r :=
    fun hr => .of_runCommand rfl h hr
  refine ⟨fun h0 => .of_runCommand rfl h (by subst h0; exact doChannelSet_empty), fun h0 hc ho hf => ?_,
    fun h0 hc hs hl hh => ?_, fun h0 h1 h2 => ?_⟩
  · exact .of_runCommand rfl h (doChannelSet_state h0 (hunconf.mpr ⟨hc, ho, hf⟩))
  · exact .of_runCommand rfl h (doChannelSet_budget h0 (fun e => hc e.1) (hover.mpr ⟨hs, hl, hh⟩))
  · have h1' : ¬ Unconfigures a s c := fun ⟨e1, e2, e3⟩ => h1.elim (· e1) fun e => e.elim e2 e3
    have h2' : ¬ Overbudget a s c := by
      rintro ⟨e1, e2, e3⟩
      rcases h2 with ⟨n1, n2, n3⟩ | n | n
      · exact e1.elim n1 fun e => e.elim n2 n3
      · exact absurd e2 (Nat.not_lt.mpr n)
      · exact absurd e3 (Int.not_lt.mpr n)
    let g := applyChannelSet a old
    obtain ⟨x, w, hu, hw⟩ := storeChanCfg_spec c g (found l i s)
    have hg : ∀ d, (storeChanCfg c g (found l i s)).chCfg d = if d = c then g else s.chCfg d := by
      intro d
      rw [hu]
      exact (chan_set _ c d g).trans (by rw [found_cfg]; rfl)
    have hgc := (hg c).trans (if_pos rfl)
    have htake := doChannelSet_stores h0 (mt hunconf.mp h1') (mt hover.mp h2')
    rw [found_chCfg] at htake
    refine ⟨storeChanCfg c g (found l i s), _, hrun htake, ?_, ?_, by rw [hgc]; rfl, by rw [hgc]; rfl, by rw [hgc]; rfl,
      by rw [hgc]; exact applyChannelSet_tier a old, by rw [hgc]; rfl, by rw [hgc]; rfl,
      fun d hd => (hg d).trans (if_neg hd), ?_, fun hne => ?_, ?_, fun d hd => ?_, ?_, ?_, ?_, ?_⟩
    · rw [setReplyBare_status]; split <;> simp
    · rw [setReplyBare_status, ← channelSetAdjusts_iff]; split <;> simp_all
    · rw [hu]; simp
    · rw [hu]
      exact hw (by rw [found_chCfg]; exact hne)
    · rw [hgc, hu]
      split <;> simp [State.ch]
    · rw [hu]
      have hne : c.val ≠ d.val := fun e => hd (Fin.ext e.symm)
      simp only [State.ch]
      split <;> simp [Vector.getElem_set_ne, hne]
    all_goals rw [hu]; simp
    exact (found_sameRest l i s).store

end Sys2Proof.Machine
end

section
/-! The start commands and the join of the admission queue (R19, R20, R36). -/

namespace Sys2Proof.Machine

/-! ### The tests on one channel -/

theorem startReason_none (s : State) (c : Ch) : startReason s c = none ↔ Startable s c := by
  unfold startReason Startable
  cases (s.chCfg c).configured <;> cases (s.ch c).state <;> cases (s.ch c).holds <;> cases (s.ch c).override <;> simp

/-- The code of the first failing test is HELD when the holds alone are in the way (R19). -/
theorem startReason_code {s : State} {c : Ch} {n : Nat} (h : startReason s c = some n) :
    reasonCode n = startCode s c := by
  unfold startReason at h
  unfold startCode
  split at h
  · next hc => cases h; simp_all [reasonCode]
  · split at h
    · next ho => cases h; simp_all [reasonCode]
    · split at h
      · cases h; simp_all [reasonCode]
      · cases h

theorem startReason_not_startable {s : State} {c : Ch} (h : ¬ Startable s c) : ∃ n, startReason s c = some n :=
  Option.ne_none_iff_exists'.mp (mt (startReason_none s c).mp h)

/-! ### The join -/

/-- The channels of an entry become PENDING, one after the other. -/
theorem forEach_pending_spec (l : List Ch) (s : State) :
    ∃ v x w, forEach l (fun c s => enterState c .pending s) s =
        { s with chans := v, budget := { s.budget with inflight := x }, work := w } ∧
      (l ≠ [] → w.eval = true) := by
  induction l generalizing s with
  | nil => exact ⟨_, _, _, rfl, fun h => absurd rfl h⟩
  | cons a l ih =>
    obtain ⟨p, h⟩ := enterState_spec a .pending s
    obtain ⟨v, x, w, hl, hw⟩ := ih (enterState a .pending s)
    refine ⟨v, x, w, hl.trans (by rw [h]), fun _ => ?_⟩
    cases l with
    | cons b l => exact hw (by simp)
    | nil =>
      have hwork : w = (enterState a .pending s).work := (congrArg State.work hl).symm
      rw [hwork, h]

theorem forEach_pending_ch (l : List Ch) (hl : l.Nodup) (s : State) (d : Ch) :
    (forEach l (fun c s => enterState c .pending s) s).ch d =
      if d ∈ l then { s.ch d with state := .pending, since := s.now } else s.ch d :=
  forEach_ch (fun c s => enterState c .pending s) (fun now _ _ _ r => r.enter .pending now)
    (fun c t => by simp) (fun c d t => enterState_ch c d .pending t) l hl s d

/-- A head that has just joined has waited for no time yet, which no late time is below: the late timer runs (R41). -/
theorem watchHead_new {s : State} {e : Entry} {q : List Entry} (hq : s.budget.queue = e :: q) (hj : e.joined = s.now) :
    watchHead s = s.modBudget fun b => { b with late := some ⟨s.now, s.cfg.policy.late + 1⟩ } := by
  have hw : s.waited e ≤ s.cfg.policy.late := by simp [State.waited, State.age, msBetween, hj]
  simp only [watchHead, hq, if_pos hw, hj]

/-- A join in GRID: the entry at the tail, the late timer at a new head, an evaluation and an examination due (R36). -/
theorem join_spec (nm : EntryName) (o : Origin) {s : State} (hg : s.source.state = .grid)
    (hne : (newEntry nm o s).chans ≠ []) :
    ∃ (v : Vector Channel 24) (x : List Ch) (w : Work), join nm o s = { s with
        chans := v
        budget := { s.budget with
          queue := s.budget.queue ++ [newEntry nm o s], inflight := x
          late := if s.budget.queue = [] then some ⟨s.now, s.cfg.policy.late + 1⟩ else s.budget.late }
        work := { w with exam := true } } ∧ w.eval = true := by
  obtain ⟨v, x, w, h, hw⟩ := forEach_pending_spec (newEntry nm o s).chans
    (s.modBudget fun b => { b with queue := b.queue ++ [newEntry nm o s] })
  refine ⟨v, x, w, ?_, hw hne⟩
  simp only [join, if_pos hg, h]
  cases hq : s.budget.queue with
  | nil =>
    rw [List.isEmpty_nil, if_pos rfl, watchHead_new (e := newEntry nm o s) (q := [])]
    · simp [markExam, State.modWork, State.modBudget, hq]
    · simp [hq]
    · rfl
  | cons e q => simp [markExam, State.modWork, State.modBudget, hq]

theorem join_ch {nm : EntryName} {o : Origin} {s : State} {l : List Ch} (hl : (newEntry nm o s).chans = l)
    (hg : s.source.state = .grid) (hn : l.Nodup) (d : Ch) :
    (join nm o s).ch d =
      if d ∈ l then { s.ch d with state := .pending, since := s.now } else s.ch d := by
  have h := forEach_pending_ch l hn (s.modBudget fun b => { b with queue := b.queue ++ [newEntry nm o s] }) d
  have hch : ∀ (b : Bool) (t : State), (markExam (if b then watchHead t else t)).ch d = t.ch d := by
    intro b t
    cases b
    · rfl
    · simp only [State.ch, markExam_chans, if_true, watchHead_chans]
  simp only [join, if_pos hg, hch, hl]
  exact h

/-! ### CHANNEL START ch= -/

section
variable {s : State} {c : Ch}

theorem doChannelStart_refused (h : ¬ Startable s c) :
    doChannelStart { ch := some (c.val : Int) } s = (s, errReply (startCode s c)) := by
  obtain ⟨n, hn⟩ := startReason_not_startable h
  simp only [doChannelStart, withIndex_val, hn, startReason_code hn, refuse]

theorem doChannelStart_source (h : Startable s c) (hg : s.source.state ≠ .grid) :
    doChannelStart { ch := some (c.val : Int) } s = (s, errReply .source) := by
  simp only [doChannelStart, withIndex_val, (startReason_none s c).mpr h, if_pos hg, refuse]

theorem doChannelStart_joins (h : Startable s c) (hg : s.source.state = .grid) :
    doChannelStart { ch := some (c.val : Int) } s =
      (join (.single c) .host s, okWith [fWord "state" "PENDING"]) := by
  simp only [doChannelStart, withIndex_val, (startReason_none s c).mpr h, hg, ne_eq, not_true, if_false]

end

/-- The start tests read what a line that is found leaves alone. -/
theorem found_startable (l : LineId) (i : Instr) (s : State) (c : Ch) :
    (Startable (found l i s) c ↔ Startable s c) ∧ startCode (found l i s) c = startCode s c := by
  simp only [Startable, startCode, found_ch, found_chCfg, and_self]

/-- Settles O34: the refusals, and the join of a channel that passes the tests. -/
theorem channelStartJoinsTheQueue : Obligations.ChannelStartJoinsTheQueue := by
  intro l c s i h
  obtain ⟨hstart, hcode⟩ := found_startable l i s c
  have hsrc := found_source_state l i s
  refine ⟨fun hs => .of_runCommand rfl h ?_, fun hs hg => .of_runCommand rfl h ?_, fun hs hg => ?_⟩
  · rw [← hcode]
    exact doChannelStart_refused (mt hstart.mp hs)
  · exact doChannelStart_source (hstart.mpr hs) (by rwa [hsrc])
  · have hg' : (found l i s).source.state = .grid := hsrc.trans hg
    have hch := join_ch (nm := .single c) (o := .host) (l := [c]) rfl hg' (List.nodup_singleton c)
    obtain ⟨v, x, w, hu, hw⟩ := join_spec (.single c) .host hg' (List.cons_ne_nil c [])
    refine ⟨join (.single c) .host (found l i s), .of_runCommand rfl h (doChannelStart_joins (hstart.mpr hs) hg'),
      ?_, fun d hd => ?_, ?_⟩
    · rw [hch, if_pos (List.mem_singleton_self c), found_ch, found_now]
    · rw [hch, if_neg (mt List.mem_singleton.mp hd), found_ch]
    · rw [hu]
      refine ⟨by simp [newEntry], fun hq => by simp [hq], fun hq => by simp [hq], by simp, rfl, rfl, by simp, by simp,
        ⟨rfl, rfl⟩, hw, rfl, (found_sameRest l i s).trans ⟨rfl, rfl, rfl, rfl, rfl, rfl, rfl, rfl, rfl, rfl⟩⟩

/-! ### CHANNEL START gang= -/

/-- The startable members of a gang, in index order (R20). -/
def startables (s : State) (g : Gang) : List Ch := (gangMembers g).filter fun c => (startReason s c).isNone

theorem mem_gangMembers (g : Gang) (c : Ch) : c ∈ gangMembers g ↔ c.val / 4 = g.val := by
  simp [gangMembers, allCh]

theorem gangMembers_nodup (g : Gang) : (gangMembers g).Nodup := (List.nodup_finRange 24).filter _

theorem mem_startables (s : State) (g : Gang) (c : Ch) : c ∈ startables s g ↔ c.val / 4 = g.val ∧ Startable s c := by
  simp only [startables, List.mem_filter, mem_gangMembers, Option.isNone_iff_eq_none, startReason_none]

/-- A sorted list of the startable members is the list of them. -/
theorem eq_startables {s : State} {g : Gang} {pass : List Ch} (hp : pass.Pairwise (· < ·))
    (hm : ∀ c, c ∈ pass ↔ c.val / 4 = g.val ∧ Startable s c) : pass = startables s g :=
  hp.eq_of_mem_iff (((List.sortedLT_finRange 24).pairwise.filter _).filter _) fun c => by
    rw [hm]
    exact (mem_startables s g c).symm

theorem gangMembers_head (g : Gang) : (gangMembers g).head? = some ⟨4 * g.val, by omega⟩ := by
  revert g; decide

section
variable {s : State} {g : Gang}

theorem doChannelStartGang_source (hg : s.source.state ≠ .grid) :
    doChannelStartGang { gang := some (g.val : Int) } s = (s, errReply .source) := by
  simp only [doChannelStartGang, withIndex_val, if_pos hg, refuse]

/-- The lowest member's code is the first among the members' codes (R20). -/
theorem doChannelStartGang_refused (hg : s.source.state = .grid) (h : startables s g = []) :
    doChannelStartGang { gang := some (g.val : Int) } s = (s, errReply (startCode s ⟨4 * g.val, by omega⟩)) := by
  have hlow : (⟨4 * g.val, by omega⟩ : Ch) ∈ gangMembers g := List.mem_of_mem_head? (gangMembers_head g)
  obtain ⟨n, hn⟩ : ∃ n, startReason s ⟨4 * g.val, by omega⟩ = some n := by
    refine startReason_not_startable fun hs => ?_
    have := (mem_startables s g _).mpr ⟨(mem_gangMembers g _).mp hlow, hs⟩
    rw [h] at this
    cases this
  obtain ⟨ms, hms⟩ : ∃ ms, gangMembers g = ⟨4 * g.val, by omega⟩ :: ms := by
    have hh := gangMembers_head g
    cases hl : gangMembers g with
    | nil => rw [hl] at hh; cases hh
    | cons a ms => rw [hl] at hh; cases hh; exact ⟨ms, rfl⟩
  have hcodes : (gangMembers g).filterMap (startReason s) = n :: ms.filterMap (startReason s) := by
    rw [hms, List.filterMap_cons_some hn]
  have hpass : ((gangMembers g).filter fun c => (startReason s c).isNone) = [] := h
  simp only [doChannelStartGang, withIndex_val, hg, ne_eq, not_true, if_false, hpass, hcodes, refuse, startReason_code hn]

/-- Some members are startable: they join, and the answer names the others only where there are any (R20). -/
theorem doChannelStartGang_joins (hg : s.source.state = .grid) (h : startables s g ≠ []) :
    ∃ fs, doChannelStartGang { gang := some (g.val : Int) } s =
        (join (.gang g (startables s g)) .host s, okWith (fSet "joined" (startables s g) :: fs)) ∧
      (fs = [] ↔ ∀ c ∈ gangMembers g, c ∈ startables s g) := by
  let bad := (gangMembers g).filterMap (refusedMember s)
  refine ⟨if bad.isEmpty then [] else [fWords "refused" bad], ?_, ?_⟩
  · obtain ⟨a, l, hl⟩ := List.exists_cons_of_ne_nil h
    have hpass : ((gangMembers g).filter fun c => (startReason s c).isNone) = a :: l := hl
    simp only [doChannelStartGang, withIndex_val, hg, ne_eq, not_true, if_false, hpass, hl, bad]
  · have hbad : bad = [] ↔ ∀ c ∈ gangMembers g, startReason s c = none := by
      simp [bad, List.filterMap_eq_nil_iff, refusedMember]
    rw [ite_eq_left_iff, List.isEmpty_iff]
    constructor
    · intro hb c hc
      refine (mem_startables s g c).mpr ⟨(mem_gangMembers g c).mp hc, (startReason_none s c).mp ?_⟩
      exact hbad.mp (by by_contra hne; exact absurd (hb hne) (by simp)) c hc
    · intro hall hb
      exact absurd (hbad.mpr fun c hc => (startReason_none s c).mpr ((mem_startables s g c).mp (hall c hc)).2) hb

end

/-- Settles O35: the refusals, and the join of the startable members as one entry. -/
theorem gangStartJoinsAsOneEntry : Obligations.GangStartJoinsAsOneEntry := by
  intro l g s pass i h hsorted hmem
  have hstart := fun c => found_startable l i s c
  have hsrc := found_source_state l i s
  have hpass : startables (found l i s) g = pass :=
    (eq_startables hsorted fun c => by rw [hmem, (hstart c).1]).symm
  refine ⟨fun hg => .of_runCommand rfl h (doChannelStartGang_source (by rwa [hsrc])), fun hg h0 => ?_, fun hg h0 => ?_⟩
  · rw [← (hstart _).2]
    exact .of_runCommand rfl h (doChannelStartGang_refused (hsrc.trans hg) (hpass.trans h0))
  · have hg' : (found l i s).source.state = .grid := hsrc.trans hg
    obtain ⟨fs, hrun, hfs⟩ := doChannelStartGang_joins hg' (by rwa [hpass])
    rw [hpass] at hrun hfs
    have hch := join_ch (nm := .gang g pass) (o := .host) (l := pass) rfl hg' (hsorted.imp fun {a b} hab => ne_of_lt hab)
    obtain ⟨v, x, w, hu, hw⟩ := join_spec (.gang g pass) .host hg' h0
    refine ⟨join (.gang g pass) .host (found l i s), _, .of_runCommand rfl h hrun, rfl, by simp [okWith], ?_,
      fun c hc => ?_, fun c hc => ?_, ?_⟩
    · simp only [okWith, List.cons.injEq, true_and, hfs, mem_gangMembers]
    · rw [hch, if_pos hc, found_ch, found_now]
    · rw [hch, if_neg hc, found_ch]
    · rw [hu]
      exact ⟨by simp [newEntry], rfl, rfl, by simp, by simp, ⟨rfl, rfl⟩, hw, rfl,
        (found_sameRest l i s).trans ⟨rfl, rfl, rfl, rfl, rfl, rfl, rfl, rfl, rfl, rfl⟩⟩

end Sys2Proof.Machine
end

section
/-! CHANNEL STOP and CHANNEL CUT (R21). -/

namespace Sys2Proof.Machine

/-! ### The channels named -/

theorem Names.withTarget {a : TargetArgs} {ms : List Ch} (h : Names a ms) (s : State)
    (k : List Ch → State × Reply) : withTarget a s k = k ms := by
  rcases h with ⟨c, rfl, rfl⟩ | ⟨g, rfl, rfl⟩
  · exact withIndex_val c s fun c => k [c]
  · exact withIndex_val g s fun g => k (gangMembers g)

theorem Names.nodup {a : TargetArgs} {ms : List Ch} (h : Names a ms) : ms.Nodup := by
  rcases h with ⟨c, -, rfl⟩ | ⟨g, -, rfl⟩
  · exact List.nodup_singleton c
  · exact gangMembers_nodup g

/-! ### One request after the other -/

section
variable {f : Ch → State → State}

/-- Requests that withdraw a PENDING channel from the queue, and touch the record of their own channel alone, leave no
PENDING channel of the list in the queue (R15, R42). -/
theorem forEach_withdraws (hch : ∀ a d s, d ≠ a → (f a s).ch d = s.ch d)
    (hq : ∀ a s, queuedChans (f a s).budget.queue =
      if (s.ch a).state = .pending then (queuedChans s.budget.queue).filter (· ≠ a) else queuedChans s.budget.queue)
    {c : Ch} (l : List Ch) (hc : c ∈ l) (s : State) (hp : (s.ch c).state = .pending) :
    c ∉ queuedChans (forEach l f s).budget.queue := by
  have hstays : ∀ a t, c ∉ queuedChans t.budget.queue → c ∉ queuedChans (f a t).budget.queue := by
    intro a t ht
    rw [hq]
    split
    · exact fun hm => ht (List.mem_of_mem_filter hm)
    · exact ht
  induction l generalizing s with
  | nil => cases hc
  | cons a l ih =>
    show c ∉ queuedChans (forEach l f (f a s)).budget.queue
    by_cases ha : c = a
    · subst ha
      refine forEach_keeps (fun t => c ∉ queuedChans t.budget.queue) f hstays l _ ?_
      rw [hq, if_pos hp]
      simp
    · exact ih ((List.mem_cons.mp hc).resolve_left ha) _ (by rwa [hch a c s ha])

/-- What requests leave alone that each leaves the fixed part, the slots and the source records alone. -/
theorem forEach_frame (hf : ∀ a s, (f a s).fixed = s.fixed) (ha : ∀ a s, aside (f a s) = aside s)
    (hs : ∀ a s, (f a s).source = s.source) (l : List Ch) (s : State) :
    (forEach l f s).source = s.source ∧ (forEach l f s).resp = s.resp ∧ (forEach l f s).shelf = s.shelf ∧
      SameRest s (forEach l f s) := by
  have hfix := fixed_forEach f hf l s
  have hside := forEach_same aside f ha l s
  exact ⟨forEach_same State.source f hs l s, congrArg Fixed.resp hfix, congrArg Prod.fst hside, .of_fixed hfix hside⟩

end

theorem gracefulStop_host_source (c : Ch) (s : State) : (gracefulStop .host c s).source = s.source := by
  have hm := markForStop_source c .host s
  rw [if_neg (by decide)] at hm
  simp only [gracefulStop]
  split <;> simp only [startWarning_source, withdraw_source, switchOff_source, hm]

theorem cut_host_source (c : Ch) (s : State) : (cut .host c s).source = s.source := by
  have hm := markForStop_source c .host s
  rw [if_neg (by decide)] at hm
  simp only [cut]
  split <;> simp only [withdraw_source, switchOff_source, hm]

/-! ### The two commands -/

theorem doChannelStop_names {a : TargetArgs} {ms : List Ch} (h : Names a ms) (s : State) :
    doChannelStop a s =
      (forEach ms (gracefulStop .host) s, okWith [statesOf (forEach ms (gracefulStop .host) s) ms]) :=
  h.withTarget s _

theorem doChannelCut_names {a : TargetArgs} {ms : List Ch} (h : Names a ms) (s : State) :
    doChannelCut a s = (forEach ms (cut .host) s, okWith [statesOf (forEach ms (cut .host) s) ms]) :=
  h.withTarget s _

/-- Settles O36: each command's requests, one by one, on the channels it names. -/
theorem stopAndCutByState : Obligations.StopAndCutByState := by
  intro l a ms s hn
  refine ⟨fun h => ?_, fun h => ?_⟩
  · let t := found l (.channelStop l a) s
    have hrec := forEach_gracefulStop_ch .host ms hn.nodup t
    obtain ⟨hsrc, hresp, hshelf, hrest⟩ :=
      forEach_frame (gracefulStop_fixed .host) (gracefulStop_aside .host) gracefulStop_host_source ms t
    refine ⟨forEach ms (gracefulStop .host) t, .of_runCommand rfl h (doChannelStop_names hn t), fun c hc => ?_,
      fun c hc => ?_, fun c hc hp => ?_, hsrc, hresp, hshelf.trans (found_shelf ..), (found_sameRest ..).trans hrest⟩
    · rw [hrec, if_neg hc, found_ch]
    · have hwarn : warningTime t c = warningTime s c := warningTime_congr c (found_cfg ..) (found_source_state ..)
      rw [hrec, if_pos hc, hwarn, found_ch, found_now]
      rfl
    · refine forEach_withdraws (fun a d s hd => ?_) (gracefulStop_queued .host) ms hc t (by rwa [found_ch])
      rw [gracefulStop_ch, if_neg hd]
  · let t := found l (.channelCut l a) s
    have hrec := forEach_cut_ch .host ms hn.nodup t
    obtain ⟨hsrc, hresp, hshelf, hrest⟩ := forEach_frame (cut_fixed .host) (cut_aside .host) cut_host_source ms t
    refine ⟨forEach ms (cut .host) t, .of_runCommand rfl h (doChannelCut_names hn t), fun c hc => ?_,
      fun c hc => ?_, fun c hc hp => ?_, hsrc, hresp, hshelf.trans (found_shelf ..), (found_sameRest ..).trans hrest⟩
    · rw [hrec, if_neg hc, found_ch]
    · rw [hrec, if_pos hc, found_ch, found_now]
      rfl
    · refine forEach_withdraws (fun a d s hd => ?_) (cut_queued .host) ms hc t (by rwa [found_ch])
      rw [cut_ch, if_neg hd]

end Sys2Proof.Machine
end

section
/-! Result fields (R174): which fields a list shows and which keywords it lacks. -/

namespace Sys2Proof.Machine

@[simp] theorem fNum_key (k : String) (n : Nat) : (fNum k n).key = k := rfl
@[simp] theorem fInt_key (k : String) (n : Int) : (fInt k n).key = k := rfl
@[simp] theorem fWord_key (k w : String) : (fWord k w).key = k := rfl
@[simp] theorem fYes_key (k : String) (b : Bool) : (fYes k b).key = k := rfl
@[simp] theorem fSet_key {n : Nat} (k : String) (l : List (Fin n)) : (fSet k l).key = k := rfl
@[simp] theorem fStamp_key (k : String) (t : Stamp) : (fStamp k t).key = k := rfl
@[simp] theorem fOrNone_key (k : String) (x : Option Nat) : (fOrNone k x).key = k := by cases x <;> rfl

/-- No field of a list has a keyword. -/
def Lacks (k : String) (fs : List Field) : Prop := ∀ f ∈ fs, f.key ≠ k

section
variable {k : String} {f : Field} {fs gs : List Field} {x : Option Nat}

@[simp] theorem lacks_nil : Lacks k [] := by simp [Lacks]
@[simp] theorem lacks_cons : Lacks k (f :: fs) ↔ f.key ≠ k ∧ Lacks k fs := by simp [Lacks]
@[simp] theorem lacks_append : Lacks k (fs ++ gs) ↔ Lacks k fs ∧ Lacks k gs := by
  simp only [Lacks, List.mem_append]
  exact ⟨fun h => ⟨fun f hf => h f (.inl hf), fun f hf => h f (.inr hf)⟩, fun h f hf => hf.elim (h.1 f) (h.2 f)⟩

@[simp] theorem lacks_fOpt {j : String} (h : j ≠ k) : Lacks k (fOpt j x) := by
  cases x <;> simp [fOpt, h]

@[simp] theorem lacks_fLeft {j : String} (h : j ≠ k) (s : State) (t : Option Timer) : Lacks k (fLeft j s t) :=
  lacks_fOpt h

theorem Lacks.not_mem (h : Lacks k fs) (hf : f.key = k) : f ∉ fs := fun hm => h f hm hf

@[simp] theorem shows_fOpt : Shows k x (fOpt k x) := by cases x <;> simp [Shows, fOpt]

@[simp] theorem shows_fLeft (s : State) (t : Option Timer) : Shows k (t.map s.left) (fLeft k s t) := shows_fOpt

/-- Fields of other keywords in front change nothing of what a list shows. -/
@[simp] theorem shows_append_right (h : Lacks k fs) : Shows k x (fs ++ gs) ↔ Shows k x gs := by
  have hn : ∀ n, fNum k n ∈ fs ++ gs ↔ fNum k n ∈ gs := fun n => by
    simp [h.not_mem (fNum_key k n)]
  have hl : Lacks k (fs ++ gs) ↔ Lacks k gs := by simp [h]
  simp only [Shows, hn]
  exact and_congr_right fun _ => imp_congr_right fun _ => hl

/-- Nor do fields of other keywords behind. -/
@[simp] theorem shows_append_left (h : Lacks k gs) : Shows k x (fs ++ gs) ↔ Shows k x fs := by
  have hn : ∀ n, fNum k n ∈ fs ++ gs ↔ fNum k n ∈ fs := fun n => by
    simp [h.not_mem (fNum_key k n)]
  have hl : Lacks k (fs ++ gs) ↔ Lacks k fs := by simp [h]
  simp only [Shows, hn]
  exact and_congr_right fun _ => imp_congr_right fun _ => hl

@[simp] theorem shows_cons (h : Lacks k [f]) : Shows k x (f :: fs) ↔ Shows k x fs := shows_append_right h

end

end Sys2Proof.Machine
end

section
/-! The reads of channels, budget, admission queue and plan (R24, R48, R49, R72, R73). -/

namespace Sys2Proof.Machine

/-! ### The fields that each read returns -/

/-- The fields of CHANNEL READ. -/
def channelFields (s : State) (c : Ch) : List Field := (doChannelRead (some (c.val : Int)) s).2.fields

/-- The fields of BUDGET READ. -/
def budgetFields (s : State) (x : Option BudgetSel) : List Field := (doBudgetRead x s).2.fields

/-- The fields of ADMISSION READ without a position. -/
def queueFields (s : State) : List Field := (doAdmissionRead none s).2.fields

/-- The fields of PLAN READ step=. -/
def stepReadFields (s : State) (n : StepIx) : List Field :=
  stepFields s.cfg.steps[n] ++ if isProtected s n then [fYes "prot" true] else []

/-- The fields of PLAN READ without a step. -/
def planFields (s : State) : List Field := (doPlanRead none s).2.fields

/-- The fields of PLAN STATUS. -/
def statusFields (s : State) : List Field := (doPlanStatus s).2.fields

section
variable (l : LineId) (i : Instr) (s : State)

/-- A read returns the fields of the state before its line: what it reads is what a line that is found leaves alone. -/
theorem doChannelRead_found (c : Ch) :
    doChannelRead (some (c.val : Int)) (found l i s) = (found l i s, okWith (channelFields s c)) := by
  obtain ⟨x, r, k, h⟩ := found_spec l i s
  rw [h, channelFields, doChannelRead, doChannelRead, withIndex_val, withIndex_val]
  rfl

theorem doBudgetRead_found (x : Option BudgetSel) :
    doBudgetRead x (found l i s) = (found l i s, okWith (budgetFields s x)) := by
  obtain ⟨y, r, k, h⟩ := found_spec l i s
  rw [h, budgetFields]
  rcases x with _ | _ | _ | _ <;> rfl

theorem doAdmissionRead_found : doAdmissionRead none (found l i s) = (found l i s, okWith (queueFields s)) := by
  obtain ⟨x, r, k, h⟩ := found_spec l i s
  rw [h]
  rfl

theorem doAdmissionRead_found_at {n : Nat} {e : Entry} (hn : n < 24) (he : s.budget.queue[n]? = some e) :
    doAdmissionRead (some (n : Int)) (found l i s) =
      (found l i s, okWith (fNum "n" s.budget.queue.length :: entryFields s e)) := by
  obtain ⟨x, r, k, h⟩ := found_spec l i s
  rw [h]
  have hi : index? 24 (n : Int) = some ⟨n, hn⟩ := index?_val (⟨n, hn⟩ : Fin 24)
  simp only [doAdmissionRead, hi, he]
  rfl

theorem doPlanRead_found_at (n : StepIx) :
    doPlanRead (some (n.val : Int)) (found l i s) = (found l i s, okWith (stepReadFields s n)) := by
  obtain ⟨x, r, k, h⟩ := found_spec l i s
  rw [h]
  simp only [doPlanRead, index?_val]
  rfl

theorem doPlanRead_found : doPlanRead none (found l i s) = (found l i s, okWith (planFields s)) := by
  obtain ⟨x, r, k, h⟩ := found_spec l i s
  rw [h]
  rfl

theorem doPlanStatus_found : doPlanStatus (found l i s) = (found l i s, okWith (statusFields s)) := by
  obtain ⟨x, r, k, h⟩ := found_spec l i s
  rw [h, statusFields]
  cases hr : s.run <;> simp only [doPlanStatus, hr] <;> rfl

end

/-- A position that names nothing: out of range, or at or above the queue's length (R49). -/
theorem doAdmissionRead_range {x : Int} {s : State} (h : x < 0 ∨ 24 ≤ x ∨ (s.budget.queue.length : Int) ≤ x) :
    doAdmissionRead (some x) s = (s, errReply .range) := by
  by_cases hx : x < 0 ∨ 24 ≤ x
  · simp only [doAdmissionRead, index?_none (n := 24) hx, refuse]
  · obtain ⟨n, rfl⟩ := Int.eq_ofNat_of_zero_le (show 0 ≤ x by omega)
    have hi : index? 24 (n : Int) = some ⟨n, by omega⟩ := index?_val (⟨n, by omega⟩ : Fin 24)
    have hq : s.budget.queue[n]? = none := List.getElem?_eq_none (by omega)
    simp only [doAdmissionRead, hi, hq, refuse]

theorem doPlanRead_range {x : Int} (h : x < 0 ∨ 48 ≤ x) (s : State) :
    doPlanRead (some x) s = (s, errReply .range) := by
  simp only [doPlanRead, index?_none (n := 48) h, refuse]

/-! ### What the fields show -/

theorem channelFields_eq (s : State) (c : Ch) :
    channelFields s c =
      fWord "state" (s.ch c).state.word :: (chanCfgFields (s.chCfg c) ++ fOpt "adm" (s.ch c).admitted ++
        [fNum "draw" (s.ch c).draw, fNum "fig" (budgetFigure s c), fYes "pg" (s.ch c).powerGood,
          fYes "tf" (s.ch c).trayFault, fYes "shed" (s.ch c).shed, fSet "hold" (s.ch c).holds,
          fYes "ovr" (s.ch c).override, fWord "fault" (s.ch c).fault.word, fStamp "since" (s.ch c).since] ++
        fLeft "tl" s ((s.ch c).ramp <|> (s.ch c).warn) ++ fLeft "sc" s (s.ch c).confirm) := by
  rw [channelFields, doChannelRead, withIndex_val]
  rfl

/-- The keywords of an admission queue entry. -/
theorem entryFields_lacks {k : String}
    (h : k ∉ ["kind", "ch", "gang", "mem", "split", "org", "join", "wait", "lrep", "waited"]) (s : State) (e : Entry) :
    Lacks k (entryFields s e) := by
  simp only [List.mem_cons, not_or] at h
  obtain ⟨h1, h2, h3, h4, h5, h6, h7, h8, h9, h10, -⟩ := h
  have hsplit : Lacks k (fOpt "split" (e.splitFrom.map Fin.val)) := lacks_fOpt (Ne.symm h5)
  cases hn : e.name <;> simp [entryFields, hn, hsplit, Ne.symm h1, Ne.symm h2, Ne.symm h3, Ne.symm h4, Ne.symm h6,
    Ne.symm h7, Ne.symm h8, Ne.symm h9, Ne.symm h10]

/-- An entry is shown by its fields among fields of other keywords (R49). -/
theorem entryFields_shown (s : State) (e : Entry) {pre post : List Field} (h1 : Lacks "split" pre)
    (h2 : Lacks "split" post) : EntryShown s e (pre ++ entryFields s e ++ post) := by
  refine ⟨fun c hc => ?_, fun g ms hg => ?_, ?_, ?_⟩
  · simp [entryFields, hc]
  · simp [entryFields, hg]
  · cases hn : e.name <;> simp [entryFields, hn, h1, h2]
  · simp [entryFields, State.waited, State.age]

/-- An entry's fields begin behind the queue's length. -/
theorem queueFields_cons {s : State} {e : Entry} {q : List Entry} (h : s.budget.queue = e :: q) :
    queueFields s =
      [fNum "n" s.budget.queue.length] ++ entryFields s e ++ (spacingLeft s ++ fLeft "lt" s s.budget.late) := by
  simp [queueFields, doAdmissionRead, okWith, h]

theorem queueFields_nil {s : State} (h : s.budget.queue = []) :
    queueFields s = fNum "n" s.budget.queue.length :: (spacingLeft s ++ fLeft "lt" s s.budget.late) := by
  simp [queueFields, doAdmissionRead, okWith, h]

theorem spacingLeft_shown (s : State) :
    Shows "sp" (s.budget.spacing.map fun x => s.left x.2) (spacingLeft s) := by
  have h : (s.budget.spacing.map fun x => s.left x.2) = (s.budget.spacing.map Prod.snd).map s.left := by
    rw [Option.map_map]; rfl
  rw [h]
  exact shows_fLeft s _

theorem spacingLeft_lacks {k : String} (h : "sp" ≠ k) (s : State) : Lacks k (spacingLeft s) := lacks_fLeft h s _

/-- The two timers of the queue, with an entry or without (R49). -/
theorem queueFields_timers (s : State) :
    Shows "sp" (s.budget.spacing.map fun x => s.left x.2) (queueFields s) ∧
      Shows "lt" (s.budget.late.map s.left) (queueFields s) := by
  have hsp := spacingLeft_shown s
  cases hq : s.budget.queue with
  | nil =>
    rw [queueFields_nil hq]
    exact ⟨by simp [hsp], by simp [spacingLeft_lacks]⟩
  | cons e q =>
    have h1 : Lacks "sp" (entryFields s e) := entryFields_lacks (by decide) s e
    have h2 : Lacks "lt" (entryFields s e) := entryFields_lacks (by decide) s e
    rw [queueFields_cons hq]
    exact ⟨by simp [hsp, h1], by simp [h2, spacingLeft_lacks]⟩

/-- An empty queue shows its length and its timers alone (R49). -/
theorem queueFields_empty {s : State} (h : s.budget.queue = []) : ∀ f ∈ queueFields s, f.key ∈ ["n", "sp", "lt"] := by
  have hkey : ∀ (k : String) (x : Option Nat), ∀ f ∈ fOpt k x, f.key = k := by
    intro k x f hf
    cases x <;> simp [fOpt] at hf
    rw [hf, fNum_key]
  intro f hf
  rw [queueFields_nil h, List.mem_cons, List.mem_append] at hf
  rcases hf with rfl | hf | hf
  · simp
  · simp [hkey _ _ f hf]
  · simp [hkey _ _ f hf]

/-! ### Steps -/

/-- A step's fields show of other keywords what its target shows (R72). -/
theorem stepReadFields_shows {k : String} {x : Option Nat} {s : State} {n : StepIx} (h1 : "act" ≠ k) (h2 : "gap" ≠ k)
    (h3 : "end" ≠ k) (h4 : "prot" ≠ k) :
    Shows k x (stepReadFields s n) ↔ Shows k x (targetFields s.cfg.steps[n].target) := by
  have hprot : Lacks k (if isProtected s n then [fYes "prot" true] else []) := by split <;> simp [h4]
  simp [stepReadFields, stepFields, hprot, h1, h2, h3]

/-- A step is marked protected where it is a protected step of the active run (R72). -/
theorem stepReadFields_protected (s : State) (n : StepIx) :
    fYes "prot" true ∈ stepReadFields s n ↔ isProtected s n = true := by
  have htarget : ∀ t, Lacks "prot" (targetFields t) := by
    rintro (_ | _ | _) <;> simp [targetFields]
  have hstep : Lacks "prot" (stepFields s.cfg.steps[n]) := by simp [stepFields, htarget]
  rw [stepReadFields, List.mem_append, or_iff_right (hstep.not_mem (fYes_key _ _))]
  split <;> simp_all

/-- Settles O31: read by read, the fields and the refusals. -/
theorem channelBudgetAndPlanReads : Obligations.ChannelBudgetAndPlanReads := by
  refine ⟨fun l c s h => ⟨channelFields s c, .of_runCommand rfl h (doChannelRead_found l _ s c), ?_⟩,
    fun l x s hx h => .of_runCommand rfl h (withIndex_none hx _ _),
    fun l x s h => ⟨budgetFields s x, .of_runCommand rfl h (doBudgetRead_found l _ s x), ?_⟩,
    fun l s h => ⟨queueFields s, .of_runCommand rfl h (doAdmissionRead_found l _ s), ?_⟩,
    fun l n e s h he hn => ⟨_, .of_runCommand rfl h (doAdmissionRead_found_at l _ s hn he), by simp, ?_⟩,
    fun l x s h hx => .of_runCommand rfl h (doAdmissionRead_range (by rwa [found_budget])),
    fun l n s h => ⟨stepReadFields s n, .of_runCommand rfl h (doPlanRead_found_at l _ s n), ?_⟩,
    fun l x s hx h => .of_runCommand rfl h (doPlanRead_range hx _),
    fun l s h => ⟨planFields s, .of_runCommand rfl h (doPlanRead_found l _ s), ?_⟩,
    fun l s h => ⟨statusFields s, .of_runCommand rfl h (doPlanStatus_found l _ s), ?_⟩⟩
  · rw [channelFields_eq]
    refine ⟨?_, ?_, ?_, ?_, ?_, ?_, ?_, ?_, ?_, ?_, ?_, ?_, ?_, ?_, ?_, ?_, fun hw => ?_, fun hr => ?_, ?_, ?figure⟩
    case figure => cases hs : (s.ch c).state <;> simp [budgetFigure, hs]
    all_goals simp [chanCfgFields, *]
  · rcases x with _ | _ | _ | _
    · rfl
    · rfl
    · simp [budgetFields, doBudgetRead, okWith]
    · rfl
  · refine ⟨?_, fun e q hq => ?_, queueFields_empty, (queueFields_timers s).1, (queueFields_timers s).2⟩
    · cases hq : s.budget.queue with
      | nil => simp [queueFields_nil hq, hq]
      | cons e q => simp [queueFields_cons hq, hq]
    · rw [queueFields_cons hq]
      exact entryFields_shown s e (by simp) (by simp [spacingLeft_lacks])
  · have hshown := entryFields_shown s e (pre := [fNum "n" s.budget.queue.length]) (post := []) (by simp) (by simp)
    rwa [List.append_nil] at hshown
  · refine ⟨by simp [stepReadFields, stepFields], by simp [stepReadFields, stepFields],
      by simp [stepReadFields, stepFields], ?_, ?_, stepReadFields_protected s n⟩
    · rw [stepReadFields_shows (by decide) (by decide) (by decide) (by decide)]
      rcases s.cfg.steps[n].target with _ | _ | _ <;> simp [targetFields, Shows]
    · rw [stepReadFields_shows (by decide) (by decide) (by decide) (by decide)]
      rcases s.cfg.steps[n].target with _ | _ | _ <;> simp [targetFields, Shows]
  · cases hr : s.run with
    | none => simp [planFields, doPlanRead, hr, okWith]
    | some r => cases ha : r.active <;> simp [planFields, doPlanRead, hr, okWith, runActive, ha]
  · cases hr : s.run with
    | none => simp [statusFields, doPlanStatus, hr, okWith]
    | some r =>
      refine ⟨?_, ?_, ?_, ?_, ?_, ?_, ?_, ?_, fun c hc => ?_, fun t ht => ?_, fun hg hp hph => ?_, ?_⟩
      all_goals simp [statusFields, doPlanStatus, gapFields, okWith, *]

end Sys2Proof.Machine
end

section
/-! What the law of the admission queue (R35) sees of a state, and the operations that leave it alone. -/

namespace Sys2Proof.Machine

/-! ### The view of R35 -/

/-- What R35 speaks of: which channels are PENDING, and the channels of each entry of the admission queue. -/
def queueView (s : State) : (Ch → Prop) × List (List Ch) :=
  (fun c => (s.ch c).state = .pending, s.budget.queue.map Entry.chans)

/-- R35 with some channels set aside: these may be PENDING and not queued, as they are while they join, are admitted or
are withdrawn. -/
def QueueLawBut (l : List Ch) (s : State) : Prop :=
  (∀ c, c ∈ queuedChans s.budget.queue → (s.ch c).state = .pending) ∧
    (∀ c, (s.ch c).state = .pending → c ∈ queuedChans s.budget.queue ∨ c ∈ l) ∧
    (queuedChans s.budget.queue).Nodup ∧ ∀ e ∈ s.budget.queue, e.chans ≠ []

theorem queueLaw_iff (s : State) : QueueLaw s ↔ QueueLawBut [] s := by
  simp only [QueueLaw, QueueLawBut, List.not_mem_nil, or_false]
  exact ⟨fun ⟨hp, hn, he⟩ => ⟨fun c => (hp c).mpr, fun c => (hp c).mp, hn, he⟩,
    fun ⟨hq, hp, hn, he⟩ => ⟨fun c => ⟨hp c, hq c⟩, hn, he⟩⟩

section
variable {s t : State} {l : List Ch}

theorem QueueLaw.but (h : QueueLaw s) (l : List Ch) : QueueLawBut l s :=
  have ⟨hq, hp, hrest⟩ := (queueLaw_iff s).mp h
  ⟨hq, fun c hc => .inl ((hp c hc).resolve_right (List.not_mem_nil)), hrest⟩

theorem queuedChans_eq (q : List Entry) : queuedChans q = (q.map Entry.chans).flatten := rfl

/-- States with one view keep the law alike. -/
theorem QueueLawBut.of_view (hv : queueView t = queueView s) (h : QueueLawBut l s) : QueueLawBut l t := by
  have hpend : ∀ c, ((t.ch c).state = .pending) = ((s.ch c).state = .pending) := congrFun (congrArg Prod.fst hv)
  have hlists : t.budget.queue.map Entry.chans = s.budget.queue.map Entry.chans := congrArg Prod.snd hv
  have hqueue : queuedChans t.budget.queue = queuedChans s.budget.queue := by simp only [queuedChans_eq, hlists]
  obtain ⟨hq, hp, hn, he⟩ := h
  simp only [QueueLawBut, hpend, hqueue]
  refine ⟨hq, hp, hn, fun e hte hnil => ?_⟩
  obtain ⟨e', hse, heq⟩ := List.mem_map.mp (hlists ▸ List.mem_map_of_mem hte : e.chans ∈ s.budget.queue.map Entry.chans)
  exact he e' hse (heq.trans hnil)

theorem QueueLaw.of_view (hv : queueView t = queueView s) (h : QueueLaw s) : QueueLaw t :=
  (queueLaw_iff t).mpr (((queueLaw_iff s).mp h).of_view hv)

theorem queueView_congr (hc : t.chans = s.chans) (hq : t.budget.queue = s.budget.queue) : queueView t = queueView s := by
  simp only [queueView, State.ch, hc, hq]

end

/-! ### Updates -/

section
variable (s : State)

@[simp] theorem queueView_modShelf (f : Shelf → Shelf) : queueView (s.modShelf f) = queueView s := rfl
@[simp] theorem queueView_modSource (f : Source → Source) : queueView (s.modSource f) = queueView s := rfl
@[simp] theorem queueView_modResp (f : Response → Response) : queueView (s.modResp f) = queueView s := rfl
@[simp] theorem queueView_modLink (f : Link → Link) : queueView (s.modLink f) = queueView s := rfl
@[simp] theorem queueView_modTally (f : Tally → Tally) : queueView (s.modTally f) = queueView s := rfl
@[simp] theorem queueView_modWork (f : Work → Work) : queueView (s.modWork f) = queueView s := rfl
@[simp] theorem queueView_modCfg (f : WorkCfg → WorkCfg) : queueView (s.modCfg f) = queueView s := rfl
@[simp] theorem queueView_modRun (f : Run → Run) : queueView (s.modRun f) = queueView s := rfl
@[simp] theorem queueView_setRun (r : Option Run) : queueView (s.setRun r) = queueView s := rfl
@[simp] theorem queueView_setStore (x : Store) : queueView (s.setStore x) = queueView s := rfl
@[simp] theorem queueView_setScan (t : Option Timer) : queueView (s.setScan t) = queueView s := rfl
@[simp] theorem queueView_modZone (z : Zone) (f : ZoneRec → ZoneRec) : queueView (s.modZone z f) = queueView s := rfl
@[simp] theorem queueView_modRect (n : RmSlot) (f : Rect → Rect) : queueView (s.modRect n f) = queueView s := rfl
@[simp] theorem queueView_modBatt (n : BmSlot) (f : Batt → Batt) : queueView (s.modBatt n f) = queueView s := rfl
@[simp] theorem queueView_modValve (v : ValveIx) (f : Valve → Valve) : queueView (s.modValve v f) = queueView s := rfl
@[simp] theorem queueView_modPort (p : Port) (f : PortCtx → PortCtx) : queueView (s.modPort p f) = queueView s := rfl
@[simp] theorem queueView_orders (n : Nat) : queueView { s with orders := n } = queueView s := rfl
@[simp] theorem queueView_pending (l : List Instr) : queueView { s with pending := l } = queueView s := rfl
@[simp] theorem queueView_markEval : queueView (markEval s) = queueView s := rfl
@[simp] theorem queueView_markExam : queueView (markExam s) = queueView s := rfl
@[simp] theorem queueView_markRide : queueView (markRide s) = queueView s := rfl
@[simp] theorem queueView_markRestore : queueView (markRestore s) = queueView s := rfl
@[simp] theorem queueView_markPlan (p : PlanWork) : queueView (markPlan p s) = queueView s := rfl
@[simp] theorem queueView_count (e : TallyEvent) : queueView (count e s) = queueView s := rfl
@[simp] theorem queueView_raise (k : ReportKind) (a b c : Option Nat) : queueView (raise k a b c s) = queueView s :=
  queueView_congr (raise_chans ..) (by rw [raise_budget])

theorem queueView_modBudget (f : Budget → Budget)
    (h : (f s.budget).queue.map Entry.chans = s.budget.queue.map Entry.chans) :
    queueView (s.modBudget f) = queueView s := by
  simp only [queueView, State.modBudget_budget, modBudget_ch, h]

/-- A change of a channel's record that does not touch whether it is PENDING. -/
theorem queueView_modCh (c : Ch) (f : Channel → Channel)
    (h : (f (s.ch c)).state = .pending ↔ (s.ch c).state = .pending) : queueView (s.modCh c f) = queueView s := by
  have hp : ∀ d, (((s.modCh c f).ch d).state = .pending) = ((s.ch d).state = .pending) := fun d => by
    rw [State.modCh_ch]
    split
    · next hd => rw [hd, propext h]
    · rfl
  simp only [queueView, hp, State.modCh_budget]

/-- Whichever way a test goes. -/
theorem queueView_ite (p : Prop) [Decidable p] (t u : State) (ht : queueView t = queueView s)
    (hu : queueView u = queueView s) : queueView (if p then t else u) = queueView s := by
  split
  · exact ht
  · exact hu

end

/-! ### The head's late timer and the run's notices -/

@[simp] theorem lateCheck_view (s : State) : queueView (lateCheck s) = queueView s := by
  simp only [lateCheck]
  split
  · rfl
  · next e q hq =>
    split
    · rfl
    · rw [queueView_modBudget, queueView_raise]
      rw [raise_budget, hq]
      rfl

@[simp] theorem watchHead_view (s : State) : queueView (watchHead s) = queueView s := by
  simp only [watchHead]
  split
  · exact queueView_modBudget _ _ rfl
  · split
    · exact queueView_modBudget _ _ rfl
    · rw [lateCheck_view]
      exact queueView_modBudget _ _ rfl

@[simp] theorem headGone_view (s : State) : queueView (headGone s) = queueView s := by
  simp only [headGone]
  split
  · exact queueView_modBudget _ _ rfl
  · exact watchHead_view s

@[simp] theorem noticeAdmitted_budget (c : Ch) (s : State) : (noticeAdmitted c s).budget = s.budget := by
  simp only [noticeAdmitted]
  split
  · split
    · rw [memberLeft_budget]; rfl
    · rfl
  · rfl

@[simp] theorem noticeAdmitted_view (c : Ch) (s : State) : queueView (noticeAdmitted c s) = queueView s :=
  queueView_congr (noticeAdmitted_chans c s) (by rw [noticeAdmitted_budget])

@[simp] theorem noticeWithdrawn_view (c : Ch) (w : Withdrawal) (s : State) :
    queueView (noticeWithdrawn c w s) = queueView s :=
  queueView_congr (noticeWithdrawn_chans c w s) (by rw [noticeWithdrawn_budget])

@[simp] theorem skipMember_view (c : Ch) (n : Nat) (s : State) : queueView (skipMember c n s) = queueView s :=
  queueView_congr (skipMember_chans c n s) (by rw [skipMember_budget])

/-! ### Channel states -/

/-- A channel that is not PENDING enters a state other than PENDING. -/
theorem enterState_view {c : Ch} {st : ChState} {s : State} (h : (s.ch c).state ≠ .pending) (hst : st ≠ .pending) :
    queueView (enterState c st s) = queueView s := by
  have hp : ∀ d, (((enterState c st s).ch d).state = .pending) = ((s.ch d).state = .pending) := fun d => by
    rw [enterState_ch]
    split
    · next hd => exact hd ▸ propext ⟨fun e => absurd e hst, fun e => absurd (hd ▸ e) h⟩
    · rfl
  simp only [queueView, hp, enterState_queue]

@[simp] theorem clearShed_view (c : Ch) (s : State) : queueView (clearShed c s) = queueView s := by
  rw [clearShed, queueView_modSource]
  exact queueView_modCh _ _ _ Iff.rfl

@[simp] theorem releaseEnable_view (c : Ch) (s : State) : queueView (releaseEnable c s) = queueView s :=
  queueView_modCh _ _ _ Iff.rfl

@[simp] theorem reportFault_view (c : Ch) (s : State) : queueView (reportFault c s) = queueView s := by
  rw [reportFault, queueView_raise, queueView_count]

theorem switchOff_view {c : Ch} {s : State} (h : (s.ch c).state ≠ .pending) :
    queueView (switchOff c s) = queueView s := by
  rw [switchOff, enterState_view (by simpa [releaseEnable_ch] using h) (by decide), releaseEnable_view]

theorem faultChannel_view {c : Ch} {k : FaultKind} {s : State} (h : (s.ch c).state ≠ .pending) :
    queueView (faultChannel c k s) = queueView s := by
  have hst : (((clearShed c (releaseEnable c s)).modCh c fun r => { r with fault := k }).ch c).state ≠ .pending := by
    simpa [clearShed_ch, releaseEnable_ch] using h
  simp only [faultChannel]
  rw [reportFault_view, enterState_view hst (by decide), queueView_modCh _ _ _ Iff.rfl, clearShed_view,
    releaseEnable_view]

@[simp] theorem takePowerGoodRise_view (c : Ch) (s : State) : queueView (takePowerGoodRise c s) = queueView s := by
  simp only [takePowerGoodRise]
  split
  · next h =>
    rw [enterState_view (by simp [h]) (by decide)]
    exact queueView_modCh _ _ _ Iff.rfl
  all_goals exact queueView_modCh _ _ _ Iff.rfl

@[simp] theorem takePowerGoodFall_view (c : Ch) (s : State) : queueView (takePowerGoodFall c s) = queueView s := by
  have h' : queueView (s.modCh c fun r => { r with powerGood := false }) = queueView s := queueView_modCh _ _ _ Iff.rfl
  simp only [takePowerGoodFall]
  split
  · next h => rw [faultChannel_view (by simp [h]), h']
  · exact h'
  · exact h'
  all_goals rw [queueView_modCh _ _ _ Iff.rfl, h']

@[simp] theorem takeTrayFault_view (c : Ch) (s : State) : queueView (takeTrayFault c s) = queueView s := by
  have h' : queueView (s.modCh c fun r => { r with trayFault := true }) = queueView s := queueView_modCh _ _ _ Iff.rfl
  simp only [takeTrayFault]
  split
  case h_4 | h_5 | h_6 => exact h'
  all_goals next h => rw [faultChannel_view (by simp [h]), h']

@[simp] theorem takeRampExpiry_view (c : Ch) (s : State) : queueView (takeRampExpiry c s) = queueView s := by
  simp only [takeRampExpiry]
  split
  · next h => exact faultChannel_view (by simp [h.2])
  · rfl

@[simp] theorem takeWarningExpiry_view (c : Ch) (s : State) : queueView (takeWarningExpiry c s) = queueView s := by
  simp only [takeWarningExpiry]
  split
  · next h => exact switchOff_view (by simp [h.2])
  · rfl

theorem startWarning_view {c : Ch} {s : State} (h : (s.ch c).state ≠ .pending) :
    queueView (startWarning c s) = queueView s := by
  have hw : queueView (enterState c .warning (s.modCh c fun r => { r with warn := some (s.timer (warningTime s c)) })) =
      queueView s := by
    rw [enterState_view (by simpa using h) (by decide)]
    exact queueView_modCh _ _ _ Iff.rfl
  simp only [startWarning]
  exact queueView_ite _ _ _ _ ((takeWarningExpiry_view _ _).trans hw) hw

theorem markStuck_view {c : Ch} {s : State} (h : (s.ch c).state ≠ .pending) : queueView (markStuck c s) = queueView s := by
  rw [markStuck, reportFault_view, enterState_view (by simpa [clearShed_ch] using h) (by decide),
    queueView_modCh _ _ _ Iff.rfl, clearShed_view]

@[simp] theorem markForStop_view (c : Ch) (w : StopCause) (s : State) : queueView (markForStop c w s) = queueView s := by
  cases w with
  | host | plan | source => rfl
  | leak => exact clearShed_view c s
  | ladder | deficit => exact queueView_ite _ _ _ _ (queueView_modCh _ _ _ Iff.rfl) rfl

/-! ### The Budget Unit -/

@[simp] theorem deficitTest_view (s : State) : queueView (deficitTest s) = queueView s := by
  simp only [deficitTest]
  split
  · split
    · rfl
    · rw [queueView_modWork, queueView_modBudget _ _ rfl]
  · rw [queueView_modWork, queueView_modBudget _ _ rfl]

@[simp] theorem distribute_view (s : State) : queueView (distribute s) = queueView s := by
  have h : ∀ (l : List BmSlot) (x : State × Nat), queueView (l.foldl (fun x n => giveCharge n x) x).1 = queueView x.1 := by
    intro l
    induction l with
    | nil => intro x; rfl
    | cons n l ih => intro x; rw [List.foldl_cons, ih]; rfl
  exact h _ _

@[simp] theorem evaluate_view (s : State) : queueView (evaluate s) = queueView s := by
  simp only [evaluate]
  rw [queueView_modWork, distribute_view, deficitTest_view]
  exact queueView_modBudget _ _ rfl

@[simp] theorem restartGrace_view (s : State) : queueView (restartGrace s) = queueView s := queueView_modBudget _ _ rfl

@[simp] theorem reportDeficit_view (s : State) : queueView (reportDeficit s) = queueView s := by
  simp only [reportDeficit]
  refine queueView_ite _ _ _ _ rfl ?_
  rw [queueView_modBudget _ _ rfl, queueView_raise]

@[simp] theorem headWaits_view (e : Entry) (s : State) : queueView (headWaits e s) = queueView s := by
  refine queueView_ite _ _ _ _ rfl ?_
  rw [queueView_count]
  refine queueView_modBudget _ _ ?_
  cases s.budget.queue <;> rfl

@[simp] theorem takeSpacingExpiry_view (s : State) : queueView (takeSpacingExpiry s) = queueView s :=
  queueView_ite _ _ _ _ ((queueView_markExam _).trans (queueView_modBudget _ _ rfl)) rfl

@[simp] theorem takeLateExpiry_view (s : State) : queueView (takeLateExpiry s) = queueView s :=
  queueView_ite _ _ _ _ ((lateCheck_view _).trans (queueView_modBudget _ _ rfl)) rfl

/-! ### The Sequence Engine -/

@[simp] theorem endRun_view (st : RunState) (n : Nat) (s : State) : queueView (endRun st n s) = queueView s := by
  simp only [endRun]
  split <;> simp

@[simp] theorem completeStep_view (s : State) : queueView (completeStep s) = queueView s := by
  simp only [completeStep]
  split
  · rfl
  · split
    · simp
    · split <;> simp

@[simp] theorem takeGapExpiry_view (s : State) : queueView (takeGapExpiry s) = queueView s := by
  simp only [takeGapExpiry]
  split
  · split <;> simp
  · rfl

@[simp] theorem startRun_view (k : RunKind) (e : StepIx) (o : RunBy) (s : State) :
    queueView (startRun k e o s) = queueView s := rfl

@[simp] theorem skipFailing_view (s : State) (c : Ch) (t : State) : queueView (skipFailing s c t) = queueView t := by
  simp only [skipFailing]
  split <;> simp

@[simp] theorem resumeRun_view (s : State) : queueView (resumeRun s) = queueView s := by
  simp only [resumeRun]
  split
  · split
    · simp
    · split <;> simp
  · rfl

@[simp] theorem planEnteredGrid_view (s : State) : queueView (planEnteredGrid s) = queueView s := by
  simp only [planEnteredGrid]
  split
  · split <;> split <;> simp
  · rfl

@[simp] theorem requestUpRun_view (s : State) : queueView (requestUpRun s) = queueView s := by
  simp only [requestUpRun]
  split
  · rfl
  · split <;> simp

/-! ### The Source Controller -/

@[simp] theorem chargeFirstTest_view (s : State) : queueView (chargeFirstTest s) = queueView s := by
  simp only [chargeFirstTest]
  split <;> simp

@[simp] theorem setPolicy_view (p : RestorePolicy) (s : State) : queueView (setPolicy p s) = queueView s := by
  simp only [setPolicy]
  split <;> simp

@[simp] theorem endSilence_view (s : State) : queueView (endSilence s) = queueView s := by
  simp only [endSilence, queueView_modSource]
  split <;> simp

@[simp] theorem takeSilenceExpiry_view (s : State) : queueView (takeSilenceExpiry s) = queueView s := by
  simp only [takeSilenceExpiry]
  split
  · split
    · simp
    · split <;> simp
  · rfl

@[simp] theorem enterSource_view (st : SrcState) (o : Option ReturnFrom) (s : State) :
    queueView (enterSource st o s) = queueView s := rfl

@[simp] theorem raiseRideEnd_view (l n : Nat) (s : State) : queueView (raiseRideEnd l n s) = queueView s :=
  queueView_raise ..

@[simp] theorem beginRide_view (l : SrcState) (s : State) : queueView (beginRide l s) = queueView s := by
  simp [beginRide]

@[simp] theorem enterGrid_view (s : State) : queueView (enterGrid s) = queueView s := by
  simp [enterGrid]

@[simp] theorem enterHandback_view (s : State) : queueView (enterHandback s) = queueView s := by
  simp only [enterHandback]
  split <;> simp

@[simp] theorem enterQualify_view (o : ReturnFrom) (s : State) : queueView (enterQualify o s) = queueView s := by
  simp only [enterQualify]
  split <;> simp

@[simp] theorem testReturn_view (s : State) : queueView (testReturn s) = queueView s := by
  simp only [testReturn]
  split
  · split <;> simp
  · rfl

@[simp] theorem takeQualifyExpiry_view (s : State) : queueView (takeQualifyExpiry s) = queueView s := by
  simp only [takeQualifyExpiry]
  split <;> simp

@[simp] theorem takeWalkInExpiry_view (s : State) : queueView (takeWalkInExpiry s) = queueView s := by
  simp only [takeWalkInExpiry]
  split <;> simp

@[simp] theorem testAllOff_view (s : State) : queueView (testAllOff s) = queueView s := by
  simp only [testAllOff]
  split <;> simp

@[simp] theorem sourceTests_view (s : State) : queueView (sourceTests s) = queueView s := by
  simp [sourceTests]

@[simp] theorem useOrder_view (s : State) : queueView (useOrder s) = queueView s := by
  simp only [useOrder]
  split <;> simp

/-! ### Shelf, zones, valves and ports -/

@[simp] theorem setRectState_view (n : RmSlot) (st : RectState) (s : State) :
    queueView (setRectState n st s) = queueView s := by
  simp only [setRectState]
  split <;> simp

@[simp] theorem setBattState_view (n : BmSlot) (st : BattState) (s : State) :
    queueView (setBattState n st s) = queueView s := by
  simp only [setBattState]
  split <;> simp

@[simp] theorem handBatt_view (s : State) : queueView (handBatt s) = queueView s := by
  simp only [handBatt]
  split <;> simp

@[simp] theorem beginRound_view (s : State) : queueView (beginRound s) = queueView s := rfl

@[simp] theorem nextPoll_view (p : SlotPos) (s : State) : queueView (nextPoll p s) = queueView s := by
  simp only [nextPoll, endRound, sendPoll]
  split
  · split <;> simp
  · simp

@[simp] theorem takeRoundExpiry_view (s : State) : queueView (takeRoundExpiry s) = queueView s := by
  simp only [takeRoundExpiry]
  split
  · split <;> simp
  · rfl

@[simp] theorem lateResponse_view (s : State) : queueView (lateResponse s) = queueView s := rfl
@[simp] theorem checkFailure_view (p : SlotPos) (s : State) : queueView (checkFailure p s) = queueView s := rfl

@[simp] theorem moveValve_view (n : ValveIx) (st : ValveState) (t : Option Timer) (s : State) :
    queueView (moveValve n st t s) = queueView s := by
  simp [moveValve]

@[simp] theorem driveClosed_view (n : ValveIx) (s : State) : queueView (driveClosed n s) = queueView s := by
  simp only [driveClosed]
  split <;> simp

@[simp] theorem driveOpen_view (n : ValveIx) (s : State) : queueView (driveOpen n s) = queueView s := by
  simp only [driveOpen]
  split <;> simp

@[simp] theorem joinDemand_view (z : Zone) (n : ValveIx) (s : State) : queueView (joinDemand z n s) = queueView s := by
  simp only [joinDemand]
  split
  · rfl
  · split <;> simp

@[simp] theorem takeContact_view (n : ValveIx) (e : ValveEnd) (s : State) : queueView (takeContact n e s) = queueView s := by
  cases e <;> simp only [takeContact] <;> split <;> simp

@[simp] theorem dropContact_view (n : ValveIx) (e : ValveEnd) (s : State) : queueView (dropContact n e s) = queueView s := by
  cases e <;> rfl

@[simp] theorem takeTravelExpiry_view (n : ValveIx) (s : State) : queueView (takeTravelExpiry n s) = queueView s := by
  simp only [takeTravelExpiry]
  split
  · split <;> simp [faultValve]
  · rfl

@[simp] theorem captureEntry_view (z : Zone) (k : LeakCause) (s : State) : queueView (captureEntry z k s) = queueView s := by
  simp only [captureEntry]
  split <;> simp

@[simp] theorem joinHold_view (z : Zone) (c : Ch) (s : State) : queueView (joinHold z c s) = queueView s :=
  queueView_ite _ _ _ _ rfl (queueView_modCh _ _ _ Iff.rfl)

@[simp] theorem clearOverride_view (c : Ch) (s : State) : queueView (clearOverride c s) = queueView s :=
  queueView_modCh _ _ _ Iff.rfl

@[simp] theorem leaveHold_view (z : Zone) (c : Ch) (s : State) : queueView (leaveHold z c s) = queueView s := by
  have h : queueView (s.modCh c fun r => { r with holds := setErase z r.holds }) = queueView s :=
    queueView_modCh _ _ _ Iff.rfl
  simp only [leaveHold]
  split
  · split <;> simp [h]
  · rfl

@[simp] theorem releaseZone_view (z : Zone) (s : State) : queueView (releaseZone z s) = queueView s := by
  rw [releaseZone, forEach_same queueView (leaveDemand z) fun v t => queueView_modValve t v _,
    forEach_same queueView _ (leaveHold_view z)]

@[simp] theorem clearZone_view (z : Zone) (s : State) : queueView (clearZone z s) = queueView s := by
  simp [clearZone]

@[simp] theorem enableZone_view (z : Zone) (s : State) : queueView (enableZone z s) = queueView s := by
  simp only [enableZone]
  split <;> simp

@[simp] theorem disableZone_view (z : Zone) (s : State) : queueView (disableZone z s) = queueView s := by
  simp only [disableZone]
  split <;> simp

@[simp] theorem judgeWatch_view (z : Zone) (s : State) : queueView (judgeWatch z s).1 = queueView s := by
  simp only [judgeWatch]
  split
  · split <;> simp [enterCableFault]
  · simp [enterWet]

@[simp] theorem sampleZone_view (z : Zone) (x : Nat) (s : State) : queueView (sampleZone z x s).1 = queueView s := by
  simp only [sampleZone]
  split
  · rfl
  · generalize hu : (if _ = LoopClass.wet then count .leakWetSamples _ else _ : State) = u
    have hv : queueView u = queueView s := hu ▸ queueView_ite s _ _ _ (by simp) (by simp)
    split
    · simp [hv]
    · split
      · exact hv
      · split <;> simp [hv]
    all_goals exact hv

@[simp] theorem sampleAll_view (x : Vector Nat 16) (s : State) : queueView (sampleAll x s).1 = queueView s := by
  have h : ∀ (l : List Zone) (y : State × List (Zone × LeakCause)), queueView (l.foldl (fun x' z =>
      let y := sampleZone z x[z] x'.1
      match y.2 with
      | some c => (y.1, x'.2 ++ [(z, c)])
      | none => (y.1, x'.2)) y).1 = queueView y.1 := by
    intro l
    induction l with
    | nil => intro y; rfl
    | cons z l ih =>
      intro y
      rw [List.foldl_cons, ih]
      dsimp only
      split <;> simp
  exact h _ _

@[simp] theorem cancelOverride_view (p : Port) (s : State) : queueView (cancelOverride p s) = queueView s := by
  obtain ⟨r, h⟩ := cancelOverride_spec p s
  rw [h]
  rfl

@[simp] theorem lineAtOverride_view (p : Port) (i : Instr) (s : State) : queueView (lineAtOverride p i s) = queueView s := by
  obtain ⟨r, h⟩ := lineAtOverride_spec p i s
  rw [h]
  rfl

end Sys2Proof.Machine
end

section
/-! The operations that take channels into the admission queue and out of it keep its law (R35). -/

namespace Sys2Proof.Machine

section
variable {s : State} {l : List Ch} {c : Ch}

theorem queueLaw_pending (h : QueueLaw s) : (s.ch c).state = .pending ↔ c ∈ queuedChans s.budget.queue := h.1 c

/-! ### Withdrawals -/

theorem Entry.drop_nonempty {c : Ch} {e f : Entry} (h : e.drop c = some f) : f.chans ≠ [] := by
  rcases e with ⟨n, g, o, j, r, w⟩
  cases n with
  | single d =>
    simp only [Entry.drop] at h
    split at h <;> simp at h
    rw [← h]
    exact List.cons_ne_nil d []
  | gang g ms =>
    simp only [Entry.drop] at h
    split at h <;> simp at h
    next hall =>
    rw [← h]
    simpa [Entry.chans, setErase] using hall

/-- Dropping a channel from every entry leaves no entry empty (R42). -/
theorem filterMap_drop_nonempty (c : Ch) (q : List Entry) : ∀ e ∈ q.filterMap (Entry.drop c), e.chans ≠ [] := by
  intro e he
  obtain ⟨f, -, hf⟩ := List.mem_filterMap.mp he
  exact Entry.drop_nonempty hf

theorem dropFromQueue_view (c : Ch) (s : State) :
    queueView (dropFromQueue c s) =
      queueView (s.modBudget fun b => { b with queue := b.queue.filterMap (Entry.drop c) }) := by
  simp only [dropFromQueue]
  split
  · next hq => simp [queueView, hq]
  · next e q hq =>
    have hv : queueView (s.modBudget fun b => { b with queue := (e :: q).filterMap (Entry.drop c) }) =
        queueView (s.modBudget fun b => { b with queue := b.queue.filterMap (Entry.drop c) }) := by simp [queueView, hq]
    split
    · exact hv
    · exact (headGone_view _).trans hv

/-- A channel that leaves the queue is no longer named in it; it is then set aside until it leaves PENDING (R42). -/
theorem QueueLawBut.filterMap_drop (h : QueueLawBut l s) (c : Ch) :
    QueueLawBut (c :: l) (s.modBudget fun b => { b with queue := b.queue.filterMap (Entry.drop c) }) := by
  obtain ⟨hq, hp, hn, -⟩ := h
  refine ⟨fun d hd => ?_, fun d hd => ?_, ?_, filterMap_drop_nonempty c _⟩
  · rw [State.modBudget_budget, queuedChans_drop, List.mem_filter] at hd
    exact hq d hd.1
  · rw [State.modBudget_budget, queuedChans_drop, List.mem_filter]
    by_cases hdc : d = c
    · exact .inr (by simp [hdc])
    · exact (hp d hd).imp (fun hm => ⟨hm, by simpa using hdc⟩) (List.mem_cons_of_mem c)
  · rw [State.modBudget_budget, queuedChans_drop]
    exact hn.filter _

/-- A channel that is set aside and not queued leaves PENDING. -/
theorem QueueLawBut.enters (h : QueueLawBut (c :: l) s) (hc : c ∉ queuedChans s.budget.queue) {st : ChState}
    (hst : st ≠ .pending) : QueueLawBut l (enterState c st s) := by
  obtain ⟨hq, hp, hn, he⟩ := h
  have hpend : ∀ d, ((enterState c st s).ch d).state = .pending ↔ (s.ch d).state = .pending ∧ d ≠ c := fun d => by
    rw [enterState_ch]
    split
    · next hd => simpa [hd, Channel.enter] using hst
    · next hd => simp [hd]
  simp only [QueueLawBut, enterState_queue, hpend]
  refine ⟨fun d hd => ⟨hq d hd, fun e => hc (e ▸ hd)⟩, fun d ⟨hd, hne⟩ => ?_, hn, he⟩
  exact (hp d hd).imp_right fun hm => (List.mem_cons.mp hm).resolve_left hne

/-- A withdrawal ends with its channel out of the queue and not PENDING (R15, R42). -/
theorem QueueLawBut.withdraws (h : QueueLawBut (c :: l) s) (w : Withdrawal) : QueueLawBut l (withdraw c w s) := by
  simp only [withdraw]
  split
  · refine QueueLawBut.of_view (noticeWithdrawn_view ..) (QueueLawBut.enters ?_ ?_ (by decide))
    · have hd := (h.filterMap_drop c).of_view (dropFromQueue_view c s)
      obtain ⟨hq, hp, hrest⟩ := hd
      exact ⟨hq, fun d hd => (hp d hd).imp_right fun hm => by simpa using hm, hrest⟩
    · rw [dropFromQueue_queued]
      simp
  · next hc =>
    obtain ⟨hq, hp, hrest⟩ := h
    exact ⟨hq, fun d hd => (hp d hd).imp_right fun hm =>
      (List.mem_cons.mp hm).resolve_left fun e => hc (by rwa [← e]), hrest⟩

theorem withdraw_queueLaw (w : Withdrawal) (h : QueueLaw s) : QueueLaw (withdraw c w s) :=
  (queueLaw_iff _).mpr ((h.but [c]).withdraws w)

/-- The channels set aside are withdrawn one after the other. -/
theorem QueueLawBut.forEach_withdraws (h : QueueLawBut l s) (w : Withdrawal) :
    QueueLaw (forEach l (fun c t => withdraw c w t) s) := by
  induction l generalizing s with
  | nil => exact (queueLaw_iff s).mpr h
  | cons c l ih => exact ih (h.withdraws w)

/-- The source state leaves GRID: every queued channel is withdrawn (R43). -/
theorem emptyQueue_queueLaw (h : QueueLaw s) : QueueLaw (emptyQueue s) := by
  have hbut : QueueLawBut (queuedChans s.budget.queue)
      (s.modBudget fun b => { b with queue := [], spacing := none, late := none }) :=
    ⟨fun c hc => absurd hc List.not_mem_nil, fun c hc => .inr ((queueLaw_pending h).mp hc), List.nodup_nil,
      fun e he => absurd he List.not_mem_nil⟩
  exact hbut.forEach_withdraws .sourceLeft

/-- Channels dropped from the queue together are set aside together (R42, log 47). -/
theorem QueueLawBut.foldl_drop (l : List Ch) {m : List Ch} {q : List Entry}
    (h : QueueLawBut m (s.modBudget fun b => { b with queue := q })) :
    QueueLawBut (l ++ m) (s.modBudget fun b =>
      { b with queue := l.foldl (fun q c => q.filterMap (Entry.drop c)) q }) := by
  induction l generalizing m q with
  | nil => exact h
  | cons c l ih =>
    obtain ⟨hq, hp, hrest⟩ := ih (h.filterMap_drop c)
    exact ⟨hq, fun d hd => (hp d hd).imp_right fun hm => by simpa [or_left_comm] using hm, hrest⟩

/-- A run's outstanding members are withdrawn in one step (R42). -/
theorem withdrawAll_queueLaw (l : List Ch) (w : Withdrawal) (h : QueueLaw s) : QueueLaw (withdrawAll l w s) := by
  have hdrop := QueueLawBut.foldl_drop (s := s) (q := s.budget.queue) l (h.but [])
  rw [List.append_nil] at hdrop
  simp only [withdrawAll]
  refine QueueLawBut.forEach_withdraws (hdrop.of_view ?_) w
  exact queueView_ite _ _ _ _ (headGone_view _) rfl

/-! ### Stops and cuts -/

theorem gracefulStop_queueLaw (k : StopCause) (c : Ch) (s : State) (h : QueueLaw s) : QueueLaw (gracefulStop k c s) := by
  have hm : QueueLaw (markForStop c k s) := h.of_view (markForStop_view c k s)
  have hc : ((markForStop c k s).ch c).state = (s.ch c).state := by
    rw [markForStop_ch, if_pos rfl, Channel.marked_state]
  simp only [gracefulStop]
  cases hs : (s.ch c).state with
  | on => exact hm.of_view (startWarning_view (by simp [hc, hs]))
  | pending => exact withdraw_queueLaw .counted hm
  | ramping => exact hm.of_view (switchOff_view (by simp [hc, hs]))
  | warning | off | faulted => exact hm

theorem cut_queueLaw (k : StopCause) (c : Ch) (s : State) (h : QueueLaw s) : QueueLaw (cut k c s) := by
  have hm : QueueLaw (markForStop c k s) := h.of_view (markForStop_view c k s)
  have hc : ((markForStop c k s).ch c).state = (s.ch c).state := by
    rw [markForStop_ch, if_pos rfl, Channel.marked_state]
  simp only [cut]
  cases hs : (s.ch c).state with
  | on | warning | ramping => exact hm.of_view (switchOff_view (by simp [hc, hs]))
  | pending => exact withdraw_queueLaw .counted hm
  | off | faulted => exact hm

/-- A stuck-on finding withdraws a PENDING channel first (R16). -/
theorem takeConfirmExpiry_queueLaw (c : Ch) (s : State) (h : QueueLaw s) : QueueLaw (takeConfirmExpiry c s) := by
  have h1 : QueueLaw (stopConfirmed c s) := h.of_view (queueView_modCh _ _ _ Iff.rfl)
  have hch : ((stopConfirmed c s).ch c).state = (s.ch c).state := by rw [stopConfirmed_ch, if_pos rfl]
  by_cases ht : (s.ch c).confirm.isSome
  · cases hg : (s.ch c).powerGood with
    | false => rwa [takeConfirmExpiry_absent ht hg]
    | true =>
      cases hs : (s.ch c).state with
      | off =>
        rw [takeConfirmExpiry_off ht hg hs]
        exact h1.of_view (markStuck_view (by simp [hch, hs]))
      | pending =>
        rw [takeConfirmExpiry_pending ht hg hs]
        refine (withdraw_queueLaw .counted h1).of_view (markStuck_view ?_)
        simp [withdraw_ch, hch, hs, Channel.withdrawn]
      | faulted =>
        rw [takeConfirmExpiry_faulted ht hg hs]
        split
        · exact h1
        · exact h.of_view ((reportFault_view ..).trans (queueView_modCh _ _ _ Iff.rfl))
      | ramping | on | warning =>
        have hu : takeConfirmExpiry c s = stopConfirmed c s := by simp [takeConfirmExpiry, ht, hg, hs, stopConfirmed]
        rwa [hu]
  · rwa [takeConfirmExpiry_stopped (by simpa using ht)]

theorem takeGraceExpiry_queueLaw (h : QueueLaw s) : QueueLaw (takeGraceExpiry s) := by
  have hone : ∀ c t, QueueLaw t → QueueLaw (shedForDeficit c t) := fun c t ht => by
    refine (gracefulStop_queueLaw .deficit c t ht).of_view ?_
    simp only [shedForDeficit]
    rw [queueView_count]
    exact queueView_ite _ _ _ _ (queueView_modBudget _ _ rfl) rfl
  simp only [takeGraceExpiry]
  split
  · split
    · split
      · refine QueueLaw.of_view ((restartGrace_view _).trans (queueView_raise ..)) ?_
        exact forEach_keeps QueueLaw shedForDeficit hone _ _ h
      · exact h.of_view ((restartGrace_view _).trans (reportDeficit_view _))
    · exact h.of_view (restartGrace_view _)
  · exact h

/-! ### Joins -/

/-- Channels that are not PENDING join the queue's tail as one entry (R36). -/
theorem join_queueLaw {nm : EntryName} (o : Origin) (h : QueueLaw s) (hl : (newEntry nm o s).chans = l)
    (hne : l ≠ []) (hn : l.Nodup) (hoff : ∀ c ∈ l, (s.ch c).state ≠ .pending) : QueueLaw (join nm o s) := by
  by_cases hg : s.source.state = .grid
  · obtain ⟨hp, hd, he⟩ := h
    have hch := join_ch hl hg hn
    obtain ⟨v, x, w, hj, -⟩ := join_spec nm o hg (hl ▸ hne)
    have hq : (join nm o s).budget.queue = s.budget.queue ++ [newEntry nm o s] := by rw [hj]
    have hqc : queuedChans (join nm o s).budget.queue = queuedChans s.budget.queue ++ l := by
      rw [hq, ← hl]
      simp [queuedChans]
    refine ⟨fun c => ?_, ?_, fun e hm => ?_⟩
    · rw [hch, hqc, List.mem_append]
      split
      · next hc => simp [hc]
      · next hc => simp [hc, hp]
    · rw [hqc]
      exact hd.append hn fun c hc hcl => hoff c hcl ((hp c).mpr hc)
    · rw [hq, List.mem_append, List.mem_singleton] at hm
      rcases hm with hm | rfl
      · exact he e hm
      · rwa [hl]
  · rwa [join, if_neg hg]

/-! ### Admissions -/

/-- An admitted channel, taken out of the queue before, ends RAMPING, ON or FAULTED (R6). -/
theorem QueueLawBut.admits (h : QueueLawBut (c :: l) s) (hc : c ∉ queuedChans s.budget.queue) :
    QueueLawBut l (admitChannel c s) := by
  let t := clearShed c (s.modCh c fun r =>
    { r with admitted := some (s.chCfg c).inrush, confirm := none, ramp := some (s.timer (s.chCfg c).ramp) })
  let u := noticeAdmitted c (count .channelStarts (enterState c .ramping t))
  let v := if (u.ch c).powerGood then takePowerGoodRise c u else u
  have ht : queueView t = queueView s := (clearShed_view ..).trans (queueView_modCh _ _ _ Iff.rfl)
  have hu : QueueLawBut l u :=
    QueueLawBut.of_view (by rw [noticeAdmitted_view, queueView_count]) ((h.of_view ht).enters hc (by decide))
  have hv : queueView v = queueView u := queueView_ite _ _ _ _ (takePowerGoodRise_view ..) rfl
  have hw : queueView (admitChannel c s) = queueView v := queueView_ite _ _ _ _ (takeTrayFault_view ..) rfl
  exact hu.of_view (hw.trans hv)

theorem takePowerGoodRise_queue (c : Ch) (s : State) : (takePowerGoodRise c s).budget.queue = s.budget.queue := by
  simp only [takePowerGoodRise]
  split
  · rw [enterState_queue]; rfl
  all_goals rfl

theorem takeTrayFault_queue (c : Ch) (s : State) : (takeTrayFault c s).budget.queue = s.budget.queue := by
  simp only [takeTrayFault]
  split
  case h_4 | h_5 | h_6 => rfl
  all_goals
    rw [(faultChannel_entersFaulted c .tray _).budget]
    rfl

/-- An admission does not touch the queue: the entry has left it before (R38). -/
theorem admitChannel_queue (c : Ch) (s : State) : (admitChannel c s).budget.queue = s.budget.queue := by
  let t := noticeAdmitted c (count .channelStarts (enterState c .ramping (clearShed c (s.modCh c fun r =>
    { r with admitted := some (s.chCfg c).inrush, confirm := none, ramp := some (s.timer (s.chCfg c).ramp) }))))
  let u := if (t.ch c).powerGood then takePowerGoodRise c t else t
  have ht : t.budget.queue = s.budget.queue := by
    show (noticeAdmitted c _).budget.queue = _
    rw [noticeAdmitted_budget, count_budget, enterState_queue]; rfl
  have hu : u.budget.queue = t.budget.queue := by
    simp only [u]
    split
    · exact takePowerGoodRise_queue c t
    · rfl
  show (if (u.ch c).trayFault then takeTrayFault c u else u).budget.queue = _
  split
  · rw [takeTrayFault_queue, hu, ht]
  · rw [hu, ht]

theorem QueueLawBut.forEach_admits (h : QueueLawBut l s) (hl : ∀ c ∈ l, c ∉ queuedChans s.budget.queue) :
    QueueLaw (forEach l admitChannel s) := by
  induction l generalizing s with
  | nil => exact (queueLaw_iff s).mpr h
  | cons c l ih =>
    refine ih (h.admits (hl c (List.mem_cons_self ..))) fun d hd => ?_
    rw [admitChannel_queue]
    exact hl d (List.mem_cons_of_mem c hd)

/-- The head entry is admitted and removed (R38, R39). -/
theorem admitHead_queueLaw {e f : Entry} {q : List Entry} (hq : s.budget.queue = f :: q) (he : e.chans = f.chans)
    (h : QueueLaw s) : QueueLaw (admitHead e s) := by
  obtain ⟨hp, hn, hne⟩ := h
  rw [hq, queuedChans_cons] at hp hn
  rw [hq] at hne
  let t := s.modBudget fun b => { b with queue := b.queue.tail }
  have htq : t.budget.queue = q := by simp [t, hq]
  have ht : QueueLawBut e.chans t := by
    refine ⟨fun c hc => ?_, fun c hc => ?_, ?_, fun x hx => ?_⟩
    · rw [htq] at hc
      exact (hp c).mpr (List.mem_append_right _ hc)
    · rw [htq, he]
      exact (List.mem_append.mp ((hp c).mp hc)).symm
    · rw [htq]
      exact hn.of_append_right
    · rw [htq] at hx
      exact hne x (List.mem_cons_of_mem f hx)
  have hall := ht.forEach_admits fun c hc hm => by
    rw [htq] at hm
    exact List.disjoint_of_nodup_append hn (he ▸ hc) hm
  simp only [admitHead]
  refine QueueLaw.of_view ((headGone_view _).trans ?_) hall
  split
  · exact queueView_modBudget _ _ rfl
  · rfl

theorem examineSingle_queueLaw {e f : Entry} {q : List Entry} (hq : s.budget.queue = f :: q) (he : e.chans = f.chans)
    (h : QueueLaw s) : QueueLaw (examineSingle e s) := by
  simp only [examineSingle]
  split
  · exact h
  · split
    · exact admitHead_queueLaw hq he h
    · exact h.of_view (headWaits_view e s)

/-- The singles of a gang name its members (R39). -/
theorem degrade_queued (e : Entry) (g : Gang) (ms : List Ch) : queuedChans (degrade e g ms) = ms := by
  rw [queuedChans, degrade, List.flatMap_map]
  exact List.flatMap_singleton' ms

/-- The queue with its head degraded in place names the same channels (R39). -/
theorem degraded_queueLaw {e : Entry} {g : Gang} {ms : List Ch} {q : List Entry} (hq : s.budget.queue = e :: q)
    (hn : e.name = .gang g ms) (h : QueueLaw s) :
    QueueLaw (s.modBudget fun b => { b with queue := degrade e g ms ++ q }) := by
  have hchans : e.chans = ms := by simp [Entry.chans, hn]
  have hqc : queuedChans (degrade e g ms ++ q) = queuedChans s.budget.queue := by
    have happ : queuedChans (degrade e g ms ++ q) = queuedChans (degrade e g ms) ++ queuedChans q := by simp [queuedChans]
    rw [happ, degrade_queued, hq, queuedChans_cons, hchans]
  obtain ⟨hp, hd, he⟩ := h
  refine ⟨fun c => ?_, ?_, fun x hx => ?_⟩
  · rw [State.modBudget_budget, hqc, modBudget_ch, hp]
  · rw [State.modBudget_budget, hqc]
    exact hd
  · rcases List.mem_append.mp hx with hx | hx
    · obtain ⟨c, -, rfl⟩ := List.mem_map.mp hx
      exact List.cons_ne_nil c []
    · exact he x (hq ▸ List.mem_cons_of_mem e hx)

theorem examine_queueLaw (h : QueueLaw s) : QueueLaw (examine s) := by
  simp only [examine]
  split
  · exact h
  · next e q hq =>
    split
    · exact examineSingle_queueLaw hq rfl h
    · next g ms hn =>
      split
      · exact admitHead_queueLaw hq rfl h
      · have hdeg := degraded_queueLaw hq hn h
        split
        · next hnil =>
          rw [hnil] at hdeg
          exact hdeg.of_view (headGone_view _)
        · next f fs hcons =>
          rw [hcons] at hdeg
          let u := s.modBudget fun b => { b with queue := f :: fs ++ q }
          obtain ⟨f', q', hq', hf', -⟩ := List.map_eq_cons_iff.mp (congrArg Prod.snd (watchHead_view u))
          exact examineSingle_queueLaw hq' hf'.symm (hdeg.of_view (watchHead_view u))

end

end Sys2Proof.Machine
end

section
/-! The blocks behind the hand-overs keep the law of the admission queue (R35): the Sequence Engine, the Source
Controller, and the hand-overs themselves. -/

namespace Sys2Proof.Machine

section
variable {s : State}

/-! ### The Sequence Engine -/

theorem withdrawOutstanding_queueLaw (l : List Ch) (h : QueueLaw s) : QueueLaw (withdrawOutstanding l s) :=
  withdrawAll_queueLaw l .own (h.of_view (queueView_modRun s _))

theorem pauseRun_queueLaw (k : RunBy) (h : QueueLaw s) : QueueLaw (pauseRun k s) := by
  simp only [pauseRun]
  split
  · next r _ =>
    split
    · exact (withdrawOutstanding_queueLaw r.outstanding h).of_view (by simp)
    · exact h
  · exact h

theorem abortRun_queueLaw (n : Nat) (h : QueueLaw s) : QueueLaw (abortRun n s) := by
  simp only [abortRun]
  split
  · next r _ =>
    split
    · exact (withdrawOutstanding_queueLaw r.outstanding h).of_view (endRun_view ..)
    · exact h
  · exact h

theorem planLeftGrid_queueLaw (h : QueueLaw s) : QueueLaw (planLeftGrid s) := by
  simp only [planLeftGrid]
  split
  · split
    · exact pauseRun_queueLaw .source h
    · exact h
  · exact h

theorem not_pending_of_startReason {c : Ch} (h : startReason s c = none) : (s.ch c).state ≠ .pending := by
  obtain ⟨-, hoff, -⟩ := (startReason_none s c).mp h
  simp [hoff]

theorem PlanStep.members_nodup (p : PlanStep) : p.members.Nodup := by
  simp only [PlanStep.members]
  split
  · next t _ =>
    cases t with
    | chan c => exact List.nodup_singleton c
    | gang g => exact gangMembers_nodup g
  · exact List.nodup_nil

/-- The members of a START step that join are OFF (R55). -/
theorem startStep_queueLaw (p : PlanStep) (h : QueueLaw s) : QueueLaw (startStep p s) := by
  let skipped := forEach p.members (skipFailing s) s
  have hv : queueView skipped = queueView s := forEach_same queueView _ (skipFailing_view s) _ s
  have hoff : ∀ c ∈ p.members.filter fun c => (startReason s c).isNone, (skipped.ch c).state ≠ .pending := by
    intro c hc
    have hne := not_pending_of_startReason (Option.isNone_iff_eq_none.mp (List.mem_filter.mp hc).2)
    rwa [Ne, show ((skipped.ch c).state = .pending) = ((s.ch c).state = .pending) from congrFun (congrArg Prod.fst hv) c]
  have hn : (p.members.filter fun c => (startReason s c).isNone).Nodup := p.members_nodup.filter _
  have hs : QueueLaw skipped := h.of_view hv
  simp only [startStep]
  split
  · exact hs.of_view (queueView_markPlan ..)
  · next c l hpass =>
    rw [hpass] at hoff hn
    have hrun : QueueLaw (skipped.modRun fun r => { r with state := .waiting, outstanding := c :: l }) :=
      hs.of_view (queueView_modRun ..)
    rw [hpass]
    split
    · exact join_queueLaw .plan hrun rfl (List.cons_ne_nil c l) hn hoff
    · exact join_queueLaw .plan hrun rfl (List.cons_ne_nil c []) (List.nodup_singleton c)
        fun d hd => hoff d (by simp [List.mem_singleton.mp hd])

theorem executeStep_queueLaw (h : QueueLaw s) : QueueLaw (executeStep s) := by
  have hbegun : QueueLaw (s.modRun fun r => { r with state := .running, phase := .step, outstanding := [] }) :=
    h.of_view (queueView_modRun ..)
  simp only [executeStep]
  split
  · exact h
  · split
    · split
      · exact startStep_queueLaw _ hbegun
      · split
        · exact hbegun.of_view (queueView_markPlan ..)
        · exact hbegun
    · exact (forEach_keeps QueueLaw _ (gracefulStop_queueLaw .plan) _ _ hbegun).of_view (queueView_markPlan ..)
    · exact hbegun.of_view (queueView_markPlan ..)
    · split
      · exact hbegun.of_view (queueView_markPlan ..)
      · exact hbegun.of_view (queueView_modRun ..)
    · split
      · exact hbegun.of_view (queueView_markPlan ..)
      · exact hbegun.of_view (queueView_modRun ..)

theorem planWork_queueLaw (h : QueueLaw s) : QueueLaw (planWork s) := by
  have hidle : QueueLaw (markPlan .idle s) := h.of_view (queueView_markPlan ..)
  simp only [planWork]
  split
  · exact hidle
  · exact executeStep_queueLaw hidle
  · exact hidle.of_view (completeStep_view _)

theorem drainPlan_queueLaw (n : Nat) (h : QueueLaw s) : QueueLaw (drainPlan n s) := by
  induction n generalizing s with
  | zero => exact h
  | succ n ih =>
    simp only [drainPlan]
    split
    · exact h
    · exact ih (planWork_queueLaw h)

theorem reserveRequest_queueLaw (d : Option StepIx) (h : QueueLaw s) : QueueLaw (reserveRequest d s) := by
  have hab := abortRun_queueLaw 3 (drainPlan_queueLaw Config.planFuel h)
  simp only [reserveRequest]
  split
  · exact hab.of_view (startRun_view ..)
  · exact hab

/-! ### Restore -/

theorem join_ch_other {nm : EntryName} {o : Origin} {c : Ch} (hc : c ∉ (newEntry nm o s).chans)
    (hn : (newEntry nm o s).chans.Nodup) : (join nm o s).ch c = s.ch c := by
  by_cases hg : s.source.state = .grid
  · rw [join_ch rfl hg hn, if_neg hc]
  · rw [join, if_neg hg]

/-- OFF channels are placed one after the other (R122). -/
theorem forEach_place_queueLaw {f : Ch → State → State} (hf : ∀ c t, queueView (f c t) = queueView (placeRestore c t))
    {l : List Ch} (hn : l.Nodup) (hoff : ∀ c ∈ l, (s.ch c).state ≠ .pending) (h : QueueLaw s) :
    QueueLaw (forEach l f s) := by
  induction l generalizing s with
  | nil => exact h
  | cons c l ih =>
    obtain ⟨hc, hl⟩ := List.nodup_cons.mp hn
    refine ih hl (fun d hd => ?_) (QueueLaw.of_view (hf c s) ?_)
    · have hdc : d ∉ (newEntry (.single c) .restore s).chans :=
        fun e => hc (List.mem_singleton.mp e ▸ hd)
      have hp : ((f c s).ch d).state = .pending ↔ ((placeRestore c s).ch d).state = .pending :=
        iff_of_eq (congrFun (congrArg Prod.fst (hf c s)) d)
      rw [Ne, hp, placeRestore, join_ch_other hdc (List.nodup_singleton c)]
      exact hoff d (List.mem_cons_of_mem c hd)
    · exact join_queueLaw .restore h rfl (List.cons_ne_nil c []) (List.nodup_singleton c)
        fun d hd => hoff d (by simp [List.mem_singleton.mp hd])

theorem eligibleOfTier_spec {t : Nat} {c : Ch} (hc : c ∈ eligibleOfTier s t) :
    (s.chCfg c).tier.val = t ∧ (s.ch c).state = .off := by
  simp [eligibleOfTier, eligibleForRestore] at hc
  exact ⟨hc.2.1, hc.2.2.1.1.1⟩

theorem eligibleOfTier_nodup (s : State) (t : Nat) : (eligibleOfTier s t).Nodup := (List.nodup_finRange 24).filter _

/-- No channel is eligible twice: it has one tier (R122). -/
theorem eligibleInOrder_nodup (s : State) : (eligibleInOrder s).Nodup := by
  refine List.nodup_flatMap.mpr ⟨fun t _ => eligibleOfTier_nodup s t, ?_⟩
  refine List.Pairwise.imp (fun {a b} hab c ha hb => hab ?_) (show [0, 1, 2, 3].Pairwise (· ≠ ·) by decide)
  exact (eligibleOfTier_spec ha).1.symm.trans (eligibleOfTier_spec hb).1

theorem eligibleInOrder_off {c : Ch} (hc : c ∈ eligibleInOrder s) : (s.ch c).state ≠ .pending := by
  obtain ⟨t, -, ht⟩ := List.mem_flatMap.mp hc
  simp [(eligibleOfTier_spec ht).2]

theorem autoRestore_queueLaw (h : QueueLaw s) : QueueLaw (autoRestore s) := by
  simp only [autoRestore]
  split
  · exact forEach_place_queueLaw (fun c t => queueView_modSource ..) ((eligibleInOrder_nodup s).filter _)
      (fun c hc => eligibleInOrder_off (List.mem_of_mem_filter hc)) h
  · exact h

/-! ### The Source Controller -/

theorem rideFromGrid_queueLaw (h : QueueLaw s) : QueueLaw (rideFromGrid s) := by
  refine QueueLaw.of_view (beginRide_view ..) (emptyQueue_queueLaw (planLeftGrid_queueLaw (h.of_view ?_)))
  rw [queueView_modSource, enterSource_view]

theorem testLoss_queueLaw (h : QueueLaw s) : QueueLaw (testLoss s) := by
  simp only [testLoss]
  split
  · split
    · exact rideFromGrid_queueLaw h
    all_goals exact h.of_view (by simp)
  · exact h

theorem deplete_queueLaw (h : QueueLaw s) : QueueLaw (deplete s) := by
  refine QueueLaw.of_view ?_ (forEach_keeps QueueLaw (cut .source) (cut_queueLaw .source) (liveChans s) s h)
  simp [deplete]

theorem shedLadderTier_queueLaw (a b t : Nat) (s : State) (h : QueueLaw s) : QueueLaw (shedLadderTier a b t s) := by
  have hl := forEach_keeps QueueLaw (fun c t => count .channelsShed (gracefulStop .ladder c t))
    (fun c t ht => (gracefulStop_queueLaw .ladder c t ht).of_view (queueView_count ..)) (tierLive s t) s h
  simp only [shedLadderTier]
  split
  · exact hl.of_view (queueView_ite _ _ _ _ (queueView_raise ..) rfl)
  · exact h

theorem ladder_queueLaw (h : QueueLaw s) : QueueLaw (ladder s) :=
  forEach_keeps QueueLaw _ (shedLadderTier_queueLaw _ _) _ _ (h.of_view (queueView_modSource ..))

theorem reserveStage_queueLaw (h : QueueLaw s) : QueueLaw (reserveStage s) := by
  simp only [reserveStage]
  split
  · split
    · exact reserveRequest_queueLaw _ (h.of_view (by simp))
    · exact forEach_keeps QueueLaw _ (cut_queueLaw .source) _ _ (reserveRequest_queueLaw _ (h.of_view (by simp)))
  · exact h

theorem rideEvaluation_queueLaw (h : QueueLaw s) : QueueLaw (rideEvaluation s) := by
  have heval : QueueLaw (s.modSource fun x => { x with lastEval := some s.now }) := h.of_view (queueView_modSource ..)
  simp only [rideEvaluation]
  split
  · split
    · exact deplete_queueLaw heval
    · exact (reserveStage_queueLaw (ladder_queueLaw heval)).of_view (testAllOff_view _)
  · exact h

/-! ### The hand-overs -/

/-- A hand-over's mark is taken away before it acts. -/
theorem QueueLaw.modWork (h : QueueLaw s) (f : Work → Work) : QueueLaw (s.modWork f) := h.of_view (queueView_modWork s f)

theorem QueueLaw.useOrder (h : QueueLaw s) : QueueLaw (useOrder s) := h.of_view (useOrder_view s)

theorem handOver_queueLaw (s : State) (h : QueueLaw s) : QueueLaw (handOver s) := by
  simp only [handOver]
  by_cases heval : s.work.eval = true
  · rw [if_pos heval]; exact h.of_view (evaluate_view s)
  rw [if_neg heval]
  by_cases hplan : s.work.plan ≠ .idle
  · rw [if_pos hplan]; exact planWork_queueLaw h
  rw [if_neg hplan]
  by_cases hride : s.work.ride = true
  · rw [if_pos hride]; exact rideEvaluation_queueLaw (h.modWork _)
  rw [if_neg hride]
  by_cases hfigs : s.work.figs = true ∧ figsFirst s = true
  · rw [if_pos hfigs]; exact (h.useOrder.modWork _).of_view (sourceTests_view _)
  rw [if_neg hfigs]
  by_cases hexam : s.work.exam = true
  · rw [if_pos hexam]; exact examine_queueLaw (h.useOrder.modWork _)
  rw [if_neg hexam]
  by_cases hloss : s.work.loss = true
  · rw [if_pos hloss]; exact testLoss_queueLaw (h.modWork _)
  rw [if_neg hloss]
  by_cases hgrace : s.work.grace = true
  · rw [if_pos hgrace]; exact takeGraceExpiry_queueLaw (h.modWork _)
  rw [if_neg hgrace]
  by_cases hrestore : s.work.restore = true
  · rw [if_pos hrestore]; exact autoRestore_queueLaw (h.modWork _)
  rw [if_neg hrestore]
  by_cases hup : s.work.autoUp = true
  · rw [if_pos hup]; exact (h.modWork _).of_view (requestUpRun_view _)
  rw [if_neg hup]
  exact h

theorem settle_queueLaw (h : QueueLaw s) : QueueLaw (settle s) := settle_keeps QueueLaw handOver_queueLaw s h

end

end Sys2Proof.Machine
end

section
/-! Every event and every command line keeps the law of the admission queue (R35). -/

namespace Sys2Proof.Machine

section
variable {s : State}

/-! ### Shelf, bus, leak and silence -/

theorem handRect_queueLaw (h : QueueLaw s) : QueueLaw (handRect s) := by
  have heval : QueueLaw (markEval s) := h.of_view (queueView_markEval s)
  simp only [handRect]
  split
  · have horders : QueueLaw { markEval s with orders := (markEval s).orders + 1 } := heval.of_view (queueView_orders ..)
    split
    · exact testLoss_queueLaw horders
    · exact horders.modWork _
  · exact testLoss_queueLaw heval

theorem takeSample_queueLaw (x : SlotReport) (h : QueueLaw s) : QueueLaw (takeSample x s) := by
  cases x with
  | rect n x => exact handRect_queueLaw (h.of_view (by simp))
  | batt n x => exact h.of_view (by simp [takeSample, takeBattSample])

theorem miss_queueLaw (p : SlotPos) (h : QueueLaw s) : QueueLaw (miss p s) := by
  simp only [miss]
  split
  · next n _ =>
    have hm : QueueLaw (count .shelfLinkMisses (s.modRect n fun r => { r with misses := satInc 3 r.misses })) :=
      h.of_view (by simp)
    simp only [missRect]
    split
    · split
      · exact handRect_queueLaw (hm.of_view (setRectState_view ..))
      · exact hm
    · exact h
  · next n _ =>
    simp only [missBatt]
    split
    · split <;> exact h.of_view (by simp)
    · exact h

/-- What a poll brings is taken after the next poll is sent (R77, log 45). -/
theorem endPoll_queueLaw {p : SlotPos} {f : State → State} (hf : ∀ t, QueueLaw t → QueueLaw (f t)) (h : QueueLaw s) :
    QueueLaw (endPoll p f s) := hf _ (h.of_view (by simp))

theorem takeResponse_queueLaw (x : ShelfReply) (h : QueueLaw s) : QueueLaw (takeResponse x s) := by
  simp only [takeResponse]
  split
  · exact h.of_view (lateResponse_view s)
  · split
    · exact h.of_view (lateResponse_view s)
    · refine endPoll_queueLaw (fun t ht => ?_) h
      split
      · exact takeSample_queueLaw _ ht
      · exact miss_queueLaw _ (ht.of_view (checkFailure_view ..))

theorem takeResponseTimeout_queueLaw (h : QueueLaw s) : QueueLaw (takeResponseTimeout s) := by
  simp only [takeResponseTimeout]
  split
  · exact endPoll_queueLaw (fun t ht => miss_queueLaw _ ht) h
  · exact h

theorem declareLow_queueLaw (h : QueueLaw s) : QueueLaw (declareLow s) :=
  testLoss_queueLaw (h.of_view (queueView_modShelf ..))

theorem takeBusSample_queueLaw (mv : Nat) (h : QueueLaw s) : QueueLaw (takeBusSample mv s) := by
  have hs : QueueLaw (s.modShelf fun k => { k with busMv := min mv 65535 }) := h.of_view (queueView_modShelf ..)
  simp only [takeBusSample]
  split
  · split
    · exact hs.of_view (by simp)
    · exact hs
  · split
    · split
      · exact hs
      · split
        · exact declareLow_queueLaw hs
        · exact hs.of_view (queueView_modShelf ..)
    · exact hs.of_view (queueView_modShelf ..)

theorem takeDebounceExpiry_queueLaw (h : QueueLaw s) : QueueLaw (takeDebounceExpiry s) := by
  simp only [takeDebounceExpiry]
  split
  · exact declareLow_queueLaw h
  · exact h

/-- A leak stop or cut keeps what the stop or cut keeps (R150). -/
theorem leakStop_queueLaw {f : Ch → State → State} (hf : ∀ c t, QueueLaw t → QueueLaw (f c t)) (c : Ch) (s : State)
    (h : QueueLaw s) : QueueLaw (leakStop f c s) := by
  simp only [leakStop]
  split
  · exact h
  · exact hf c s h

theorem applyResponse_queueLaw (z : Zone) (k : LeakCause) (h : QueueLaw s) : QueueLaw (applyResponse z k s) := by
  have hcap : QueueLaw (captureEntry z k s) := h.of_view (captureEntry_view z k s)
  have hhold : ∀ l : List Ch, QueueLaw (forEach l (joinHold z) (captureEntry z k s)) := fun l =>
    forEach_keeps QueueLaw _ (fun c t ht => ht.of_view (joinHold_view z c t)) l _ hcap
  have hstops : QueueLaw (match s.cfg.resp[z].action with
      | .report => captureEntry z k s
      | .isolate => forEach s.cfg.resp[z].chans (leakStop (gracefulStop .leak))
          (forEach s.cfg.resp[z].chans (joinHold z) (captureEntry z k s))
      | .cut => forEach s.cfg.resp[z].chans (leakStop (cut .leak))
          (forEach s.cfg.resp[z].chans (joinHold z) (captureEntry z k s))) := by
    split
    · exact hcap
    · exact forEach_keeps QueueLaw _ (leakStop_queueLaw (gracefulStop_queueLaw .leak)) _ _ (hhold _)
    · exact forEach_keeps QueueLaw _ (leakStop_queueLaw (cut_queueLaw .leak)) _ _ (hhold _)
  simp only [applyResponse]
  split
  · exact hstops.of_view (joinDemand_view ..)
  · exact hstops

theorem applyEscalation_queueLaw (z : Zone) (h : QueueLaw s) : QueueLaw (applyEscalation z s) := by
  have hcount : QueueLaw (countLaterAlarm s) := h.of_view (queueView_modResp ..)
  have hhold : ∀ l : List Ch, QueueLaw (forEach l (joinHold z) (countLaterAlarm s)) := fun l =>
    forEach_keeps QueueLaw _ (fun c t ht => ht.of_view (joinHold_view z c t)) l _ hcount
  have hvalves : ∀ t, QueueLaw t → QueueLaw (if s.cfg.resp[z].closeAll then forEach allValves (joinDemand z) t else t) := by
    intro t ht
    exact ht.of_view (queueView_ite _ _ _ _ (forEach_same queueView _ (joinDemand_view z) _ t) rfl)
  simp only [applyEscalation]
  refine hvalves _ ?_
  split
  · exact hcount
  · exact forEach_keeps QueueLaw _ (leakStop_queueLaw (gracefulStop_queueLaw .leak)) _ _ (hhold _)
  · refine forEach_keeps QueueLaw _ (cut_queueLaw .leak) _ _ ?_
    exact (hhold _).of_view (forEach_same queueView _ clearOverride_view _ _)

theorem takeLeakScan_queueLaw (x : Vector Nat 16) (h : QueueLaw s) : QueueLaw (takeLeakScan x s) := by
  have hlatch : ∀ (y : Zone × LeakCause) (t : State), QueueLaw t → QueueLaw (latchZone y t) := by
    intro y t ht
    have hr := applyResponse_queueLaw y.1 y.2 ht
    simp only [latchZone]
    split
    · exact hr.of_view (queueView_raise ..)
    · exact hr
  simp only [takeLeakScan]
  exact forEach_keeps QueueLaw latchZone hlatch _ _ (h.of_view (queueView_ite _ _ _ _ (by simp) (by simp)))

theorem takeEscalation_queueLaw (z : Zone) (h : QueueLaw s) : QueueLaw (takeEscalation z s) := by
  simp only [takeEscalation]
  split
  · exact (applyEscalation_queueLaw z (h.of_view (queueView_modZone ..))).of_view (queueView_raise ..)
  · exact h

/-! ### Start, reset and power -/

/-- A state with an empty queue and no PENDING channel. -/
theorem queueLaw_of_empty (hq : s.budget.queue = []) (hp : ∀ c, (s.ch c).state ≠ .pending) : QueueLaw s := by
  simp [QueueLaw, hq, hp, queuedChans]

theorem blank_queueLaw (p : Power) (s : State) : QueueLaw (blank p s) :=
  queueLaw_of_empty rfl fun c => by simp [blank, State.ch, State.reset, Channel.cold]

theorem completeLoad_queueLaw (pins : PinSample) (s : State) : QueueLaw (completeLoad pins s) := by
  have hcold : QueueLaw (coldBlocks pins s) :=
    queueLaw_of_empty rfl fun c => by simp [coldBlocks, State.ch, coldChannel, Channel.cold]
  have hvalve : ∀ v t, queueView (reportColdValve v t) = queueView t := fun v t =>
    queueView_ite _ _ _ _ (queueView_raise ..) rfl
  have hload : ∀ t, queueView (reportLoad t) = queueView t := fun t => by
    simp only [reportLoad]
    split <;> simp
  refine hcold.of_view ?_
  simp only [completeLoad]
  rw [queueView_markEval, hload, forEach_same queueView _ hvalve, beginRound_view, queueView_modSource]

theorem warmChannel_not_pending (now : Stamp) (g : ChanCfg) (r : Channel) : (warmChannel now g r).state ≠ .pending := by
  simp only [warmChannel]
  split <;> simp [*]

theorem warmReset_queueLaw (k : ResetKind) (s : State) : QueueLaw (warmReset k s) := by
  have hblocks : QueueLaw (warmBlocks k s) :=
    queueLaw_of_empty rfl fun c => by
      have hc : (warmBlocks k s).ch c = warmChannel s.now s.cfg.chan[c] s.chans[c] := by
        simp [warmBlocks, warmTally, warmLink, warmResp, warmZones, warmSource, warmShelf, warmBudget, warmChannels,
          beginRound, sendPoll, State.ch]
      rw [hc]
      exact warmChannel_not_pending _ _ _
  have htests : QueueLaw (if (warmBlocks k s).source.state = .ride then testReturn (evaluate (warmBlocks k s))
      else markEval (testLoss (warmBlocks k s))) := by
    split
    · exact hblocks.of_view (by simp)
    · exact (testLoss_queueLaw hblocks).of_view (queueView_markEval _)
  exact htests.of_view ((queueView_markRestore _).trans (queueView_ite _ _ _ _ (queueView_markRide _) rfl))

theorem beginCommandReset_queueLaw (h : QueueLaw s) : QueueLaw (beginCommandReset s) := by
  simp only [beginCommandReset]
  split
  · exact warmReset_queueLaw ..
  · exact h

theorem completeSave_queueLaw (h : QueueLaw s) : QueueLaw (completeSave s) := by
  simp only [completeSave]
  split
  · exact h.of_view (by simp)
  · exact h
  · exact h

theorem senseScan_queueLaw (x : Vector Int 24) (h : QueueLaw s) :
    QueueLaw (forEach allCh overdrawCheck (storeDraws x s)) := by
  have hstore : queueView (storeDraws x s) = queueView s := by
    simp only [queueView, storeDraws_ch]
    rfl
  have hcheck : ∀ c t, queueView (overdrawCheck c t) = queueView t := fun c t =>
    queueView_ite _ _ _ _ ((queueView_modCh _ _ _ Iff.rfl).trans (queueView_raise ..)) rfl
  exact h.of_view ((forEach_same queueView _ hcheck _ _).trans hstore)

/-! ### Commands -/

theorem withIndex_queueLaw {n : Nat} {x : Option Int} {k : Fin n → State × Reply} (h : QueueLaw s)
    (hk : ∀ i, QueueLaw (k i).1) : QueueLaw (withIndex n x s k).1 := by
  simp only [withIndex]
  split
  · exact h
  · split
    · exact h
    · exact hk _

/-! Channels, budget and plan (Chapters 1 to 3). -/

theorem doChannelStart_queueLaw (a : TargetArgs) (h : QueueLaw s) : QueueLaw (doChannelStart a s).1 := by
  simp only [doChannelStart]
  split
  · exact h
  · refine withIndex_queueLaw h fun c => ?_
    split
    · exact h
    · next hr =>
      split
      · exact h
      · exact join_queueLaw .host h rfl (List.cons_ne_nil c []) (List.nodup_singleton c) fun d hd => by
          rw [List.mem_singleton.mp hd]
          exact not_pending_of_startReason hr

theorem doChannelStartGang_queueLaw (a : TargetArgs) (h : QueueLaw s) : QueueLaw (doChannelStartGang a s).1 := by
  simp only [doChannelStartGang]
  split
  · exact h
  · refine withIndex_queueLaw h fun g => ?_
    split
    · exact h
    · have hoff : ∀ c ∈ startables s g, (s.ch c).state ≠ .pending := fun c hc =>
        not_pending_of_startReason (Option.isNone_iff_eq_none.mp (List.mem_filter.mp hc).2)
      split
      · exact h
      · exact h
      · next hpass =>
        exact join_queueLaw .host h rfl (fun e => List.cons_ne_nil _ _ (hpass.symm.trans e)) ((gangMembers_nodup g).filter _) hoff

theorem withTarget_queueLaw {a : TargetArgs} {k : List Ch → State × Reply} (h : QueueLaw s)
    (hk : ∀ l, QueueLaw (k l).1) : QueueLaw (withTarget a s k).1 := by
  simp only [withTarget]
  split
  · exact withIndex_queueLaw h fun c => hk _
  · exact withIndex_queueLaw h fun g => hk _
  · exact h
  · exact h

theorem doChannelStop_queueLaw (a : TargetArgs) (h : QueueLaw s) : QueueLaw (doChannelStop a s).1 :=
  withTarget_queueLaw h fun l => forEach_keeps QueueLaw _ (gracefulStop_queueLaw .host) l s h

theorem doChannelCut_queueLaw (a : TargetArgs) (h : QueueLaw s) : QueueLaw (doChannelCut a s).1 :=
  withTarget_queueLaw h fun l => forEach_keeps QueueLaw _ (cut_queueLaw .host) l s h

theorem doChannelClear_queueLaw (x : Option Int) (h : QueueLaw s) : QueueLaw (doChannelClear x s).1 := by
  refine withIndex_queueLaw h fun c => ?_
  split
  · next hc =>
    refine h.of_view ((enterState_view ?_ (by decide)).trans (queueView_modCh _ _ _ Iff.rfl))
    simp [hc.1]
  · exact h

theorem storeChanCfg_view (c : Ch) (g : ChanCfg) (s : State) : queueView (storeChanCfg c g s) = queueView s := by
  obtain ⟨x, w, hu, -⟩ := storeChanCfg_spec c g s
  rw [hu]
  split
  · exact queueView_modCh s c (fun r => { r with shed := false }) Iff.rfl
  · rfl

theorem doChannelSet_queueLaw (x : Option Int) (a : ChannelSetArgs) (h : QueueLaw s) :
    QueueLaw (doChannelSet x a s).1 := by
  simp only [doChannelSet]
  split
  · exact h
  · refine withIndex_queueLaw h fun c => ?_
    split
    · exact h
    · split
      · exact h
      · exact h.of_view (storeChanCfg_view ..)

theorem doPolicySet_queueLaw (a : PolicyArgs) (h : QueueLaw s) : QueueLaw (doPolicySet a s).1 := by
  simp only [doPolicySet]
  split
  · exact h
  · refine h.of_view ((queueView_markEval _).trans (queueView_ite _ _ _ _ ?_ ?_)) <;> simp

theorem doAdmissionRead_queueLaw (x : Option Int) (h : QueueLaw s) : QueueLaw (doAdmissionRead x s).1 := by
  simp only [doAdmissionRead]
  split
  · exact h
  · split
    · exact h
    · split <;> exact h

theorem doBudgetRead_queueLaw (x : Option BudgetSel) (h : QueueLaw s) : QueueLaw (doBudgetRead x s).1 := by
  simp only [doBudgetRead]
  split <;> exact h

theorem doPlanWrite_queueLaw (a : PlanWriteArgs) (h : QueueLaw s) : QueueLaw (doPlanWrite a s).1 := by
  simp only [doPlanWrite]
  split
  · exact h
  · split
    · split
      · split
        · exact h
        · exact h.of_view (queueView_modCfg ..)
      · exact h.of_view (queueView_modCfg ..)
    · exact h

theorem doPlanRead_queueLaw (x : Option Int) (h : QueueLaw s) : QueueLaw (doPlanRead x s).1 := by
  simp only [doPlanRead]
  split
  · split <;> exact h
  · exact h

theorem doPlanStart_queueLaw (k : Option RunKind) (h : QueueLaw s) : QueueLaw (doPlanStart k s).1 := by
  simp only [doPlanStart]
  split
  · exact h
  · split
    · exact h
    · split
      · exact h
      · split
        · exact h
        · exact h.of_view (startRun_view ..)

theorem doPlanPause_queueLaw (h : QueueLaw s) : QueueLaw (doPlanPause s).1 := by
  simp only [doPlanPause]
  split
  · exact h
  · split
    · exact pauseRun_queueLaw .host h
    · exact pauseRun_queueLaw .host h
    · exact h.of_view (queueView_modRun ..)
    · exact h
    · exact h

theorem doPlanResume_queueLaw (h : QueueLaw s) : QueueLaw (doPlanResume s).1 := by
  simp only [doPlanResume]
  split
  · exact h
  · split
    · exact h
    · split
      · exact h
      · exact settle_queueLaw (h.of_view (resumeRun_view s))

theorem doPlanStop_queueLaw (h : QueueLaw s) : QueueLaw (doPlanStop s).1 := by
  simp only [doPlanStop]
  split
  · exact abortRun_queueLaw 2 h
  · exact h

theorem doPlanStatus_queueLaw (h : QueueLaw s) : QueueLaw (doPlanStatus s).1 := by
  simp only [doPlanStatus]
  split <;> exact h

/-! Shelf, source and restore (Chapters 4 to 6). -/

theorem doModuleRead_queueLaw (x y : Option Int) (h : QueueLaw s) : QueueLaw (doModuleRead x y s).1 := by
  simp only [doModuleRead]
  split
  · exact h
  · exact withIndex_queueLaw h fun _ => h
  · exact withIndex_queueLaw h fun _ => h
  · exact h

theorem doRectifierEnable_queueLaw (x : Option Int) (h : QueueLaw s) : QueueLaw (doRectifierEnable x s).1 := by
  refine withIndex_queueLaw h fun n => ?_
  have hset : QueueLaw (s.modRect n fun r => { r with enable := true }) := h.of_view (queueView_modRect ..)
  split
  · exact h
  · simp only [enableRect]
    split
    · exact handRect_queueLaw (hset.of_view (setRectState_view ..))
    · exact hset

theorem doRectifierDisable_queueLaw (x : Option Int) (h : QueueLaw s) : QueueLaw (doRectifierDisable x s).1 := by
  refine withIndex_queueLaw h fun n => ?_
  have hset : QueueLaw (s.modRect n fun r => { r with enable := false }) := h.of_view (queueView_modRect ..)
  split
  · exact h
  · split
    · exact h
    · simp only [disableRect]
      split
      · exact handRect_queueLaw (hset.of_view (setRectState_view ..))
      · exact hset

theorem doSourceRead_queueLaw (b : Bool) (h : QueueLaw s) : QueueLaw (doSourceRead b s).1 := by
  simp only [doSourceRead]
  split <;> exact h

theorem doRideSet_queueLaw (a : RideArgs) (h : QueueLaw s) : QueueLaw (doRideSet a s).1 := by
  have hstore : ∀ r, queueView (storeRide r s) = queueView s := fun r => by
    simp only [storeRide]
    split
    · simp
    · split <;> simp
    all_goals simp
  simp only [doRideSet]
  split
  · exact h
  · exact h.of_view (hstore _)

theorem doChargeSet_queueLaw (a : ChargeArgs) (h : QueueLaw s) : QueueLaw (doChargeSet a s).1 := by
  have hstore : ∀ g, queueView (storeCharge g s) = queueView s := fun g => by
    have hw : ∀ (p : Prop) [Decidable p] (t : State), queueView (if p then t else endSilence t) = queueView t :=
      fun p _ t => queueView_ite _ _ _ _ rfl (endSilence_view t)
    simp only [storeCharge]
    exact queueView_ite _ _ _ _ ((hw ..).trans (by simp)) ((setPolicy_view ..).trans ((hw ..).trans (by simp)))
  simp only [doChargeSet]
  split
  · exact h
  · exact h.of_view (hstore _)

theorem doRestore_queueLaw (t : Option TierArg) (h : QueueLaw s) : QueueLaw (doRestore t s).1 := by
  simp only [doRestore]
  split
  · exact h
  · split
    · exact forEach_place_queueLaw (fun _ _ => rfl) (eligibleInOrder_nodup s) (fun c hc => eligibleInOrder_off hc) h
    · exact h
  · split
    · exact h
    · split
      · exact forEach_place_queueLaw (fun _ _ => rfl) (eligibleOfTier_nodup s _)
          (fun c hc => by simp [(eligibleOfTier_spec hc).2]) h
      · exact h

/-! Zones, patterns, responses, override, valves and capture (Chapters 7 and 8). -/

theorem doLeakClear_queueLaw (x : Option Int) (h : QueueLaw s) : QueueLaw (doLeakClear x s).1 := by
  simp only [doLeakClear]
  refine withIndex_queueLaw h fun z => ?_
  split
  · exact h
  · split
    · exact h
    · split
      · exact h.of_view (clearZone_view z s)
      · exact h

theorem storeZone_view (z : Zone) (g : ZoneCfg) (en : Option Bool) (s : State) :
    queueView (storeZone z g en s) = queueView s := by
  simp only [storeZone]
  split <;> simp

theorem doZoneSet_queueLaw (a : ZoneArgs) (h : QueueLaw s) : QueueLaw (doZoneSet a s).1 := by
  have hscan : QueueLaw (storeScan a.scan s) := h.of_view (queueView_modCfg ..)
  simp only [doZoneSet]
  split
  · exact h
  · split
    · exact hscan
    · exact h
    · refine withIndex_queueLaw h fun z => ?_
      split
      · exact h
      · split
        · exact h
        · split
          · exact h
          · exact hscan.of_view (storeZone_view ..)

theorem doPatternSet_queueLaw (a : PatternArgs) (h : QueueLaw s) : QueueLaw (doPatternSet a s).1 := by
  simp only [doPatternSet]
  split
  · exact h
  · split
    · exact h
    · exact withIndex_queueLaw h fun n => h.of_view (queueView_modCfg ..)

theorem doZoneRead_queueLaw (x y : Option Int) (h : QueueLaw s) : QueueLaw (doZoneRead x y s).1 := by
  simp only [doZoneRead]
  split
  · exact h
  · exact withIndex_queueLaw h fun _ => h
  · exact withIndex_queueLaw h fun _ => h
  · exact h

theorem doResponseSet_queueLaw (a : ResponseArgs) (h : QueueLaw s) : QueueLaw (doResponseSet a s).1 := by
  have htravel : QueueLaw (storeTravel a.travel s) := h.of_view (queueView_modCfg ..)
  simp only [doResponseSet]
  split
  · exact h
  · split
    · exact htravel
    · exact h
    · refine withIndex_queueLaw h fun z => ?_
      split
      · exact h
      · exact htravel.of_view (queueView_modCfg ..)

theorem doOverridePrepare_queueLaw (p : Port) (x : Option Int) (h : QueueLaw s) :
    QueueLaw (doOverridePrepare p x s).1 := by
  refine withIndex_queueLaw h fun c => ?_
  split
  · exact h
  · exact h.of_view (queueView_modResp ..)

theorem doOverrideCommit_queueLaw (p : Port) (x : Option Int) (h : QueueLaw s) :
    QueueLaw (doOverrideCommit p x s).1 := by
  have hcancel : QueueLaw (cancelOverride p s) := h.of_view (cancelOverride_view p s)
  simp only [doOverrideCommit]
  split
  · exact hcancel
  · split
    · exact hcancel
    · simp only [commitOverride]
      split
      · exact h
      · split
        · exact h
        · split
          · exact hcancel
          · split
            · exact hcancel
            · exact hcancel.of_view ((queueView_raise ..).trans (queueView_modCh _ _ _ Iff.rfl))

theorem doValveClose_queueLaw (x : Option Int) (h : QueueLaw s) : QueueLaw (doValveClose x s).1 := by
  refine withIndex_queueLaw h fun v => h.of_view ?_
  simp only [closeByHost]
  split <;> simp

theorem doValveOpen_queueLaw (x : Option Int) (h : QueueLaw s) : QueueLaw (doValveOpen x s).1 := by
  refine withIndex_queueLaw h fun v => ?_
  split
  · refine h.of_view ?_
    simp only [openByHost]
    split <;> simp
  · exact h

theorem doValveRead_queueLaw (x : Option Int) (h : QueueLaw s) : QueueLaw (doValveRead x s).1 := by
  simp only [doValveRead]
  split
  · exact h
  · exact withIndex_queueLaw h fun _ => h

/-! Link, system and tallies (Chapters 9 and 10). -/

theorem doFetch_queueLaw (p : Port) (x : Option Int) (h : QueueLaw s) : QueueLaw (doFetch p x s).1 := by
  simp only [doFetch]
  split
  · exact h.of_view (queueView_modPort ..)
  · split
    · exact h.of_view (queueView_modPort ..)
    · exact h

theorem doRouteSet_queueLaw (a : RouteArgs) (h : QueueLaw s) : QueueLaw (doRouteSet a s).1 := by
  simp only [doRouteSet]
  split
  · exact h
  · exact h.of_view (queueView_modCfg ..)

theorem doStatusClear_queueLaw (g : Option GroupArg) (h : QueueLaw s) : QueueLaw (doStatusClear g s).1 := by
  simp only [doStatusClear]
  split
  · exact h
  · exact h.of_view (queueView_modLink ..)
  · exact h.of_view (queueView_modLink ..)

theorem doConfigSave_queueLaw (h : QueueLaw s) : QueueLaw (doConfigSave s).1 := by
  simp only [doConfigSave]
  split
  · exact h
  · exact h.of_view (queueView_setStore ..)
  · exact h.of_view (queueView_setStore ..)

theorem loadDefaults_view (s : State) : queueView (loadDefaults s) = queueView s := by
  let t := forEach allZones enableZone { (s.modCfg fun _ => defaultCfg) with cfgFrom := .defaults }
  let u := setPolicy defaultCfg.charge.policy (endSilence t)
  have ht : queueView t = queueView s := forEach_same queueView _ enableZone_view _ _
  have hu : queueView u = queueView t := (setPolicy_view ..).trans (endSilence_view t)
  refine Eq.trans ?_ (hu.trans ht)
  simp only [loadDefaults, queueView_raise, queueView_markEval]
  exact queueView_ite _ _ _ _ (queueView_markRide _) rfl

theorem doConfigDefaults_queueLaw (h : QueueLaw s) : QueueLaw (doConfigDefaults s).1 := by
  simp only [doConfigDefaults]
  split
  · exact h
  · split
    · exact h
    · split
      · exact h
      · dsimp only
        exact h.of_view (loadDefaults_view s)

theorem doTallySet_queueLaw (a : TallyArgs) (h : QueueLaw s) : QueueLaw (doTallySet a s).1 := by
  simp only [doTallySet]
  split
  · exact h
  · split
    · split
      · exact h
      · exact h.of_view (queueView_modTally ..)
    · exact h

theorem onCounter_queueLaw (x : Option Int) (f : CtrIx → Tally → Tally) (h : QueueLaw s) :
    QueueLaw (onCounter x s f).1 := by
  refine withIndex_queueLaw h fun c => ?_
  split
  · exact h
  · exact h.of_view (queueView_modTally ..)

theorem doTallyRead_queueLaw (x : Option Int) (h : QueueLaw s) : QueueLaw (doTallyRead x s).1 := by
  simp only [doTallyRead]
  split
  · exact withIndex_queueLaw h fun _ => h
  · exact h

/-- The block that owns a verb keeps the law; an event is no line. -/
theorem runCommand_queueLaw (i : Instr) (h : QueueLaw s) : QueueLaw (runCommand i s).1 := by
  cases i with
  | channelStart l a => exact doChannelStart_queueLaw a h
  | channelStartGang l a => exact doChannelStartGang_queueLaw a h
  | channelStop l a => exact doChannelStop_queueLaw a h
  | channelCut l a => exact doChannelCut_queueLaw a h
  | channelClear l c => exact doChannelClear_queueLaw c h
  | channelSet l c a => exact doChannelSet_queueLaw c a h
  | channelRead l c => exact withIndex_queueLaw h fun _ => h
  | policySet l a => exact doPolicySet_queueLaw a h
  | budgetRead l x => exact doBudgetRead_queueLaw x h
  | admissionRead l p => exact doAdmissionRead_queueLaw p h
  | planWrite l a => exact doPlanWrite_queueLaw a h
  | planRead l n => exact doPlanRead_queueLaw n h
  | planStart l k => exact doPlanStart_queueLaw k h
  | planPause l => exact doPlanPause_queueLaw h
  | planResume l => exact doPlanResume_queueLaw h
  | planStop l => exact doPlanStop_queueLaw h
  | planStatus l => exact doPlanStatus_queueLaw h
  | moduleRead l r b => exact doModuleRead_queueLaw r b h
  | rectifierEnable l r => exact doRectifierEnable_queueLaw r h
  | rectifierDisable l r => exact doRectifierDisable_queueLaw r h
  | sourceRead l x => exact doSourceRead_queueLaw x h
  | rideSet l a => exact doRideSet_queueLaw a h
  | chargeSet l a => exact doChargeSet_queueLaw a h
  | restore l t => exact doRestore_queueLaw t h
  | zoneSet l a => exact doZoneSet_queueLaw a h
  | zoneRead l z p => exact doZoneRead_queueLaw z p h
  | patternSet l a => exact doPatternSet_queueLaw a h
  | leakClear l z => exact doLeakClear_queueLaw z h
  | responseSet l a => exact doResponseSet_queueLaw a h
  | overridePrepare l c => exact doOverridePrepare_queueLaw l.port c h
  | overrideCommit l c => exact doOverrideCommit_queueLaw l.port c h
  | overrideLockout l | captureClear l => exact h.of_view (queueView_modResp ..)
  | valveClose l v => exact doValveClose_queueLaw v h
  | valveOpen l v => exact doValveOpen_queueLaw v h
  | valveRead l v => exact doValveRead_queueLaw v h
  | fetch l n => exact doFetch_queueLaw l.port n h
  | routeSet l a => exact doRouteSet_queueLaw a h
  | statusClear l g => exact doStatusClear_queueLaw g h
  | configSave l => exact doConfigSave_queueLaw h
  | configDefaults l => exact doConfigDefaults_queueLaw h
  | tallySet l a => exact doTallySet_queueLaw a h
  | tallyStart l c | tallyStop l c | tallyClear l c => exact onCounter_queueLaw c _ h
  | tallyRead l c => exact doTallyRead_queueLaw c h
  | _ => exact h

/-! ### Lines -/

theorem runLine_queueLaw (p : Port) (i : Instr) (h : QueueLaw s) : QueueLaw (runLine p i s).1 := by
  simp only [runLine]
  split
  · exact settle_queueLaw (runCommand_queueLaw i (h.of_view (lineAtOverride_view p i s)))
  · exact h.of_view (cancelOverride_view p s)

theorem runText_queueLaw (l : LineId) (t : List Char) (h : QueueLaw s) : QueueLaw (runText l t s).1 := by
  have hcancel : QueueLaw (cancelOverride l.port s) := h.of_view (cancelOverride_view l.port s)
  simp only [runText]
  split
  · exact hcancel
  · split
    · exact hcancel
    · split
      · split
        · exact hcancel
        · exact runLine_queueLaw _ _ h
      · exact hcancel

theorem takeHead_queueLaw (p : Port) (h : QueueLaw s) : QueueLaw (takeHead p s) := by
  simp only [takeHead]
  split
  · exact h
  · next b _ _ =>
    split
    · exact h
    · have hbody : QueueLaw (runBody p b s).1 := by
        simp only [runBody]
        split
        · exact runText_queueLaw _ _ h
        · exact runLine_queueLaw _ _ h
      refine hbody.of_view ?_
      simp only [handNotices]
      split <;> simp [placeOutput]

theorem receive_queueLaw (p : Port) (tag : List Char) (body : LineBody) (h : QueueLaw s) :
    QueueLaw (receive p tag body s) := by
  simp only [receive]
  split
  · exact h
  · exact h.of_view (queueView_modPort ..)
  · have hheard : QueueLaw (heard p s) := by
      cases p with
      | manager => exact settle_queueLaw (h.of_view (endSilence_view s))
      | service => exact h
    split
    · exact takeHead_queueLaw p (hheard.of_view (queueView_modPort ..))
    · refine hheard.of_view ?_
      simp only [receiveBusy]
      split <;> simp [answerBusy, placeOutput]

theorem lineEnds_queueLaw (p : Port) (t : List Char) (h : QueueLaw s) : QueueLaw (lineEnds p t s) := by
  have hrx : QueueLaw (s.modPort p fun c => { c with rx := [], overlong := false }) := h.of_view (queueView_modPort ..)
  have hdiscard : QueueLaw (discardLine p (s.modPort p fun c => { c with rx := [], overlong := false })) :=
    hrx.of_view ((queueView_count ..).trans (queueView_modPort ..))
  simp only [lineEnds]
  split
  · exact hdiscard
  · split
    · exact hrx
    · split
      · exact hdiscard
      · exact receive_queueLaw _ _ _ hrx

theorem outputSent_queueLaw (p : Port) (h : QueueLaw s) : QueueLaw (outputSent p s) := by
  simp only [outputSent]
  split
  · exact h
  · split
    · exact h.of_view (queueView_modPort ..)
    · simp only [itemSent]
      split
      · exact h.of_view (queueView_modPort ..)
      · exact takeHead_queueLaw p (h.of_view (by simp))

/-! ### The step -/

/-- An event keeps the law where its effect does: the hand-overs behind it do. -/
theorem event_queueLaw {f : State → State} {t : State} (hf : QueueLaw (f s)) (h : QueueLaw s)
    (he : event f s = .next t) : QueueLaw t := by
  cases he
  simp only [whenRunning]
  split
  · exact settle_queueLaw hf
  · exact h

theorem exec_queueLaw (i : Instr) {t : State} (h : QueueLaw s) (he : exec i s = .next t) : QueueLaw t := by
  cases i with
  | powerUp | powerLoss => cases he; exact blank_queueLaw ..
  | loadCompletion pins =>
    cases he
    split
    · exact settle_queueLaw (completeLoad_queueLaw pins s)
    · exact h
  | resetPin => exact event_queueLaw (warmReset_queueLaw ..) h he
  | resetResponseSent => exact event_queueLaw (beginCommandReset_queueLaw h) h he
  | channelSenseScan x =>
    refine event_queueLaw ?_ h he
    exact (senseScan_queueLaw x h).of_view (queueView_ite _ _ _ _ (by simp) (by simp))
  | powerGoodRise c => exact event_queueLaw (h.of_view (takePowerGoodRise_view c s)) h he
  | powerGoodFall c => exact event_queueLaw (h.of_view (takePowerGoodFall_view c s)) h he
  | trayFaultAsserted c => exact event_queueLaw (h.of_view (takeTrayFault_view c s)) h he
  | trayFaultReleased c => exact event_queueLaw (h.of_view (queueView_modCh _ _ _ Iff.rfl)) h he
  | rampTimerExpiry c => exact event_queueLaw (h.of_view (takeRampExpiry_view c s)) h he
  | warningTimerExpiry c => exact event_queueLaw (h.of_view (takeWarningExpiry_view c s)) h he
  | stopConfirmExpiry c => exact event_queueLaw (takeConfirmExpiry_queueLaw c s h) h he
  | splitSpacingExpiry => exact event_queueLaw (h.of_view (takeSpacingExpiry_view s)) h he
  | lateTimerExpiry => exact event_queueLaw (h.of_view (takeLateExpiry_view s)) h he
  | deficitGraceExpiry => exact event_queueLaw (takeGraceExpiry_queueLaw h) h he
  | gapTimerExpiry => exact event_queueLaw (h.of_view (takeGapExpiry_view s)) h he
  | roundTimerExpiry => exact event_queueLaw (h.of_view (takeRoundExpiry_view s)) h he
  | shelfResponse x => exact event_queueLaw (takeResponse_queueLaw x h) h he
  | responseTimeout => exact event_queueLaw (takeResponseTimeout_queueLaw h) h he
  | busSample mv => exact event_queueLaw (takeBusSample_queueLaw mv h) h he
  | debounceTimerExpiry => exact event_queueLaw (takeDebounceExpiry_queueLaw h) h he
  | qualifyExpiry => exact event_queueLaw (h.of_view (takeQualifyExpiry_view s)) h he
  | walkInExpiry => exact event_queueLaw (h.of_view (takeWalkInExpiry_view s)) h he
  | silenceTimerExpiry => exact event_queueLaw (h.of_view (takeSilenceExpiry_view s)) h he
  | leakScan x => exact event_queueLaw (takeLeakScan_queueLaw x h) h he
  | escalationTimerExpiry z => exact event_queueLaw (takeEscalation_queueLaw z h) h he
  | overrideWindowExpiry => exact event_queueLaw (h.of_view (queueView_modResp ..)) h he
  | closedContactPresent v => exact event_queueLaw (h.of_view (takeContact_view v .closed s)) h he
  | openContactPresent v => exact event_queueLaw (h.of_view (takeContact_view v .opened s)) h he
  | contactAbsent v e => exact event_queueLaw (h.of_view (dropContact_view v e s)) h he
  | travelTimerExpiry v => exact event_queueLaw (h.of_view (takeTravelExpiry_view v s)) h he
  | lineArrival p x =>
    cases he
    split
    · exact h
    · exact lineEnds_queueLaw p x h
  | outputLineSent p =>
    cases he
    split
    · exact settle_queueLaw (beginCommandReset_queueLaw h)
    · exact outputSent_queueLaw p h
  | saveCompletion => exact event_queueLaw (completeSave_queueLaw h) h he
  | _ => cases he; exact receive_queueLaw _ _ _ h

end

/-- Settles O58: a command keeps the law, as does an idle step, which only counts the time. -/
theorem everyStepKeepsTheQueueLaw : Obligations.EveryStepKeepsTheQueueLaw := by
  intro s t h hstep
  rw [step] at hstep
  split at hstep
  · next i rest _ => exact exec_queueLaw i (h.of_view (queueView_pending s rest)) hstep
  · cases hstep
    simp only [idle]
    split <;> exact h

end Sys2Proof.Machine
end

section
/-! The laws of the manual at reset (R35, R128, R160, R177, R185). -/

namespace Sys2Proof.Machine

/-- The factory defaults lie in their ranges (R185). -/
theorem defaultCfg_inRange : defaultCfg.inRange := by
  refine ⟨fun c => ?_, fun n => ?_, ?_, ?_, ?_, fun z => ?_, ?_, ?_, ?_, ?_⟩
  · have hc : defaultCfg.chan[c] = defaultChan := by simp [defaultCfg]
    rw [hc]
    simp [ChanCfg.inRange, defaultChan]
  · have hn : defaultCfg.steps[n] = defaultStep := by simp [defaultCfg]
    rw [hn]
    decide
  · simp [PolicyCfg.inRange, defaultCfg, defaultPolicy]
  · simp [RideCfg.inRange, defaultCfg, defaultRide]
  · simp [ChargeCfg.inRange, defaultCfg, defaultCharge]
  · have hz : defaultCfg.zone[z] = defaultZone := by simp [defaultCfg]
    rw [hz]
    simp [ZoneCfg.inRange, defaultZone]
  all_goals decide

/-- Settles O57: an empty queue with every channel OFF, empty report queues, valves without a demand, the factory
defaults, and silence stage 0 with the configured policy. -/
theorem lawsHoldAtReset : Obligations.LawsHoldAtReset := by
  refine ⟨queueLaw_of_empty rfl fun c => ?_, fun p => ?_, fun v => ?_, ⟨defaultCfg_inRange, trivial⟩, by decide, rfl⟩
  · simp [State.reset, State.ch, Channel.cold]
  · cases p <;> exact ⟨by decide, rfl⟩
  · simp [State.reset, Response.cold, Valve.cold, Valve.demanded]

end Sys2Proof.Machine
end

section
/-! The split spacing, late and gap timers (R40, R41, R54). -/

namespace Sys2Proof.Machine

section
variable {s : State}

theorem takeSpacingExpiry_stopped (h : s.budget.spacing = none) : takeSpacingExpiry s = s := if_neg (by simp [h])

theorem takeSpacingExpiry_running (h : s.budget.spacing.isSome) :
    takeSpacingExpiry s =
      { s with budget := { s.budget with spacing := none }, work := { s.work with exam := true } } := if_pos h

/-! ### The late timer -/

theorem lateCheck_reported (h : s.budget.queue = [] ∨ ∃ e q, s.budget.queue = e :: q ∧ e.lateReported = true) :
    lateCheck s = s := by
  rcases h with h | ⟨e, q, h, hr⟩ <;> simp [lateCheck, *]

theorem lateCheck_unreported {e : Entry} {q : List Entry} (h : s.budget.queue = e :: q) (hr : e.lateReported = false) :
    lateCheck s =
      (raise .admissionLate (some e.subject.1) (some e.subject.2) (some (s.waited e)) s).modBudget
        fun b => { b with queue := { e with lateReported := true } :: q } := by
  simp [lateCheck, h, hr]

theorem takeLateExpiry_stopped (h : s.budget.late = none) : takeLateExpiry s = s := if_neg (by simp [h])

theorem takeLateExpiry_running (h : s.budget.late.isSome) :
    takeLateExpiry s = lateCheck (s.modBudget fun b => { b with late := none }) := if_pos h

theorem Entry.subject_single {e : Entry} {c : Ch} (h : e.name = .single c) : e.subject = (c.val, 0) := by
  simp only [Entry.subject, h]

theorem Entry.subject_gang {e : Entry} {g : Gang} {ms : List Ch} (h : e.name = .gang g ms) : e.subject = (g.val, 1) := by
  simp only [Entry.subject, h]

/-- The late timer finds a head that is not yet reported (R41). -/
theorem takeLateExpiry_unreported {e : Entry} {q : List Entry} (hl : s.budget.late.isSome)
    (h : s.budget.queue = e :: q) (hr : e.lateReported = false) :
    ∃ k t, takeLateExpiry s =
        { s with
          budget := { s.budget with late := none, queue := { e with lateReported := true } :: q }
          link := k, tally := t } ∧
      Reports .admissionLate (some e.subject.1) (some e.subject.2) (some (msBetween e.joined s.now)) s
        { s with link := k, tally := t } := by
  let d := s.modBudget fun b => { b with late := none }
  have hc := raise_congr .admissionLate (some e.subject.1) (some e.subject.2) (some (msBetween e.joined s.now))
    (s := d) (t := s) rfl rfl rfl rfl
  refine ⟨_, _, ?_, hc⟩
  rw [takeLateExpiry_running hl, lateCheck_unreported (s := d) h hr, raise_spec]
  rfl

/-! ### The gap timer -/

theorem takeGapExpiry_idle (h : s.run = none) : takeGapExpiry s = s := by simp only [takeGapExpiry, h]

theorem takeGapExpiry_stopped {r : Run} (h : s.run = some r) (hg : r.gap = none ∨ r.state ≠ .running ∨ r.phase ≠ .gap) :
    takeGapExpiry s = s := by
  have hn : ¬ (r.state = .running ∧ r.phase = .gap ∧ r.gap.isSome) := by
    rintro ⟨h1, h2, h3⟩
    rcases hg with e | e | e
    · simp [e] at h3
    · exact e h1
    · exact e h2
  simp only [takeGapExpiry, h, if_neg hn]

theorem takeGapExpiry_running {r : Run} (h : s.run = some r) (hg : r.gap.isSome) (hs : r.state = .running)
    (hp : r.phase = .gap) :
    takeGapExpiry s =
      { s with
        run := some { r with phase := .step, cursor := r.cursor + 1, gap := none, gapLeft := 0 }
        work := { s.work with plan := .exec } } := by
  simp only [takeGapExpiry, h, hs, hp, hg, and_self, if_true, markPlan, State.modRun, State.modWork, Option.map_some]

end

/-- Settles O14: each of the three timers, running and stopped. -/
theorem spacingLateAndGapExpiries : Obligations.SpacingLateAndGapExpiries := by
  refine ⟨fun s hp => ⟨fun h => .of_event_eq rfl hp (takeSpacingExpiry_stopped h),
      fun h => .of_event_eq rfl hp (takeSpacingExpiry_running h)⟩,
    fun s hp => ⟨fun h => .of_event_eq rfl hp (takeLateExpiry_stopped h), fun hl h => ?_, fun e q hl h hr => ?_⟩,
    fun s hp => ⟨fun h => .of_event_eq rfl hp (takeGapExpiry_idle h), fun r h =>
      ⟨fun hg => .of_event_eq rfl hp (takeGapExpiry_stopped h hg),
        fun hg hs hph => .of_event_eq rfl hp (takeGapExpiry_running h hg hs hph)⟩⟩⟩
  · exact .of_event_eq rfl hp ((takeLateExpiry_running hl).trans (lateCheck_reported h))
  · obtain ⟨k, t, hu, hrep⟩ := takeLateExpiry_unreported hl h hr
    refine ⟨_, .of_event_eq rfl hp hu, rfl, ?_, rfl, rfl, rfl, rfl, rfl, rfl,
      ⟨rfl, rfl, rfl, rfl, rfl, rfl, rfl, rfl, rfl, rfl⟩⟩
    cases hn : e.name with
    | single c => rwa [Entry.subject_single hn] at hrep
    | gang g ms => rwa [Entry.subject_gang hn] at hrep

end Sys2Proof.Machine
end

section
/-! What a new head, a head that leaves and a changed late time do (R40, R41), each said once. -/

namespace Sys2Proof.Machine

/-- The check of the late timer changes the head's mark, the ports, the condition summary and the tallies alone. -/
theorem lateCheck_spec (s : State) :
    ∃ q k t, lateCheck s = { s with budget := { s.budget with queue := q }, link := k, tally := t } := by
  simp only [lateCheck]
  split
  · exact ⟨_, _, _, rfl⟩
  · split
    · exact ⟨_, _, _, rfl⟩
    · rw [raise_spec]
      exact ⟨_, _, _, rfl⟩

/-- Watching the head changes the late timer and what the check changes. -/
theorem watchHead_spec (s : State) :
    ∃ q x k t, watchHead s = { s with budget := { s.budget with queue := q, late := x }, link := k, tally := t } := by
  simp only [watchHead]
  split
  · exact ⟨_, _, _, _, rfl⟩
  · split
    · exact ⟨_, _, _, _, rfl⟩
    · obtain ⟨q, k, t, h⟩ := lateCheck_spec (s.modBudget fun b => { b with late := none })
      exact ⟨q, none, k, t, h⟩

theorem headGone_nil {s : State} (h : s.budget.queue = []) :
    headGone s = s.modBudget fun b => { b with late := none, spacing := none } := by simp only [headGone, h]

theorem headGone_cons {s : State} (h : s.budget.queue ≠ []) : headGone s = watchHead s := by
  obtain ⟨e, q, hq⟩ := List.exists_cons_of_ne_nil h
  simp only [headGone, hq]

end Sys2Proof.Machine
end

section
/-! POLICY SET (R47). -/

namespace Sys2Proof.Machine

/-- Stored policy settings leave an evaluation due, and a changed late time acts on the head's late timer (R41). -/
theorem storePolicy_spec (p : PolicyCfg) (s : State) :
    ∃ q x k t, storePolicy p s = { s with
        cfg := { s.cfg with policy := p }
        budget := { s.budget with queue := q, late := x }, link := k, tally := t
        work := { s.work with eval := true } } ∧
      queuedChans q = queuedChans s.budget.queue := by
  let u := s.modCfg fun w => { w with policy := p }
  by_cases hl : p.late = s.cfg.policy.late
  · exact ⟨_, _, _, _, by simp only [storePolicy, if_pos hl]; rfl, rfl⟩
  · obtain ⟨q, x, k, t, h⟩ := watchHead_spec u
    have hq := watchHead_queued u
    rw [h] at hq
    exact ⟨q, x, k, t, by simp only [storePolicy, if_neg hl]; exact congrArg markEval h, hq⟩

theorem policyAdjusts_iff (a : PolicyArgs) :
    policyAdjusts a = true ↔ clamps 0 2 a.k = true ∨ clamps 0 25 a.guard = true ∨ clamps 0 60000 a.inrush = true ∨
      clamps 0 10000 a.grace = true ∨ clamps 1000 600000 a.late = true ∨ clamps 0 5000 a.spacing = true := by
  simp only [policyAdjusts, Bool.or_eq_true, or_assoc]

/-- Settles O39: the refusal without a setting, and the settings stored. -/
theorem policySetStoresClampedSettings : Obligations.PolicySetStoresClampedSettings := by
  intro l a s h
  refine ⟨fun h0 => .of_runCommand rfl h (if_pos h0), fun h0 => ?_⟩
  let f := found l (.policySet l a) s
  obtain ⟨q, x, k, t, hu, hq⟩ := storePolicy_spec (applyPolicy a f.cfg.policy) f
  have hrun : doPolicySet a f =
      (storePolicy (applyPolicy a f.cfg.policy) f,
        setReplyBare (policyAdjusts a) (policyFields (applyPolicy a f.cfg.policy))) := if_neg h0
  refine ⟨_, _, .of_runCommand rfl h (hrun.trans (by rw [hu])), ?_, ?_, ?_, rfl, ?_, ?_, ?_, ?_, ?_, ?_⟩
  · rw [setReplyBare_status]; split <;> simp
  · rw [setReplyBare_status, ← policyAdjusts_iff]; split <;> simp_all
  · simp [f, applyPolicy]
  · simp [f]
  · simp [f]
  · simp [f]
  · exact (found_sameRest ..).store
  · simp [f]
  · simpa [f] using hq

end Sys2Proof.Machine
end

section
/-! The deficit grace timer (R45, R46). -/

namespace Sys2Proof.Machine

section
variable {s : State}

/-! ### The tier that is shed -/

theorem mem_tierLive {t : Nat} {c : Ch} :
    c ∈ tierLive s t ↔ (s.chCfg c).tier.val = t ∧ ((s.ch c).state = .ramping ∨ (s.ch c).state = .on) := by
  simp [tierLive, allCh]

theorem tierLive_nodup (s : State) (t : Nat) : (tierLive s t).Nodup := (List.nodup_finRange 24).filter _

theorem tierLive_eq_nil {t : Nat} : tierLive s t = [] ↔
    ∀ c, (s.chCfg c).tier.val = t → (s.ch c).state ≠ .ramping ∧ (s.ch c).state ≠ .on := by
  simp only [List.eq_nil_iff_forall_not_mem, mem_tierLive, not_and, not_or, Ne]

theorem tierToShed_none (h : ∀ c, (s.chCfg c).tier ≠ 0 → (s.ch c).state ≠ .ramping ∧ (s.ch c).state ≠ .on) :
    tierToShed s = none := by
  have hnil : ∀ t ∈ [3, 2, 1], tierLive s t = [] := fun t ht =>
    tierLive_eq_nil.mpr fun c hc => h c fun e => by
      rw [e] at hc
      subst hc
      exact absurd ht (by decide)
  simpa [tierToShed] using hnil

/-- The highest tier with a live channel is selected (R45). -/
theorem tierToShed_some {t : Tier} (h0 : t ≠ 0) (hlive : tierLive s t.val ≠ [])
    (habove : ∀ k, t.val < k → tierLive s k = []) : tierToShed s = some t.val := by
  have hsel : ∀ k, t.val < k → (!(tierLive s k).isEmpty) = false := fun k hk => by simp [habove k hk]
  have ht : (!(tierLive s t.val).isEmpty) = true := by simpa using hlive
  obtain ⟨n, hn⟩ := t
  interval_cases n
  · exact absurd rfl h0
  · simp only [tierToShed, List.find?, hsel 3 (by simp), hsel 2 (by simp), ht]
  · simp only [tierToShed, List.find?, hsel 3 (by simp), ht]
  · simp only [tierToShed, List.find?, ht]

/-! ### The expiry by case -/

theorem takeGraceExpiry_stopped (h : s.budget.grace = none) : takeGraceExpiry s = s := if_neg (by simp [h])

theorem takeGraceExpiry_inflight (h : s.budget.grace.isSome) (hi : s.budget.inflight ≠ []) :
    takeGraceExpiry s = restartGrace s := by
  rw [takeGraceExpiry, if_pos h, if_neg (by simpa using hi)]

theorem takeGraceExpiry_none (h : s.budget.grace.isSome) (hi : s.budget.inflight = []) (ht : tierToShed s = none) :
    takeGraceExpiry s = restartGrace (reportDeficit s) := by
  simp only [takeGraceExpiry, h, hi, ht, List.isEmpty_nil, if_true]

theorem takeGraceExpiry_sheds {t : Nat} (h : s.budget.grace.isSome) (hi : s.budget.inflight = [])
    (ht : tierToShed s = some t) : takeGraceExpiry s = restartGrace (shedTier t s) := by
  simp only [takeGraceExpiry, h, hi, ht, List.isEmpty_nil, if_true]

theorem raise_sameRest (k : ReportKind) (a b c : Option Nat) (s : State) : SameRest s (raise k a b c s) :=
  .of_fixed (raise_fixed ..) (by simp only [aside, raise_shelf, raise_orders])

/-- BUDGET DEFICIT is raised where it has not been raised for this deficit (R46). -/
theorem reportDeficit_spec (s : State) :
    ∃ k t, reportDeficit s = { s with budget := { s.budget with reported := true }, link := k, tally := t } ∧
      (s.budget.reported = true → Silent s { s with link := k, tally := t }) ∧
      (s.budget.reported = false →
        Reports .budgetDeficit none (some (-s.budget.figs.m).toNat) (some s.budget.figs.firm) s
          { s with link := k, tally := t }) := by
  cases hr : s.budget.reported with
  | true =>
    refine ⟨s.link, s.tally, ?_, fun _ => ⟨rfl, rfl⟩, fun e => by cases e⟩
    rw [reportDeficit, if_pos hr, ← hr]
  | false =>
    refine ⟨_, _, ?_, fun e => (by cases e), fun _ => ⟨rfl, rfl⟩⟩
    rw [reportDeficit, if_neg (by simp [hr]), raise_spec]
    rfl

/-! ### One channel that is shed -/

theorem Channel.shed_ramping {r : Channel} (h : r.state = .ramping) (now : Stamp) (w : Nat) :
    (r.marked .deficit).stopped now w = { r.switchedOff now with shed := true } := by
  simp only [Channel.marked, h, Channel.stopped, Channel.switchedOff, or_true, if_true]

/-- A warning time of 0 that expires in the same step switches the channel off (R13). -/
theorem Channel.shed_on_at_once {r : Channel} (h : r.state = .on) (now : Stamp) :
    (r.marked .deficit).stopped now 0 = { r.switchedOff now with shed := true, warn := none } := by
  simp only [Channel.marked, h, Channel.stopped, Channel.switchedOff, true_or, if_true]

theorem Channel.shed_on {r : Channel} (h : r.state = .on) (now : Stamp) {w : Nat} (hw : w ≠ 0) :
    (r.marked .deficit).stopped now w =
      { r with state := .warning, since := now, shed := true, warn := some ⟨now, w⟩ } := by
  simp only [Channel.marked, h, Channel.stopped, true_or, if_true, if_neg hw]

theorem gracefulStop_source {w : StopCause} (hw : w ≠ .leak) (c : Ch) (s : State) :
    (gracefulStop w c s).source = s.source := by
  have hm := markForStop_source c w s
  rw [if_neg hw] at hm
  simp only [gracefulStop]
  split <;> simp only [startWarning_source, withdraw_source, switchOff_source, hm]

/-- A graceful stop of a live channel changes the budget's in-flight set alone, and there only the channel itself. -/
theorem gracefulStop_live_budget (w : StopCause) {c : Ch} (h : (s.ch c).state = .ramping ∨ (s.ch c).state = .on) :
    ∃ i, (gracefulStop w c s).budget = { s.budget with inflight := i } ∧
      ∀ d, d ≠ c → d ∈ s.budget.inflight → d ∈ i := by
  have hb := (markForStop_fields c w s).2.2.2
  have hc : ((markForStop c w s).ch c).state = (s.ch c).state := by
    rw [markForStop_ch, if_pos rfl, Channel.marked_state]
  have hafter : ∀ t : State, ∀ d, d ≠ c → d ∈ t.budget.inflight → d ∈ inflightAfter c t := by
    intro t d hd hm
    simp only [inflightAfter]
    split
    · exact (mem_setErase c d _).mpr ⟨hd, hm⟩
    · exact hm
  rcases h with h | h
  · have hu : gracefulStop w c s = switchOff c (markForStop c w s) := by simp only [gracefulStop, h]
    refine ⟨_, by rw [hu, switchOff_budget, hb], fun d hd hm => hafter _ d hd (by rwa [hb])⟩
  · let t := (markForStop c w s).modCh c fun r =>
      { r with warn := some ((markForStop c w s).timer (warningTime (markForStop c w s) c)) }
    let v := enterState c .warning t
    have hv : v.budget = { s.budget with inflight := inflightAfter c t } := by
      show (enterState c .warning t).budget = _
      rw [enterState_budget, State.modCh_budget, hb]
    have hvm : ∀ d, d ≠ c → d ∈ s.budget.inflight → d ∈ v.budget.inflight := fun d hd hm => by
      rw [hv]
      exact hafter t d hd (by rw [State.modCh_budget, hb]; exact hm)
    have hu : gracefulStop w c s =
        if warningTime (markForStop c w s) c = 0 then takeWarningExpiry c v else v := by
      simp only [gracefulStop, h]
      rfl
    rw [hu]
    split
    · simp only [takeWarningExpiry]
      split
      · exact ⟨_, by rw [switchOff_budget, hv], fun d hd hm => hafter v d hd (hvm d hd hm)⟩
      · exact ⟨_, by rw [hv], fun d hd hm => by simpa [hv] using hvm d hd hm⟩
    · exact ⟨_, by rw [hv], fun d hd hm => by simpa [hv] using hvm d hd hm⟩

theorem shedForDeficit_ch (c d : Ch) (s : State) :
    (shedForDeficit c s).ch d =
      if d = c then ((s.ch c).marked .deficit).stopped s.now (warningTime s c) else s.ch d := by
  rw [← gracefulStop_ch]
  simp only [shedForDeficit, count_ch]
  split <;> rfl

theorem shedForDeficit_source (c : Ch) (s : State) : (shedForDeficit c s).source = s.source := by
  rw [← gracefulStop_source (w := .deficit) (by decide) c s]
  simp only [shedForDeficit, count_source]
  split <;> rfl

theorem shedForDeficit_aside (c : Ch) (s : State) : aside (shedForDeficit c s) = aside s := by
  rw [← gracefulStop_aside .deficit c s]
  simp only [shedForDeficit]
  split <;> rfl

theorem forEach_shedForDeficit_ch {l : List Ch} (hl : l.Nodup) (s : State) (d : Ch) :
    (forEach l shedForDeficit s).ch d =
      if d ∈ l then ((s.ch d).marked .deficit).stopped s.now (warningTime s d) else s.ch d :=
  forEach_ch shedForDeficit
    (fun now cfg st c r => (r.marked .deficit).stopped now
      (if st = .ride then min cfg.chan[c].warn cfg.ride.cap else cfg.chan[c].warn))
    (fun c t => ⟨congrArg Fixed.now (shedForDeficit_fixed c t), congrArg Fixed.cfg (shedForDeficit_fixed c t),
      by rw [shedForDeficit_source]⟩)
    shedForDeficit_ch l hl s d

/-- A live channel that is shed leaves the queue and its timers alone and, where it is then WARNING, is in flight (R45). -/
theorem shedForDeficit_budget {c : Ch} (h : (s.ch c).state = .ramping ∨ (s.ch c).state = .on) :
    ∃ i, (shedForDeficit c s).budget = { s.budget with inflight := i } ∧
      (∀ d, d ≠ c → d ∈ s.budget.inflight → d ∈ i) ∧ (((shedForDeficit c s).ch c).state = .warning → c ∈ i) := by
  obtain ⟨i, hb, hi⟩ := gracefulStop_live_budget .deficit h
  by_cases hw : ((gracefulStop .deficit c s).ch c).state = .warning
  · have hu : shedForDeficit c s = count .channelsShed
        ((gracefulStop .deficit c s).modBudget fun b => { b with inflight := setInsert c b.inflight }) := by
      simp only [shedForDeficit, if_pos hw]
    rw [hu]
    refine ⟨setInsert c i, by rw [count_budget, State.modBudget_budget, hb], fun d hd hm => ?_, fun _ => ?_⟩
    · exact (mem_setInsert c d i).mpr (.inr (hi d hd hm))
    · exact (mem_setInsert c c i).mpr (.inl rfl)
  · have hu : shedForDeficit c s = count .channelsShed (gracefulStop .deficit c s) := by
      simp only [shedForDeficit, if_neg hw]
    rw [hu]
    exact ⟨i, by rw [count_budget, hb], hi, fun e => absurd e hw⟩

/-- Live channels that are shed one after the other: those that are then WARNING are in flight together (R45). -/
theorem forEach_shedForDeficit_budget {l : List Ch} (hl : l.Nodup)
    (h : ∀ c ∈ l, (s.ch c).state = .ramping ∨ (s.ch c).state = .on) :
    ∃ i, (forEach l shedForDeficit s).budget = { s.budget with inflight := i } ∧
      (∀ d, d ∉ l → d ∈ s.budget.inflight → d ∈ i) ∧
      ∀ c ∈ l, ((forEach l shedForDeficit s).ch c).state = .warning → c ∈ i := by
  induction l generalizing s with
  | nil => exact ⟨_, rfl, fun d _ hm => hm, fun c hc => absurd hc List.not_mem_nil⟩
  | cons a l ih =>
    obtain ⟨ha, hl'⟩ := List.nodup_cons.mp hl
    obtain ⟨j, hbj, hj, hwj⟩ := shedForDeficit_budget (h a (List.mem_cons_self ..))
    obtain ⟨i, hbi, hi, hwi⟩ := ih (s := shedForDeficit a s) hl' fun c hc => by
      rw [shedForDeficit_ch, if_neg (fun e : c = a => ha (e ▸ hc))]
      exact h c (List.mem_cons_of_mem a hc)
    refine ⟨i, hbi.trans (by rw [hbj]), fun d hd hm => ?_, fun c hc hw => ?_⟩
    · obtain ⟨hda, hdl⟩ := not_or.mp (mt List.mem_cons.mpr hd)
      exact hi d hdl (by rw [hbj]; exact hj d hda hm)
    · rcases List.mem_cons.mp hc with rfl | hc
      · have hsame : (forEach l shedForDeficit (shedForDeficit c s)).ch c = (shedForDeficit c s).ch c := by
          rw [forEach_shedForDeficit_ch hl', if_neg ha]
        refine hi c ha ?_
        rw [hbj]
        exact hwj (by rw [← hsame]; exact hw)
      · exact hwi c hc hw

end

/-- Settles O15: the restart, the report without a tier, and the shedding of the highest one. -/
theorem graceExpiryShedsTheHighestTier : Obligations.GraceExpiryShedsTheHighestTier := by
  intro s hp
  refine ⟨fun h => .of_event_eq rfl hp (takeGraceExpiry_stopped h), fun h hi => ?_, fun h hi hno => ?_,
    fun t h0 h hi hlive habove => ?_⟩
  · exact .of_event_eq rfl hp (takeGraceExpiry_inflight h hi)
  · obtain ⟨k, t, hu, hsilent, hreport⟩ := reportDeficit_spec s
    refine ⟨_, .of_event_eq rfl hp (takeGraceExpiry_none h hi (tierToShed_none hno)), ?_⟩
    rw [hu]
    exact ⟨rfl, hsilent, hreport, rfl, rfl, rfl, rfl, rfl, rfl, ⟨rfl, rfl, rfl, rfl, rfl, rfl, rfl, rfl, rfl, rfl⟩⟩
  · have hmem : ∀ c, c ∈ tierLive s t.val ↔
        (s.chCfg c).tier = t ∧ ((s.ch c).state = .ramping ∨ (s.ch c).state = .on) := fun c => by
      rw [mem_tierLive, Fin.val_inj]
    have htier : tierToShed s = some t.val := by
      refine tierToShed_some h0 (fun e => ?_) fun k hk => ?_
      · obtain ⟨c, hc⟩ := hlive
        exact absurd ((hmem c).mpr hc) (by simp [e])
      · exact tierLive_eq_nil.mpr fun c hc => habove c (by rw [Fin.lt_def, hc]; exact hk)
    let v := forEach (tierLive s t.val) shedForDeficit s
    have hch : ∀ c, (shedTier t.val s).ch c = v.ch c := fun c => raise_ch ..
    have hv := forEach_shedForDeficit_ch (tierLive_nodup s t.val) s
    obtain ⟨i, hbudget, -, hflight⟩ :=
      forEach_shedForDeficit_budget (tierLive_nodup s t.val) fun c hc => ((hmem c).mp hc).2
    obtain ⟨hsource, hresp, hshelf, hrest⟩ :=
      forEach_frame shedForDeficit_fixed shedForDeficit_aside shedForDeficit_source (tierLive s t.val) s
    have hub : (shedTier t.val s).budget = { s.budget with inflight := i } := (raise_budget ..).trans hbudget
    have hnow : (shedTier t.val s).now = s.now := (raise_now ..).trans hrest.now
    have hcfg : (shedTier t.val s).cfg = s.cfg := (raise_cfg ..).trans hrest.cfg
    have hshed : ∀ c, (s.chCfg c).tier = t → ((s.ch c).state = .ramping ∨ (s.ch c).state = .on) →
        (restartGrace (shedTier t.val s)).ch c = ((s.ch c).marked .deficit).stopped s.now (warningTime s c) :=
      fun c hc hs => (hch c).trans ((hv c).trans (if_pos ((hmem c).mpr ⟨hc, hs⟩)))
    refine ⟨restartGrace (shedTier t.val s), .of_event_eq rfl hp (takeGraceExpiry_sheds h hi htier), ?_, ?_,
      fun c hc hs => (hshed c hc (.inl hs)).trans (Channel.shed_ramping hs ..), fun c hc hs => ?_, fun c hc => ?_,
      (congrArg Budget.queue hub :), (raise_shelf ..).trans hshelf, (raise_resp ..).trans hresp,
      (raise_source ..).trans hsource, ?_⟩
    · show some ((shedTier t.val s).timer _) = _
      rw [State.timer, hnow, hcfg]
    · show (shedTier t.val s).link.flags.budget = true
      rw [shedTier, raise_flags]
      rfl
    · have hon := hshed c hc (.inr hs)
      show if warningTime s c = 0 then _ else _
      split
      next hw => rw [hon, hw, Channel.shed_on_at_once hs]
      next hw =>
        have hwarn := hon.trans (Channel.shed_on hs s.now hw)
        refine ⟨hwarn, ?_⟩
        show c ∈ (shedTier t.val s).budget.inflight
        rw [hub]
        exact hflight c ((hmem c).mpr ⟨hc, .inr hs⟩) (by rw [← hch c]; exact congrArg Channel.state hwarn)
    · have hout : c ∉ tierLive s t.val := fun hm =>
        have ⟨ht, hs⟩ := (hmem c).mp hm
        hc.elim (· ht) fun hn => hs.elim hn.1 hn.2
      exact (hch c).trans ((hv c).trans (if_neg hout))
    · exact hrest.trans ((raise_sameRest ..).trans (.of_fixed rfl rfl))

end Sys2Proof.Machine
end

section
/-! The rack leaves GRID: what the Sequence Engine and the admission queue make of it (R43, R63, R64). -/

namespace Sys2Proof.Machine

section
variable {s : State} {c d : Ch} {l : List Ch} {w : Withdrawal}

/-! ### Withdrawals and the run -/

/-- A head that leaves changes the budget, the ports, the condition summary and the tallies alone. -/
theorem headGone_spec (s : State) : ∃ b k t, headGone s = { s with budget := b, link := k, tally := t } := by
  by_cases h : s.budget.queue = []
  · exact ⟨_, s.link, s.tally, headGone_nil h⟩
  · obtain ⟨q, x, k, t, hw⟩ := watchHead_spec s
    exact ⟨_, k, t, (headGone_cons h).trans hw⟩

theorem dropFromQueue_spec (c : Ch) (s : State) :
    ∃ b k t, dropFromQueue c s = { s with budget := b, link := k, tally := t } := by
  simp only [dropFromQueue]
  split
  · exact ⟨s.budget, s.link, s.tally, rfl⟩
  · next e q _ =>
    split
    · exact ⟨_, s.link, s.tally, rfl⟩
    · obtain ⟨b, k, t, h⟩ := headGone_spec (s.modBudget fun b => { b with queue := (e :: q).filterMap (Entry.drop c) })
      exact ⟨b, k, t, h⟩

theorem dropFromQueue_nil (h : s.budget.queue = []) : dropFromQueue c s = s := by simp only [dropFromQueue, h]

/-- The run, if there is one, waits for no member of a START step. -/
def NoneOutstanding (s : State) : Prop := ∀ r : Run, s.run = some r → r.outstanding = []

theorem noticeWithdrawn_idle (h : NoneOutstanding s) : noticeWithdrawn c w s = s := by
  simp only [noticeWithdrawn]
  split
  · next r hr => rw [if_neg (by simp [h r hr])]
  · rfl

theorem memberLeft_work (s : State) : ∃ p, (memberLeft s).work = { s.work with plan := p } := by
  simp only [memberLeft]
  split
  · split
    · exact ⟨_, rfl⟩
    · exact ⟨_, rfl⟩
  · exact ⟨_, rfl⟩

theorem skipMember_work (c : Ch) (n : Nat) (s : State) : (skipMember c n s).work = s.work := by
  simp only [skipMember]
  split <;> simp

theorem noticeWithdrawn_work (c : Ch) (w : Withdrawal) (s : State) :
    ∃ p, (noticeWithdrawn c w s).work = { s.work with plan := p } := by
  simp only [noticeWithdrawn]
  split
  · split
    · let v := s.modRun fun r => { r with outstanding := setErase c r.outstanding }
      have hskip : ∀ b : Bool, (if b then skipMember c 4 v else v).work = s.work := fun b => by
        cases b
        · rfl
        · exact skipMember_work c 4 v
      obtain ⟨p, hp⟩ := memberLeft_work _
      exact ⟨p, hp.trans (by rw [hskip])⟩
    · exact ⟨_, rfl⟩
  · exact ⟨_, rfl⟩

/-- A withdrawal does not take back an evaluation that is due. -/
theorem withdraw_eval (h : s.work.eval = true) : (withdraw c w s).work.eval = true := by
  simp only [withdraw]
  split
  · obtain ⟨p, hp⟩ := noticeWithdrawn_work c w (enterState c .off (dropFromQueue c s))
    obtain ⟨q, hq⟩ := enterState_work c .off (dropFromQueue c s)
    rw [hp, hq]
  · exact h

/-- While no member is outstanding, a withdrawal leaves the run alone. -/
theorem withdraw_run (h : NoneOutstanding s) : (withdraw c w s).run = s.run := by
  simp only [withdraw]
  split
  · obtain ⟨b, k, t, hd⟩ := dropFromQueue_spec c s
    have hr : (enterState c .off (dropFromQueue c s)).run = s.run := by rw [enterState_run, hd]
    rw [noticeWithdrawn_idle (by rwa [NoneOutstanding, hr]), hr]
  · rfl

theorem forEach_withdraw_run (h : NoneOutstanding s) : (forEach l (fun c t => withdraw c w t) s).run = s.run :=
  forEach_keeps (fun t => t.run = s.run) _
    (fun _ _ ht => (withdraw_run (by rwa [NoneOutstanding, ht])).trans ht) l s rfl

/-- With an empty queue and no member outstanding a withdrawal is its channel's change of state (R15). -/
theorem withdraw_emptied (hq : s.budget.queue = []) (h : NoneOutstanding s) :
    withdraw c w s = if (s.ch c).state = .pending then enterState c .off s else s := by
  simp only [withdraw]
  split
  · rw [dropFromQueue_nil hq]
    exact noticeWithdrawn_idle (by rwa [NoneOutstanding, enterState_run])
  · rfl

/-! ### Withdrawals one after the other -/

/-- Each PENDING channel of the list is withdrawn once, however often the list names it. -/
theorem forEach_withdraw_ch (l : List Ch) (w : Withdrawal) (s : State) (d : Ch) :
    (forEach l (fun c t => withdraw c w t) s).ch d =
      if d ∈ l ∧ (s.ch d).state = .pending then (s.ch d).withdrawn s.now else s.ch d := by
  induction l generalizing s with
  | nil => rw [if_neg (by simp)]; rfl
  | cons c l ih =>
    have hnow : (withdraw c w s).now = s.now := congrArg Fixed.now (withdraw_fixed c w s)
    refine (ih (withdraw c w s)).trans ?_
    rw [withdraw_ch, hnow]
    by_cases hc : d = c
    · subst hc
      by_cases hp : (s.ch d).state = .pending <;> simp [hp, Channel.withdrawn]
    · simp [hc]

/-- A queued channel that is not on the list stays queued. -/
theorem forEach_withdraw_queued (hd : d ∉ l) (h : d ∈ queuedChans s.budget.queue) :
    d ∈ queuedChans (forEach l (fun c t => withdraw c w t) s).budget.queue := by
  induction l generalizing s with
  | nil => exact h
  | cons c l ih =>
    obtain ⟨hne, hdl⟩ := not_or.mp (mt List.mem_cons.mpr hd)
    refine ih hdl ?_
    rw [withdraw_queued]
    split
    · simpa [hne] using h
    · exact h

theorem foldl_drop_queued (hd : d ∉ l) {q : List Entry} (h : d ∈ queuedChans q) :
    d ∈ queuedChans (l.foldl (fun q c => q.filterMap (Entry.drop c)) q) := by
  induction l generalizing q with
  | nil => exact h
  | cons c l ih =>
    obtain ⟨hne, hdl⟩ := not_or.mp (mt List.mem_cons.mpr hd)
    refine ih hdl ?_
    rw [queuedChans_drop]
    simpa [hne] using h

/-! ### The members of a run, withdrawn together (R42, log 47) -/

/-- The entries have lost the members, and a new head is watched. -/
theorem withdrawAll_eq (l : List Ch) (w : Withdrawal) (s : State) :
    ∃ b k t, withdrawAll l w s =
        forEach l (fun c t => withdraw c w t) { s with budget := b, link := k, tally := t } ∧
      queuedChans b.queue = queuedChans (l.foldl (fun q c => q.filterMap (Entry.drop c)) s.budget.queue) := by
  let v := s.modBudget fun b => { b with queue := l.foldl (fun q c => q.filterMap (Entry.drop c)) b.queue }
  have hwatch : ∀ x : Bool, ∃ b k t,
      (if x then headGone v else v) = { s with budget := b, link := k, tally := t } ∧
        queuedChans b.queue = queuedChans v.budget.queue := fun x => by
    cases x
    · exact ⟨v.budget, s.link, s.tally, rfl, rfl⟩
    · obtain ⟨b, k, t, h⟩ := headGone_spec v
      have hqueued := headGone_queued v
      rw [h] at hqueued
      exact ⟨b, k, t, h, hqueued⟩
  obtain ⟨b, k, t, h, hq⟩ := hwatch (match s.budget.queue with
    | [] => false
    | e :: _ => e.chans.all fun c => l.contains c)
  exact ⟨b, k, t, congrArg (forEach l fun c t => withdraw c w t) h, hq⟩

theorem withdrawAll_ch (l : List Ch) (w : Withdrawal) (s : State) (d : Ch) :
    (withdrawAll l w s).ch d =
      if d ∈ l ∧ (s.ch d).state = .pending then (s.ch d).withdrawn s.now else s.ch d := by
  obtain ⟨b, k, t, h, -⟩ := withdrawAll_eq l w s
  rw [h]
  exact forEach_withdraw_ch ..

theorem withdrawAll_queued (hd : d ∉ l) (h : d ∈ queuedChans s.budget.queue) :
    d ∈ queuedChans (withdrawAll l w s).budget.queue := by
  obtain ⟨b, k, t, hu, hq⟩ := withdrawAll_eq l w s
  rw [hu]
  refine forEach_withdraw_queued hd ?_
  rw [hq]
  exact foldl_drop_queued hd h

theorem withdrawAll_run (h : NoneOutstanding s) : (withdrawAll l w s).run = s.run := by
  obtain ⟨b, k, t, hu, -⟩ := withdrawAll_eq l w s
  rw [hu]
  exact forEach_withdraw_run (s := { s with budget := b, link := k, tally := t }) h

theorem withdrawAll_eval (h : s.work.eval = true) : (withdrawAll l w s).work.eval = true := by
  obtain ⟨b, k, t, hu, -⟩ := withdrawAll_eq l w s
  rw [hu]
  exact forEach_keeps (fun t => t.work.eval = true) _ (fun _ _ ht => withdraw_eval ht) l _ h

theorem withdrawAll_source (l : List Ch) (w : Withdrawal) (s : State) : (withdrawAll l w s).source = s.source := by
  obtain ⟨b, k, t, hu, -⟩ := withdrawAll_eq l w s
  rw [hu]
  exact forEach_same State.source _ (fun c => withdraw_source c w) l _

theorem withdrawAll_aside (l : List Ch) (w : Withdrawal) (s : State) : aside (withdrawAll l w s) = aside s := by
  obtain ⟨b, k, t, hu, -⟩ := withdrawAll_eq l w s
  rw [hu]
  exact forEach_same aside _ (fun c => withdraw_aside c w) l _

/-! ### The pause of a run (R63) -/

/-- A pause: the outstanding members are withdrawn, the run is paused, PLAN PAUSED is raised. -/
theorem pauseRun_eq (k : RunBy) {r : Run} (hr : s.run = some r) (ha : r.state = .running ∨ r.state = .waiting) :
    ∃ n m, pauseRun k s = raise .planPaused n m (some r.outstanding.length)
      (markPlan .idle ((withdrawOutstanding r.outstanding s).modRun fun r' =>
        { r' with state := .paused, pauseCause := some k, gap := none, gapLeft := r.gap.elim 0 s.left })) := by
  simp only [pauseRun, hr, if_pos ha]
  cases r.gap <;> exact ⟨_, _, rfl⟩

theorem pauseRun_idle (k : RunBy) {r : Run} (hr : s.run = some r) (ha : r.state ≠ .running ∧ r.state ≠ .waiting) :
    pauseRun k s = s := by
  simp only [pauseRun, hr, if_neg (not_or.mpr ha)]

theorem withdrawOutstanding_run {r : Run} (hr : s.run = some r) (l : List Ch) :
    (withdrawOutstanding l s).run = some { r with outstanding := [] } := by
  have hclear : (s.modRun fun r => { r with outstanding := [] }).run = some { r with outstanding := [] } := by
    rw [State.modRun, hr]
    rfl
  refine (withdrawAll_run fun r' h' => ?_).trans hclear
  rw [hclear] at h'
  exact Option.some.inj h' ▸ rfl

theorem pauseRun_run (k : RunBy) {r : Run} (hr : s.run = some r) (ha : r.state = .running ∨ r.state = .waiting) :
    (pauseRun k s).run = some { r with
      state := .paused, pauseCause := some k, outstanding := [], gap := none, gapLeft := r.gap.elim 0 s.left } := by
  obtain ⟨n, m, h⟩ := pauseRun_eq k hr ha
  rw [h, raise_run, markPlan_run, State.modRun, withdrawOutstanding_run hr]
  rfl

theorem pauseRun_flag (k : RunBy) {r : Run} (hr : s.run = some r) (ha : r.state = .running ∨ r.state = .waiting) :
    (pauseRun k s).link.flags.plan = true := by
  obtain ⟨n, m, h⟩ := pauseRun_eq k hr ha
  rw [h, raise_flags]
  rfl

/-! ### The Sequence Engine at the end of GRID (R64) -/

/-- What a run's pause, and so the rack's leaving GRID, makes of the channels: a PENDING one may be withdrawn, and one
that is not keeps its place in the queue. The source, the slots and a due evaluation stay. -/
structure MembersLeave (s u : State) : Prop where
  chans : ∀ d,
    u.ch d = s.ch d ∧
        ((s.ch d).state = .pending → d ∈ queuedChans s.budget.queue → d ∈ queuedChans u.budget.queue) ∨
      (s.ch d).state = .pending ∧ u.ch d = (s.ch d).withdrawn s.now
  now : u.now = s.now
  source : u.source = s.source
  aside : aside u = aside s
  eval : s.work.eval = true → u.work.eval = true

theorem MembersLeave.refl (s : State) : MembersLeave s s := ⟨fun _ => .inl ⟨rfl, fun _ => id⟩, rfl, rfl, rfl, id⟩

theorem pauseRun_membersLeave (k : RunBy) {r : Run} (hr : s.run = some r)
    (ha : r.state = .running ∨ r.state = .waiting) : MembersLeave s (pauseRun k s) := by
  obtain ⟨n, m, h⟩ := pauseRun_eq k hr ha
  have hch : ∀ d, (pauseRun k s).ch d = (withdrawOutstanding r.outstanding s).ch d := fun d => by
    rw [h, raise_ch]
    rfl
  have hbudget : (pauseRun k s).budget = (withdrawOutstanding r.outstanding s).budget := by
    rw [h, raise_budget]
    rfl
  refine ⟨fun d => ?_, congrArg Fixed.now (pauseRun_fixed k s), ?_, ?_, fun he => ?_⟩
  · rw [hch, hbudget, withdrawOutstanding, withdrawAll_ch]
    split
    next hp => exact .inr ⟨hp.2, rfl⟩
    next hp => exact .inl ⟨rfl, fun hs hq => withdrawAll_queued (fun hd => hp ⟨hd, hs⟩) hq⟩
  · rw [h, raise_source]
    exact withdrawAll_source ..
  · rw [h, Machine.aside, raise_shelf, raise_orders]
    exact withdrawAll_aside ..
  · rw [h, raise_work]
    exact withdrawAll_eval he

theorem planLeftGrid_up {r : Run} (hr : s.run = some r) (hk : r.kind = .up) : planLeftGrid s = pauseRun .source s := by
  simp only [planLeftGrid, hr, hk]

theorem planLeftGrid_idle (h : ∀ r, s.run = some r → r.kind = .down ∨ (r.state ≠ .running ∧ r.state ≠ .waiting)) :
    planLeftGrid s = s := by
  simp only [planLeftGrid]
  split
  · next r hr =>
    split
    · next hk => exact pauseRun_idle .source hr ((h r hr).resolve_left (by simp [hk]))
    · rfl
  · rfl

theorem planLeftGrid_membersLeave (s : State) : MembersLeave s (planLeftGrid s) := by
  by_cases h : ∃ r, s.run = some r ∧ r.kind = .up ∧ (r.state = .running ∨ r.state = .waiting)
  · obtain ⟨r, hr, hk, ha⟩ := h
    rw [planLeftGrid_up hr hk]
    exact pauseRun_membersLeave .source hr ha
  · rw [planLeftGrid_idle fun r hr => ?_]
    · exact .refl s
    · cases hk : r.kind with
      | down => exact .inl rfl
      | up => exact .inr (not_or.mp fun ha => h ⟨r, hr, hk, ha⟩)

/-! ### The queue is emptied (R43) -/

theorem emptyQueue_ch (s : State) (d : Ch) :
    (emptyQueue s).ch d =
      if d ∈ queuedChans s.budget.queue ∧ (s.ch d).state = .pending then (s.ch d).withdrawn s.now else s.ch d :=
  forEach_withdraw_ch ..

theorem emptyQueue_source (s : State) : (emptyQueue s).source = s.source :=
  forEach_same State.source _ (fun c => withdraw_source c .sourceLeft) _ _

theorem emptyQueue_aside (s : State) : aside (emptyQueue s) = aside s :=
  forEach_same aside _ (fun c => withdraw_aside c .sourceLeft) _ _

theorem emptyQueue_eval (h : s.work.eval = true) : (emptyQueue s).work.eval = true :=
  forEach_keeps (fun t => t.work.eval = true) _ (fun _ _ ht => withdraw_eval ht) _ _ h

theorem emptyQueue_run (h : NoneOutstanding s) : (emptyQueue s).run = s.run :=
  forEach_withdraw_run (s := s.modBudget fun b => { b with queue := [], spacing := none, late := none }) h

/-- With the queue empty, withdrawals leave it and its timers alone. -/
theorem emptyQueue_budget (s : State) :
    (emptyQueue s).budget.queue = [] ∧ (emptyQueue s).budget.late = none ∧ (emptyQueue s).budget.spacing = none := by
  refine forEach_keeps (fun t => t.budget.queue = [] ∧ t.budget.late = none ∧ t.budget.spacing = none) _
    (fun c t ht => ?_) _ _ ⟨rfl, rfl, rfl⟩
  simp only [withdraw]
  split
  · rw [noticeWithdrawn_budget, enterState_budget, dropFromQueue_nil ht.1]
    exact ht
  · exact ht

/-- With no member outstanding, the withdrawals raise nothing (R43). -/
theorem emptyQueue_link (h : NoneOutstanding s) : (emptyQueue s).link = s.link := by
  let v := s.modBudget fun b => { b with queue := [], spacing := none, late := none }
  refine (forEach_keeps (fun t => t.budget.queue = [] ∧ t.run = s.run ∧ t.link = s.link) _
    (fun c t ⟨hq, hr, hl⟩ => ?_) (queuedChans s.budget.queue) v ⟨rfl, rfl, rfl⟩).2.2
  have hn : NoneOutstanding t := by rwa [NoneOutstanding, hr]
  rw [withdraw_emptied hq hn]
  split
  · exact ⟨(enterState_queue ..).trans hq, (enterState_run ..).trans hr, (enterState_link ..).trans hl⟩
  · exact ⟨hq, hr, hl⟩

end
end Sys2Proof.Machine
end

section
/-! The bus monitor (R91): the declarations, and what they make of the source state (R96 to R100). -/

namespace Sys2Proof.Machine

section
variable {s : State}

/-! ### What the bus monitor's record keeps -/

/-- The bus monitor's part of the shelf record (R91). -/
def busView (s : State) : Bool × Nat × Option Timer := (s.shelf.busLow, s.shelf.busMv, s.shelf.debounce)

theorem busView_congr {u : State} (h : u.shelf = s.shelf) : busView u = busView s := by rw [busView, h, busView]

theorem enterSource_bus (st : SrcState) (o : Option ReturnFrom) (s : State) :
    busView (enterSource st o s) = busView s := rfl

theorem beginRide_shelf (l : SrcState) (s : State) : (beginRide l s).shelf = s.shelf := by simp [beginRide]

theorem resumeRun_shelf (s : State) : (resumeRun s).shelf = s.shelf := by
  simp only [resumeRun]
  split
  · split
    · rfl
    · split <;> rfl
  · rfl

theorem planEnteredGrid_shelf (s : State) : (planEnteredGrid s).shelf = s.shelf := by
  simp only [planEnteredGrid]
  split
  · split
    · split
      · exact resumeRun_shelf s
      · rfl
    · split <;> rfl
  · rfl

theorem enterGrid_bus (s : State) : busView (enterGrid s) = busView s := by
  refine (busView_congr ?_).trans (enterSource_bus .grid none s)
  simp only [enterGrid, raiseRideEnd, State.modWork_shelf, raise_shelf, planEnteredGrid_shelf, State.modSource_shelf]

theorem enterHandback_bus (s : State) : busView (enterHandback s) = busView s := by
  simp only [enterHandback]
  split
  · rw [enterGrid_bus, enterSource_bus]
  · exact enterSource_bus ..

theorem enterQualify_bus (o : ReturnFrom) (s : State) : busView (enterQualify o s) = busView s := by
  simp only [enterQualify]
  split
  · rw [enterHandback_bus, enterSource_bus]
  · exact enterSource_bus ..

theorem testReturn_bus (s : State) : busView (testReturn s) = busView s := by
  simp only [testReturn]
  split
  · split
    · exact enterQualify_bus ..
    · exact enterQualify_bus ..
    · rfl
    · rfl
    · rfl
  · rfl

/-! ### The rack leaves GRID (R98) -/

/-- The state in which the Sequence Engine is told that the rack has left GRID (R95, R98). -/
def rideEntered (s : State) : State := (enterSource .ride none s).modSource fun x => { x with outage := s.now }

theorem rideEntered_run (s : State) : (rideEntered s).run = s.run := rfl

theorem rideEntered_ch (s : State) : (rideEntered s).ch = s.ch := rfl

theorem rideEntered_budget (s : State) : (rideEntered s).budget = s.budget := rfl

theorem rideEntered_now (s : State) : (rideEntered s).now = s.now := rfl

theorem rideEntered_left (s : State) : (rideEntered s).left = s.left := rfl

theorem rideFromGrid_eq (s : State) : rideFromGrid s = beginRide .grid (emptyQueue (planLeftGrid (rideEntered s))) := rfl

theorem rideEntered_membersLeave (s : State) : MembersLeave (rideEntered s) (planLeftGrid (rideEntered s)) :=
  planLeftGrid_membersLeave _

theorem beginRide_ch (l : SrcState) (s : State) (d : Ch) : (beginRide l s).ch d = s.ch d := by
  simp only [State.ch, beginRide, markRide_chans, count_chans, raise_chans]

theorem beginRide_budget (l : SrcState) (s : State) : (beginRide l s).budget = s.budget := by simp [beginRide]

theorem beginRide_source (l : SrcState) (s : State) : (beginRide l s).source = s.source := by simp [beginRide]

theorem beginRide_run (l : SrcState) (s : State) : (beginRide l s).run = s.run := by simp [beginRide]

theorem beginRide_work (l : SrcState) (s : State) : (beginRide l s).work = { s.work with ride := true } := by
  simp [beginRide, markRide]

theorem beginRide_flags (l : SrcState) (s : State) :
    (beginRide l s).link.flags = { s.link.flags with source := true } := by
  rw [beginRide, markRide_link, count_link, raise_flags]
  rfl

theorem rideFromGrid_shelf (s : State) : (rideFromGrid s).shelf = (enterSource .ride none s).shelf := by
  rw [rideFromGrid_eq, beginRide_shelf, show (emptyQueue (planLeftGrid (rideEntered s))).shelf = _ from
    congrArg Prod.fst ((emptyQueue_aside _).trans (rideEntered_membersLeave s).aside)]
  rfl

theorem rideFromGrid_source (s : State) : (rideFromGrid s).source = (rideEntered s).source := by
  rw [rideFromGrid_eq, beginRide_source, emptyQueue_source, (rideEntered_membersLeave s).source]

/-- A channel that the queue names while it is PENDING is withdrawn, by the run's pause or with the queue; any other
PENDING one may be withdrawn, and one that is not PENDING is as before (R43, R63). -/
theorem leftGrid_ch (s : State) (d : Ch) :
    ((s.ch d).state ≠ .pending → (emptyQueue (planLeftGrid s)).ch d = s.ch d) ∧
      (d ∈ queuedChans s.budget.queue → (s.ch d).state = .pending →
        (emptyQueue (planLeftGrid s)).ch d = (s.ch d).withdrawn s.now) := by
  have hm := planLeftGrid_membersLeave s
  rw [emptyQueue_ch, hm.now]
  rcases hm.chans d with ⟨hd, hq⟩ | ⟨hp, hd⟩
  · rw [hd]
    exact ⟨fun hs => if_neg fun h => hs h.2, fun hc hs => if_pos ⟨hq hs hc, hs⟩⟩
  · rw [hd]
    exact ⟨fun hs => absurd hp hs, fun _ _ => if_neg fun h => absurd h.2 (by simp [Channel.withdrawn])⟩

/-- After a pause no member is outstanding, so the queue's withdrawals are no concern of the run (R63, R64). -/
theorem leftGrid_pauses {r : Run} (hr : s.run = some r) (hk : r.kind = .up)
    (ha : r.state = .running ∨ r.state = .waiting) :
    (emptyQueue (planLeftGrid s)).link.flags.plan = true ∧
      (emptyQueue (planLeftGrid s)).run = some { r with
        state := .paused, pauseCause := some .source, outstanding := [], gap := none
        gapLeft := r.gap.elim 0 s.left } := by
  have hpaused := pauseRun_run .source hr ha
  have hn : NoneOutstanding (pauseRun .source s) := fun r' h' => by
    rw [hpaused] at h'
    exact Option.some.inj h' ▸ rfl
  rw [planLeftGrid_up hr hk, emptyQueue_link hn, emptyQueue_run hn]
  exact ⟨pauseRun_flag .source hr ha, hpaused⟩

theorem leftGrid_keeps {r : Run} (hr : s.run = some r) (ho : r.outstanding = [])
    (hk : r.kind = .down ∨ (r.state ≠ .running ∧ r.state ≠ .waiting)) :
    (emptyQueue (planLeftGrid s)).run = s.run := by
  have hrun : ∀ r', s.run = some r' → r' = r := fun r' h' => Option.some.inj (h'.symm.trans hr)
  have hn : NoneOutstanding s := fun r' h' => hrun r' h' ▸ ho
  rw [planLeftGrid_idle fun r' h' => hrun r' h' ▸ hk, emptyQueue_run hn]

theorem rideFromGrid_leavesGrid (s : State) : LeavesGrid s (rideFromGrid s) where
  source := by rw [rideFromGrid_source]; exact ⟨rfl, rfl, rfl⟩
  discharge n := by rw [rideFromGrid_shelf]; simp [enterSource, setSetPoints, dischargeOf]
  queue := by rw [rideFromGrid_eq, beginRide_budget]; exact emptyQueue_budget _
  withdrawn c hc hs := by
    have h := (leftGrid_ch (rideEntered s) c).2
    rw [rideEntered_ch, rideEntered_budget, rideEntered_now] at h
    rw [rideFromGrid_eq, beginRide_ch, h hc hs]
  others c hs := by
    have h := (leftGrid_ch (rideEntered s) c).1
    rw [rideEntered_ch] at h
    rw [rideFromGrid_eq, beginRide_ch, h hs]
  pauses r hr hk ha := by
    obtain ⟨hf, h⟩ := leftGrid_pauses ((rideEntered_run s).trans hr) hk ha
    rw [rideFromGrid_eq, beginRide_flags, beginRide_run, h, rideEntered_left]
    refine ⟨hf, ?_⟩
    cases r.gap <;> rfl
  keeps r hr ho hk := by
    rw [rideFromGrid_eq, beginRide_run, leftGrid_keeps ((rideEntered_run s).trans hr) ho hk, rideEntered_run]
  due := by
    have heval : (emptyQueue (planLeftGrid (rideEntered s))).work.eval = true :=
      emptyQueue_eval ((rideEntered_membersLeave s).eval rfl)
    rw [rideFromGrid_eq, beginRide_flags, beginRide_work]
    exact ⟨rfl, rfl, heval⟩

/-- What the shelf record was before does not tell in what the rack leaves behind. -/
theorem LeavesGrid.of_modShelf {f : Shelf → Shelf} {u : State} (h : LeavesGrid (s.modShelf f) u) : LeavesGrid s u :=
  ⟨h.source, h.discharge, h.queue, h.withdrawn, h.others, h.pauses, h.keeps, h.due⟩

/-! ### The two declarations (R91) -/

theorem testLoss_bus (s : State) : busView (testLoss s) = busView s := by
  have hride : ∀ l, busView (beginRide l (enterSource .ride none s)) = busView s := fun l =>
    (busView_congr (beginRide_shelf l _)).trans (enterSource_bus ..)
  simp only [testLoss]
  split
  · split
    · exact (busView_congr (rideFromGrid_shelf s)).trans (enterSource_bus ..)
    · exact hride _
    · exact hride _
    · exact enterSource_bus ..
    · exact enterSource_bus ..
    all_goals rfl
  · rfl

theorem testLoss_grid (hl : inputLoss s = true) (hg : s.source.state = .grid) : testLoss s = rideFromGrid s := by
  rw [testLoss, if_pos hl, hg]

/-- The bus is declared low: the record, and in GRID a ride (R96, R98). -/
theorem declareLow_spec (s : State) :
    (declareLow s).shelf.busLow = true ∧ (declareLow s).shelf.debounce = none ∧
      (declareLow s).shelf.busMv = s.shelf.busMv ∧ (s.source.state = .grid → LeavesGrid s (declareLow s)) := by
  let v := s.modShelf fun h => { h with busLow := true, debounce := none }
  have hbus : busView (declareLow s) = busView v := testLoss_bus v
  refine ⟨congrArg (·.1) hbus, congrArg (·.2.2) hbus, congrArg (·.2.1) hbus, fun hg => ?_⟩
  have hride : declareLow s = rideFromGrid v := testLoss_grid (by simp [inputLoss]) hg
  rw [hride]
  exact (rideFromGrid_leavesGrid v).of_modShelf

theorem testReturn_none (h : inputReturn s = false) : testReturn s = s := if_neg (by simp [h])

/-- Input return begins QUALIFY in RIDE and in DOWN, and in no other state (R100). -/
theorem testReturn_qualify (h : inputReturn s = true) (hq : s.cfg.ride.qual ≠ 0) :
    (s.source.state = .ride → (testReturn s).source.state = .qualify ∧ (testReturn s).source.origin = some .ride) ∧
    (s.source.state = .down → (testReturn s).source.state = .qualify ∧ (testReturn s).source.origin = some .down) ∧
    (s.source.state ≠ .ride → s.source.state ≠ .down → testReturn s = s) := by
  have henter : ∀ o, (enterQualify o s).source.state = .qualify ∧ (enterQualify o s).source.origin = some o := fun o => by
    have hu : enterQualify o s = _ := if_neg hq
    rw [hu]
    exact ⟨rfl, rfl⟩
  rw [testReturn, if_pos h]
  refine ⟨fun hs => ?_, fun hs => ?_, fun hr hd => ?_⟩
  · rw [hs]; exact henter .ride
  · rw [hs]; exact henter .down
  · split
    · next hs => exact absurd hs hr
    · next hs => exact absurd hs hd
    all_goals rfl

end

/-! ### A sample by case -/

section
variable {mv : Nat} {s : State}

/-- The sample as it is stored (R91). -/
def sampleStored (mv : Nat) (s : State) : State := s.modShelf fun h => { h with busMv := min mv 65535 }

theorem takeBusSample_low (hl : s.shelf.busLow = true) :
    takeBusSample mv s =
      if thresholdMv s.cfg.ride.thr + 600 < min mv 65535 then
        testReturn ((sampleStored mv s).modShelf fun h => { h with busLow := false })
      else sampleStored mv s := if_pos hl

theorem takeBusSample_above (hl : s.shelf.busLow = false) (hv : thresholdMv s.cfg.ride.thr ≤ min mv 65535) :
    takeBusSample mv s = (sampleStored mv s).modShelf fun h => { h with debounce := none } :=
  (if_neg (by simp [hl])).trans (if_neg (not_lt.mpr hv))

theorem takeBusSample_debounced (hl : s.shelf.busLow = false) (hv : min mv 65535 < thresholdMv s.cfg.ride.thr)
    (hd : s.shelf.debounce.isSome) : takeBusSample mv s = sampleStored mv s := by
  obtain ⟨t, ht⟩ := Option.isSome_iff_exists.mp hd
  refine (if_neg (by simp [hl])).trans ((if_pos hv).trans ?_)
  simp only [State.modShelf_shelf, ht]
  rfl

theorem takeBusSample_below (hl : s.shelf.busLow = false) (hv : min mv 65535 < thresholdMv s.cfg.ride.thr)
    (hd : s.shelf.debounce = none) :
    takeBusSample mv s =
      if s.cfg.ride.deb = 0 then declareLow (sampleStored mv s)
      else (sampleStored mv s).modShelf fun h => { h with debounce := some (s.timer s.cfg.ride.deb) } := by
  refine (if_neg (by simp [hl])).trans ((if_pos hv).trans ?_)
  simp only [State.modShelf_shelf, hd]
  rfl

end

/-- Settles O18: a low bus below and above the normal level, a normal bus above and below the threshold, the timer. -/
theorem busSamplesDeclareLowAndNormal : Obligations.BusSamplesDeclareLowAndNormal := by
  refine ⟨fun mv s hp => ?_, fun s hp => ⟨fun hd => ?_, fun hd => ?_⟩⟩
  · refine ⟨fun hl hv => .of_event_eq rfl hp ?_, fun hl hv => ?_,
      fun hl hv => .of_event_eq rfl hp (takeBusSample_above hl hv),
      fun hl hv hd => .of_event_eq rfl hp (takeBusSample_debounced hl hv hd),
      fun hl hv hd h0 => .of_event_eq rfl hp ?_, fun hl hv hd h0 => ?_⟩
    · rw [takeBusSample_low hl]
      exact if_neg (not_lt.mpr hv)
    · let normal := (sampleStored mv s).modShelf fun h => { h with busLow := false }
      have hu : takeBusSample mv s = testReturn normal := (takeBusSample_low hl).trans (if_pos hv)
      have hbus := testReturn_bus normal
      exact ⟨testReturn normal, .of_event_eq rfl hp hu, congrArg (·.1) hbus, congrArg (·.2.1) hbus,
        congrArg (·.2.2) hbus, testReturn_none, testReturn_qualify⟩
    · rw [takeBusSample_below hl hv hd]
      exact if_neg h0
    · have hu : takeBusSample mv s = declareLow (sampleStored mv s) := (takeBusSample_below hl hv hd).trans (if_pos h0)
      obtain ⟨hlow, -, hmv, hgrid⟩ := declareLow_spec (sampleStored mv s)
      refine ⟨_, .of_event_eq rfl hp hu, hlow, hmv, fun hg => ?_⟩
      exact (hgrid hg).of_modShelf
  · exact .of_event_eq rfl hp (if_neg (by simp [hd]))
  · obtain ⟨hlow, hdeb, hmv, hgrid⟩ := declareLow_spec s
    exact ⟨_, .of_event_eq rfl hp (if_pos hd), hlow, hdeb, hmv, hgrid⟩

end Sys2Proof.Machine
end

section
/-! The evaluation (R26 to R33), its deficit test (R44), the charge distribution (R121) and the hold time (R106). -/

namespace Sys2Proof.Machine

section
variable {s : State}

/-! ### The supply figures (R27 to R29) -/

/-- The k largest of at least k capacities, and the ones left out. -/
theorem sumLargest_spec {k : Nat} {l : List Nat} (h : k ≤ l.length) :
    ∃ big rest, l.Perm (big ++ rest) ∧ big.length = k ∧ sumLargest k l = big.sum ∧ ∀ a ∈ big, ∀ b ∈ rest, b ≤ a := by
  let sorted := l.insertionSort (· ≥ ·)
  have hsplit : sorted.take k ++ sorted.drop k = sorted := List.take_append_drop k sorted
  have hpair : (sorted.take k ++ sorted.drop k).Pairwise (· ≥ ·) := by
    rw [hsplit]
    exact List.pairwise_insertionSort (· ≥ ·) l
  refine ⟨sorted.take k, sorted.drop k, ?_, ?_, rfl, (List.pairwise_append.mp hpair).2.2⟩
  · rw [hsplit]
    exact (List.perm_insertionSort (· ≥ ·) l).symm
  · rw [List.length_take, List.length_insertionSort, min_eq_left h]

theorem sumLargest_le_sum {k : Nat} {l : List Nat} (h : k ≤ l.length) : sumLargest k l ≤ l.sum := by
  obtain ⟨big, rest, hperm, -, hsum, -⟩ := sumLargest_spec h
  rw [hperm.sum_eq, List.sum_append, hsum]
  exact Nat.le_add_right ..

/-- The reserve is no more than the raw supply. -/
theorem supply_reserve_le (s : State) (slots : List RmSlot) : (supply s slots).2.1 ≤ (supply s slots).1 := by
  simp only [supply]
  split
  · exact le_rfl
  · next h => exact sumLargest_le_sum (not_lt.mp h)

/-- The guard is its percentage of what the reserve leaves, rounded up. -/
theorem supply_guard (s : State) (slots : List RmSlot) :
    (supply s slots).2.2.1 = (((supply s slots).1 - (supply s slots).2.1) * s.cfg.policy.guard + 99) / 100 := rfl

theorem supply_firm (s : State) (slots : List RmSlot) :
    (supply s slots).2.2.2 = (supply s slots).1 - (supply s slots).2.1 - (supply s slots).2.2.1 := rfl

/-- A percentage of at most 25, rounded up, is no more than the whole. -/
theorem percent_le {d g : Nat} (h : g ≤ 25) : (d * g + 99) / 100 ≤ d := by
  have hd : d * g ≤ d * 25 := Nat.mul_le_mul_left d h
  omega

/-! ### The charge distribution (R120, R121) -/

/-- What a battery gets of the power that is left. -/
def Batt.granted (b : Batt) (p : Nat) : Nat := if b.eligible then min b.request p else 0

theorem Batt.granted_le (b : Batt) (p : Nat) : b.granted p ≤ p := by
  simp only [Batt.granted]
  split
  · exact min_le_right ..
  · exact Nat.zero_le p

/-- The charge given to a list of slots one after the other, and what is then left. -/
def giveAll (l : List BmSlot) (x : State × Nat) : State × Nat := l.foldl (fun x n => giveCharge n x) x

theorem giveAll_cons (n : BmSlot) (l : List BmSlot) (x : State × Nat) :
    giveAll (n :: l) x = giveAll l (giveCharge n x) := rfl

theorem giveAll_append (l m : List BmSlot) (x : State × Nat) : giveAll (l ++ m) x = giveAll m (giveAll l x) :=
  List.foldl_append

theorem State.modBatt_batt (n m : BmSlot) (f : Batt → Batt) (s : State) :
    (s.modBatt n f).shelf.batt[m] = if m = n then f s.shelf.batt[n] else s.shelf.batt[m] := by
  split
  · next h =>
    subst h
    exact State.modBatt_same ..
  · next h =>
    have hne : n.val ≠ m.val := fun e => h (Fin.ext e.symm)
    simp [State.modBatt, Vector.getElem_set_ne, hne]

theorem giveCharge_batt (n m : BmSlot) (x : State × Nat) :
    (giveCharge n x).1.shelf.batt[m] =
      if m = n then { x.1.shelf.batt[n] with chargeLimit := x.1.shelf.batt[n].granted x.2 } else x.1.shelf.batt[m] :=
  State.modBatt_batt n m (fun b => { b with chargeLimit := x.1.shelf.batt[n].granted x.2 }) x.1

theorem giveCharge_left (n : BmSlot) (x : State × Nat) :
    (giveCharge n x).2 = x.2 - x.1.shelf.batt[n].granted x.2 := rfl

/-- A slot that is not on the list is as before. -/
theorem giveAll_batt_of_notMem {n : BmSlot} {l : List BmSlot} (h : n ∉ l) (x : State × Nat) :
    (giveAll l x).1.shelf.batt[n] = x.1.shelf.batt[n] := by
  induction l generalizing x with
  | nil => rfl
  | cons m l ih =>
    obtain ⟨hne, hl⟩ := not_or.mp (mt List.mem_cons.mpr h)
    rw [giveAll_cons, ih hl, giveCharge_batt, if_neg hne]

/-- Nothing of the charge power is lost between the slots: what they got and what is left make up the whole. -/
theorem giveAll_sum {l : List BmSlot} (hl : l.Nodup) (x : State × Nat) :
    (l.map fun n => (giveAll l x).1.shelf.batt[n].chargeLimit).sum + (giveAll l x).2 = x.2 := by
  induction l generalizing x with
  | nil => exact Nat.zero_add _
  | cons n l ih =>
    obtain ⟨hn, hl⟩ := List.nodup_cons.mp hl
    have hrest := ih hl (giveCharge n x)
    have hle := x.1.shelf.batt[n].granted_le x.2
    rw [giveCharge_left] at hrest
    rw [List.map_cons, List.sum_cons, giveAll_cons, giveAll_batt_of_notMem hn, giveCharge_batt, if_pos rfl]
    simp only
    omega

/-- A slot gets what it asks for or what the slots before it on the list have left. -/
theorem giveAll_batt {l pre post : List BmSlot} {n : BmSlot} (hl : l.Nodup) (h : l = pre ++ n :: post) (x : State × Nat) :
    (giveAll l x).1.shelf.batt[n] =
      { x.1.shelf.batt[n] with
        chargeLimit := x.1.shelf.batt[n].granted
          (x.2 - (pre.map fun m => (giveAll l x).1.shelf.batt[m].chargeLimit).sum) } := by
  subst h
  obtain ⟨hpre, hpost, hdisj⟩ := List.nodup_append.mp hl
  have hn : n ∉ pre := fun hm => hdisj n hm n (List.mem_cons_self ..) rfl
  have hsum := giveAll_sum hpre x
  have hbefore : (pre.map fun m => (giveAll (pre ++ n :: post) x).1.shelf.batt[m].chargeLimit) =
      pre.map fun m => (giveAll pre x).1.shelf.batt[m].chargeLimit :=
    List.map_congr_left fun m hm => by
      rw [giveAll_append, giveAll_batt_of_notMem fun hm' => hdisj m hm m hm' rfl]
  rw [hbefore, giveAll_append, giveAll_cons, giveAll_batt_of_notMem (List.nodup_cons.mp hpost).1, giveCharge_batt,
    if_pos rfl, giveAll_batt_of_notMem hn, show (giveAll pre x).2 = x.2 - _ from (Nat.sub_eq_of_eq_add' hsum.symm).symm]

/-- The charge given changes the battery slots alone. -/
theorem giveAll_spec (l : List BmSlot) (x : State × Nat) :
    ∃ v, (giveAll l x).1 = { x.1 with shelf := { x.1.shelf with batt := v } } := by
  induction l generalizing x with
  | nil => exact ⟨_, rfl⟩
  | cons n l ih =>
    obtain ⟨v, h⟩ := ih (giveCharge n x)
    exact ⟨v, h⟩

theorem allBm_nodup : allBm.Nodup := List.nodup_finRange 6

/-- The slots in order: those before one, it, those after it. -/
theorem allBm_split : ∀ n : BmSlot, allBm = allBm.filter (· < n) ++ n :: allBm.filter (n < ·) := by decide

theorem distribute_batt (s : State) (n : BmSlot) :
    (distribute s).shelf.batt[n] = { s.shelf.batt[n] with
      chargeLimit := s.shelf.batt[n].granted
        (s.budget.figs.chg - ((allBm.filter (· < n)).map fun m => (distribute s).shelf.batt[m].chargeLimit).sum) } :=
  giveAll_batt allBm_nodup (allBm_split n) _

theorem distribute_sum_le (s : State) :
    (allBm.map fun n => (distribute s).shelf.batt[n].chargeLimit).sum ≤ s.budget.figs.chg :=
  (Nat.le_add_right ..).trans_eq (giveAll_sum allBm_nodup (s, s.budget.figs.chg))

/-! ### The deficit test (R44) -/

/-- In GRID with a negative margin the grace timer runs, started now where it did not run; else it is dropped with the
reported mark. -/
theorem deficitTest_spec (s : State) :
    ∃ g r w, deficitTest s = { s with
        budget := { s.budget with grace := g, reported := r }, work := { s.work with grace := w } } ∧
      (s.source.state = .grid → s.budget.figs.m < 0 →
        r = s.budget.reported ∧ (∀ t, s.budget.grace = some t → g = some t ∧ w = s.work.grace) ∧
        (s.budget.grace = none → g = some ⟨s.now, s.cfg.policy.grace⟩ ∧ w = decide (s.cfg.policy.grace = 0))) ∧
      (s.source.state ≠ .grid ∨ 0 ≤ s.budget.figs.m → g = none ∧ r = false ∧ w = false) := by
  by_cases h : s.source.state = .grid ∧ s.budget.figs.m < 0
  · have hno : ¬ (s.source.state ≠ .grid ∨ 0 ≤ s.budget.figs.m) := by
      rintro (hg | hm)
      · exact hg h.1
      · exact absurd h.2 (not_lt.mpr hm)
    cases hg : s.budget.grace with
    | none =>
      refine ⟨some ⟨s.now, s.cfg.policy.grace⟩, s.budget.reported, decide (s.cfg.policy.grace = 0), ?_,
        fun _ _ => ⟨rfl, fun t ht => (by cases ht), fun _ => ⟨rfl, rfl⟩⟩, fun hn => absurd hn hno⟩
      simp only [deficitTest, if_pos h, hg]
      rfl
    | some t =>
      refine ⟨some t, s.budget.reported, s.work.grace, ?_,
        fun _ _ => ⟨rfl, fun t' ht => ⟨ht, rfl⟩, fun ht => (by cases ht)⟩, fun hn => absurd hn hno⟩
      simp only [deficitTest, if_pos h, hg]
      rw [← hg]
  · exact ⟨none, false, false, by simp only [deficitTest, if_neg h]; rfl, fun hg hm => absurd ⟨hg, hm⟩ h,
      fun _ => ⟨rfl, rfl, rfl⟩⟩

/-! ### The whole evaluation -/

/-- An evaluation: the figures of the state it finds, what the deficit test makes of them, the charge distribution, and
the hand-overs left due (R33). -/
theorem evaluate_spec (s : State) :
    ∃ g r w v, evaluate s = { s with
        budget := { s.budget with figs := figuresNow s, grace := g, reported := r }
        shelf := { s.shelf with batt := v }
        work := { s.work with grace := w, eval := false, figs := true, exam := true } } ∧
      (s.source.state = .grid → (figuresNow s).m < 0 →
        r = s.budget.reported ∧ (∀ t, s.budget.grace = some t → g = some t ∧ w = s.work.grace) ∧
        (s.budget.grace = none → g = some ⟨s.now, s.cfg.policy.grace⟩ ∧ w = decide (s.cfg.policy.grace = 0))) ∧
      (s.source.state ≠ .grid ∨ 0 ≤ (figuresNow s).m → g = none ∧ r = false ∧ w = false) ∧
      (∀ n : BmSlot, v[n] = { s.shelf.batt[n] with
        chargeLimit := s.shelf.batt[n].granted
          ((figuresNow s).chg - ((allBm.filter (· < n)).map fun m => v[m].chargeLimit).sum) }) ∧
      (allBm.map fun n => v[n].chargeLimit).sum ≤ (figuresNow s).chg := by
  obtain ⟨g, r, w, hd, hdeficit, hnone⟩ := deficitTest_spec (s.modBudget fun b => { b with figs := figuresNow s })
  generalize htest : deficitTest (s.modBudget fun b => { b with figs := figuresNow s }) = u at hd
  obtain ⟨v, hv⟩ := giveAll_spec allBm (u, u.budget.figs.chg)
  have hbatt := distribute_batt u
  have hsum := distribute_sum_le u
  have hu : distribute u = { u with shelf := { u.shelf with batt := v } } := hv
  rw [hu] at hbatt hsum
  have hfigs : u.budget.figs = figuresNow s := by rw [hd]; rfl
  have hshelf : u.shelf = s.shelf := by rw [hd]; rfl
  simp only [hfigs, hshelf] at hbatt hsum
  refine ⟨g, r, w, v, ?_, hdeficit, hnone, hbatt, hsum⟩
  show (distribute (deficitTest (s.modBudget fun b => { b with figs := figuresNow s }))).modWork
    (fun w => { w with eval := false, figs := true, exam := true }) = _
  rw [htest, hu, hd]
  rfl

/-- The charge power of an evaluation (R32). -/
theorem figuresNow_chg (s : State) :
    ((figuresNow s).chg : Int) = if s.source.state = .grid then
      min (s.source.request : Int) (min (s.cfg.charge.limit : Int) (max (figuresNow s).m 0)) else 0 := by
  simp only [figuresNow]
  split
  · rw [Nat.cast_min, Nat.cast_min, Int.ofNat_toNat]
  · rfl

theorem Batt.granted_none {b : Batt} (h : b.sample = none) (p : Nat) : b.granted p = 0 := by
  refine if_neg ?_
  simp only [Batt.eligible, h]
  split <;> simp_all

/-- What a battery gets, by its state and its last sample (R120, R121). -/
theorem Batt.granted_some {b : Batt} {x : BattReport} (h : b.sample = some x) (p : Nat) :
    b.granted p =
      if b.state = .charging ∨ b.state = .standby ∧ x.usable < x.full then min x.request p else 0 := by
  simp only [Batt.granted, Batt.eligible, Batt.request, h]
  cases b.state <;> simp

end

/-- Settles O53: the supply figures, the evaluation, the hold time. -/
theorem supplyFiguresAndHoldTime : Obligations.SupplyFiguresAndHoldTime := by
  refine ⟨fun s slots => ?_, fun s => ?_, fun s load => ⟨fun h => if_pos h, fun h => if_neg h⟩⟩
  · have hred := supply_reserve_le s slots
    have hguard := supply_guard s slots
    have hfirm := supply_firm s slots
    refine ⟨rfl, fun h => ?_, fun h => ?_, ?_, ?_, fun hg => ?_⟩
    · have hall : (supply s slots).2.1 = (supply s slots).1 := if_pos h
      exact ⟨hall, by omega⟩
    · obtain ⟨big, rest, hperm, hlen, hsum, hle⟩ := sumLargest_spec h
      exact ⟨big, rest, hperm, hlen, (if_neg (not_lt.mpr h)).trans hsum, hle⟩
    · omega
    · omega
    · have hle := percent_le (d := (supply s slots).1 - (supply s slots).2.1) hg
      omega
  · obtain ⟨g, r, w, v, hu, hdeficit, hnone, hbatt, hsum⟩ := evaluate_spec s
    rw [hu]
    refine ⟨rfl, rfl, rfl, rfl, rfl, rfl, rfl, figuresNow_chg s, hsum, fun n => ?_, rfl, fun hg hm => ?_, hnone,
      rfl, rfl, rfl, rfl, rfl, ⟨rfl, rfl⟩, ⟨rfl, rfl, rfl, rfl, rfl, rfl, rfl, rfl, rfl, rfl⟩, rfl, rfl, rfl⟩
    · refine (hbatt n).trans (congrArg (fun w => { s.shelf.batt[n] with chargeLimit := w }) ?_)
      cases hx : s.shelf.batt[n].sample with
      | none => exact Batt.granted_none hx _
      | some x => exact Batt.granted_some hx _
    · obtain ⟨hr, hstays, hstarts⟩ := hdeficit hg hm
      exact ⟨hr, hstays, hstarts⟩

end Sys2Proof.Machine
end

section
/-! The admission of the head (R6, R37 to R40). -/

namespace Sys2Proof.Machine

section
variable {s : State} {c d : Ch}

/-! ### One channel is admitted (R6) -/

/-- A channel's record at its admission, before the levels of its inputs are taken (R6). -/
def Channel.admittedAs (now : Stamp) (g : ChanCfg) (r : Channel) : Channel :=
  { r with
    state := .ramping, since := now, admitted := some g.inrush, shed := false, confirm := none
    ramp := some ⟨now, g.ramp⟩ }

/-- The channel is RAMPING and the run has been told; the levels of its inputs have not been taken yet (R6, R56). -/
def rampStarted (c : Ch) (s : State) : State :=
  noticeAdmitted c (count .channelStarts (enterState c .ramping (clearShed c (s.modCh c fun r =>
    { r with admitted := some (s.chCfg c).inrush, confirm := none, ramp := some (s.timer (s.chCfg c).ramp) }))))

theorem rampStarted_ch (c d : Ch) (s : State) :
    (rampStarted c s).ch d = if d = c then (s.ch c).admittedAs s.now (s.chCfg c) else s.ch d := by
  have hch : ∀ t : State, (noticeAdmitted c t).ch d = t.ch d := fun t => by simp only [State.ch, noticeAdmitted_chans]
  rw [rampStarted, hch, count_ch, enterState_ch, clearShed_ch, clearShed_ch, if_pos rfl, State.modCh_ch_same]
  split
  · rfl
  · next h => exact s.modCh_ch_other _ h

theorem noticeAdmitted_work (c : Ch) (s : State) : ∃ p, (noticeAdmitted c s).work = { s.work with plan := p } := by
  simp only [noticeAdmitted]
  split
  · split
    · exact memberLeft_work _
    · exact ⟨_, rfl⟩
  · exact ⟨_, rfl⟩

theorem rampStarted_eval (c : Ch) (s : State) : (rampStarted c s).work.eval = true := by
  obtain ⟨p, hp⟩ := noticeAdmitted_work c (count .channelStarts (enterState c .ramping (clearShed c (s.modCh c fun r =>
    { r with admitted := some (s.chCfg c).inrush, confirm := none, ramp := some (s.timer (s.chCfg c).ramp) }))))
  obtain ⟨q, hq⟩ := enterState_work c .ramping (clearShed c (s.modCh c fun r =>
    { r with admitted := some (s.chCfg c).inrush, confirm := none, ramp := some (s.timer (s.chCfg c).ramp) }))
  rw [rampStarted, hp, count_work, hq]

/-- What an admission makes of its channel, and that it leaves the others alone. -/
structure Admits (c : Ch) (s u : State) : Prop where
  others : OnlyChannel c s u
  ramping : (s.ch c).powerGood = false → (s.ch c).trayFault = false →
    u.ch c = (s.ch c).admittedAs s.now (s.chCfg c)
  on : (s.ch c).powerGood = true → (s.ch c).trayFault = false → (u.ch c).state = .on
  faulted : (s.ch c).trayFault = true → (u.ch c).state = .faulted
  eval : u.work.eval = true

theorem admitChannel_eq (c : Ch) (s : State) :
    admitChannel c s =
      let x := rampStarted c s
      let y := if (x.ch c).powerGood then takePowerGoodRise c x else x
      if (y.ch c).trayFault then takeTrayFault c y else y := rfl

/-- The power-good level is taken first (R6, log 34). -/
theorem rampStarted_risen {x y : State} (hx : x = rampStarted c s)
    (hy : y = if (x.ch c).powerGood then takePowerGoodRise c x else x) :
    OnlyChannel c s y ∧ (y.ch c).trayFault = (s.ch c).trayFault ∧ y.work.eval = true ∧
      ((s.ch c).powerGood = true → (y.ch c).state = .on) ∧ ((s.ch c).powerGood = false → y = x) := by
  have hch := rampStarted_ch c c s
  rw [if_pos rfl, ← hx] at hch
  have hothers : OnlyChannel c s x := fun d hd => by rw [hx, rampStarted_ch, if_neg hd]
  have hgood : (x.ch c).powerGood = (s.ch c).powerGood := by rw [hch]; rfl
  cases hg : (s.ch c).powerGood with
  | true =>
    have hr := takePowerGoodRise_ramping (s := x) (c := c) (by rw [hch]; rfl)
    rw [hy, if_pos (hgood.trans hg)]
    exact ⟨hothers.trans hr.others, by rw [hr.record, hch]; rfl, hr.eval, fun _ => by rw [hr.record],
      fun hn => absurd hn (by decide)⟩
  | false =>
    rw [hy, if_neg (by simp [hgood, hg])]
    exact ⟨hothers, by rw [hch]; rfl, hx ▸ rampStarted_eval c s, fun hn => absurd hn (by decide), fun _ => rfl⟩

theorem admitChannel_admits (c : Ch) (s : State) : Admits c s (admitChannel c s) := by
  let x := rampStarted c s
  let y := if (x.ch c).powerGood then takePowerGoodRise c x else x
  have hch : x.ch c = _ := (rampStarted_ch c c s).trans (if_pos rfl)
  obtain ⟨hothers, htray, heval, hon, hstays⟩ := rampStarted_risen (y := y) rfl rfl
  have hup : (y.ch c).state = .ramping ∨ (y.ch c).state = .on := by
    cases hg : (s.ch c).powerGood with
    | true => exact .inr (hon hg)
    | false => exact .inl (by rw [hstays hg, hch]; rfl)
  cases ht : (s.ch c).trayFault with
  | true =>
    have hu : admitChannel c s = takeTrayFault c y := (admitChannel_eq c s).trans (if_pos (htray.trans ht))
    have hf := takeTrayFault_up (hup.imp_right .inl)
    rw [hu]
    exact ⟨hothers.trans hf.others, fun _ hn => absurd (ht.symm.trans hn) (by decide),
      fun _ hn => absurd (ht.symm.trans hn) (by decide), fun _ => by rw [hf.record]; rfl, hf.eval⟩
  | false =>
    have hu : admitChannel c s = y := (admitChannel_eq c s).trans (if_neg (by simp [y, x, htray, ht]))
    rw [hu]
    exact ⟨hothers, fun hg _ => by rw [hstays hg, hch], fun hg _ => hon hg,
      fun hn => absurd (ht.symm.trans hn) (by decide), heval⟩

/-! ### The members of an entry are admitted one after the other -/

theorem forEach_admitChannel_keeps (l : List Ch) (s : State) :
    (forEach l admitChannel s).fixed = s.fixed ∧ (forEach l admitChannel s).budget.queue = s.budget.queue :=
  ⟨fixed_forEach admitChannel admitChannel_fixed l s,
    forEach_same (fun t => t.budget.queue) admitChannel admitChannel_queue l s⟩

theorem forEach_admitChannel_others {l : List Ch} (hd : d ∉ l) (s : State) :
    (forEach l admitChannel s).ch d = s.ch d := by
  induction l generalizing s with
  | nil => rfl
  | cons c l ih =>
    obtain ⟨hne, hdl⟩ := not_or.mp (mt List.mem_cons.mpr hd)
    exact (ih hdl (admitChannel c s)).trans ((admitChannel_admits c s).others d hne)

/-- A member whose inputs are both low is RAMPING when all have been admitted. -/
theorem forEach_admitChannel_ramping {l : List Ch} (hl : l.Nodup) (hd : d ∈ l)
    (hg : (s.ch d).powerGood = false) (ht : (s.ch d).trayFault = false) :
    (forEach l admitChannel s).ch d = (s.ch d).admittedAs s.now (s.chCfg d) := by
  induction l generalizing s with
  | nil => cases hd
  | cons c l ih =>
    obtain ⟨hc, hl'⟩ := List.nodup_cons.mp hl
    have ha := admitChannel_admits c s
    have hfix := admitChannel_fixed c s
    rcases List.mem_cons.mp hd with rfl | hd'
    · exact (forEach_admitChannel_others hc _).trans (ha.ramping hg ht)
    · have hsame := ha.others d fun e => hc (e ▸ hd')
      refine (ih hl' hd' (hsame ▸ hg) (hsame ▸ ht)).trans ?_
      rw [hsame, show (admitChannel c s).now = s.now from congrArg Fixed.now hfix, State.chCfg,
        show (admitChannel c s).cfg = s.cfg from congrArg Fixed.cfg hfix, State.chCfg]

/-! ### The head entry is admitted (R38 to R40) -/

/-- The entry has left the queue, its channels are admitted and a split single has started the spacing timer; the new
head is not watched yet. -/
def headAdmitted (e : Entry) (s : State) : State :=
  let u := forEach e.chans admitChannel (s.modBudget fun b => { b with queue := b.queue.tail })
  match e.splitFrom with
  | some g =>
    u.modBudget fun b => { b with spacing :=
      if u.cfg.policy.spacing = 0 then none else some (g, u.timer u.cfg.policy.spacing) }
  | none => u

theorem admitHead_eq (e : Entry) (s : State) : admitHead e s = headGone (headAdmitted e s) := rfl

/-- What the spacing timer's start leaves as it is. -/
theorem headAdmitted_spec (e : Entry) (s : State) :
    ∃ x, headAdmitted e s =
        (forEach e.chans admitChannel (s.modBudget fun b => { b with queue := b.queue.tail })).modBudget
          (fun b => { b with spacing := x }) ∧
      ∀ g, e.splitFrom = some g →
        x = if s.cfg.policy.spacing = 0 then none else some (g, ⟨s.now, s.cfg.policy.spacing⟩) := by
  let t := s.modBudget fun b => { b with queue := b.queue.tail }
  have hfix := (forEach_admitChannel_keeps e.chans t).1
  have hnow : (forEach e.chans admitChannel t).now = s.now := congrArg Fixed.now hfix
  have hcfg : (forEach e.chans admitChannel t).cfg = s.cfg := congrArg Fixed.cfg hfix
  simp only [headAdmitted]
  split
  · next g h =>
    refine ⟨_, rfl, fun g' h' => ?_⟩
    obtain rfl : g = g' := Option.some.inj (h.symm.trans h')
    rw [State.timer, hnow, hcfg]
  · next h => exact ⟨_, rfl, fun g' h' => absurd (h.symm.trans h') (by simp)⟩

/-- A head within the late time has its timer set and nothing else happens (R41). -/
theorem watchHead_inTime {e : Entry} {q : List Entry} (h : s.budget.queue = e :: q)
    (hw : s.waited e ≤ s.cfg.policy.late) :
    watchHead s = s.modBudget fun b => { b with late := some ⟨e.joined, s.cfg.policy.late + 1⟩ } := by
  simp only [watchHead, h, if_pos hw]

/-- What an admitted head leaves of the queue and the spacing timer. -/
structure HeadLeaves (e : Entry) (q : List Entry) (s u : State) : Prop where
  queued : queuedChans u.budget.queue = queuedChans q
  inTime : ∀ f q', q = f :: q' → s.waited f ≤ s.cfg.policy.late → u.budget.queue = q
  started : ∀ g, e.splitFrom = some g → q ≠ [] → u.budget.spacing =
    if s.cfg.policy.spacing = 0 then none else some (g, ⟨s.now, s.cfg.policy.spacing⟩)
  dropped : q = [] → u.budget.spacing = none

theorem admitHead_leaves {e f : Entry} {q : List Entry} (hq : s.budget.queue = f :: q) :
    HeadLeaves e q s (admitHead e s) := by
  let t := s.modBudget fun b => { b with queue := b.queue.tail }
  obtain ⟨x, hu, hx⟩ := headAdmitted_spec e s
  obtain ⟨hfix, hqueue⟩ := forEach_admitChannel_keeps e.chans t
  have huq : (headAdmitted e s).budget.queue = q := by
    rw [hu]
    exact hqueue.trans (congrArg List.tail hq)
  have hspacing : (headAdmitted e s).budget.spacing = x := by rw [hu]; rfl
  have hnow : (headAdmitted e s).now = s.now := by rw [hu]; exact congrArg Fixed.now hfix
  have hcfg : (headAdmitted e s).cfg = s.cfg := by rw [hu]; exact congrArg Fixed.cfg hfix
  rw [admitHead_eq]
  refine ⟨(headGone_queued _).trans (by rw [huq]), fun f' q' hf hw => ?_, fun g hg hne => ?_, fun hnil => ?_⟩
  · have hhead := huq.trans hf
    rw [headGone_cons (by simp [hhead]), watchHead_inTime hhead (by rwa [State.waited, State.age, hnow, hcfg])]
    exact huq
  · rw [← hx g hg, headGone_cons (huq ▸ hne)]
    obtain ⟨p, y, k, j, hw⟩ := watchHead_spec (headAdmitted e s)
    rw [hw]
    exact hspacing
  · rw [headGone_nil (huq.trans hnil)]
    rfl

theorem headGone_work (s : State) : (headGone s).work = s.work := by
  obtain ⟨b, k, t, h⟩ := headGone_spec s
  rw [h]

theorem admitHead_ch (e : Entry) (s : State) (d : Ch) :
    (admitHead e s).ch d =
      (forEach e.chans admitChannel (s.modBudget fun b => { b with queue := b.queue.tail })).ch d := by
  obtain ⟨x, hu, -⟩ := headAdmitted_spec e s
  rw [admitHead_eq, State.ch, headGone_chans, hu]
  rfl

/-- An entry of one channel admits that channel. -/
theorem admitHead_admits {e : Entry} (he : e.chans = [c]) (s : State) : Admits c s (admitHead e s) := by
  let t := s.modBudget fun b => { b with queue := b.queue.tail }
  have hall : forEach e.chans admitChannel t = admitChannel c t := by rw [he]; rfl
  have hch : ∀ d, (admitHead e s).ch d = (admitChannel c t).ch d := fun d => by rw [← hall]; exact admitHead_ch e s d
  have hwork : (admitHead e s).work = (admitChannel c t).work := by
    obtain ⟨x, hu, -⟩ := headAdmitted_spec e s
    rw [admitHead_eq, headGone_work, hu, ← hall]
    rfl
  have ha := admitChannel_admits c t
  refine ⟨fun d hd => (hch d).trans (ha.others d hd), fun hg ht => ?_, fun hg ht => ?_, fun ht => ?_, ?_⟩
  · rw [hch]; exact ha.ramping hg ht
  · rw [hch]; exact ha.on hg ht
  · rw [hch]; exact ha.faulted ht
  · rw [hwork]; exact ha.eval

/-! ### The tests of the head (R37, R38, R40) -/

theorem spacingHolds_iff (s : State) (e : Entry) :
    spacingHolds s e = true ↔ ∃ g t, s.budget.spacing = some (g, t) ∧ e.splitFrom = some g := by
  simp only [spacingHolds]
  split
  · next g t g' hs he =>
    refine ⟨fun h => ⟨g, t, hs, he.trans (congrArg some (eq_of_beq h).symm)⟩, fun ⟨g₁, t₁, hs₁, he₁⟩ => ?_⟩
    have hg : (g, t) = (g₁, t₁) := Option.some.inj (hs.symm.trans hs₁)
    have hg' : g' = g₁ := Option.some.inj (he.symm.trans he₁)
    simp [hg', (Prod.mk.inj hg).1]
  · next h =>
    refine ⟨fun hn => absurd hn (by decide), ?_⟩
    rintro ⟨g, t, hs, he⟩
    exact absurd he (h g t g hs)

theorem fits_iff (s : State) (l : List Ch) :
    fits s l = true ↔ s.source.state = .grid ∧ ((l.map fun c => (s.chCfg c).alloc).sum : Int) ≤ s.budget.figs.h ∧
      s.budget.figs.o + (l.map fun c => (s.chCfg c).inrush).sum ≤ s.cfg.policy.inrush := by
  simp [fits, and_assoc]

theorem examineSingle_held {e : Entry} (h : spacingHolds s e = true) : examineSingle e s = s := if_pos h

theorem examineSingle_fits {e : Entry} (h : ¬ spacingHolds s e = true) (hf : fits s e.chans = true) :
    examineSingle e s = admitHead e s := (if_neg h).trans (if_pos hf)

theorem examineSingle_waits {e : Entry} (h : ¬ spacingHolds s e = true) (hf : ¬ fits s e.chans = true) :
    examineSingle e s = headWaits e s := (if_neg h).trans (if_neg hf)

theorem headWaits_again {e : Entry} (h : e.waited = true) : headWaits e s = s := if_pos h

/-- A head that waits for the first time is marked and counted (R37). -/
theorem headWaits_first {e : Entry} {q : List Entry} (hq : s.budget.queue = e :: q) (h : e.waited = false) :
    headWaits e s = { s with
      budget := { s.budget with queue := { e with waited := true } :: q }, tally := s.tally.take .admissionWaits } := by
  rw [headWaits, if_neg (by simp [h]), count_spec]
  simp only [State.modBudget, hq]
  rfl

theorem examine_nil (h : s.budget.queue = []) : examine s = s := by simp only [examine, h]

theorem examine_single {e : Entry} {q : List Entry} (hq : s.budget.queue = e :: q) (he : e.name = .single c) :
    examine s = examineSingle e s := by simp only [examine, hq, he]

theorem examine_gang {e : Entry} {q : List Entry} {g : Gang} {ms : List Ch} (hq : s.budget.queue = e :: q)
    (he : e.name = .gang g ms) (hf : fits s ms = true) : examine s = admitHead e s := by
  simp only [examine, hq, he, if_pos hf]

/-- The single that stands for a member of a degraded gang (R39). -/
def Entry.split (e : Entry) (g : Gang) (c : Ch) : Entry :=
  { e with name := .single c, splitFrom := some g, waited := false }

theorem queuedChans_append (p q : List Entry) : queuedChans (p ++ q) = queuedChans p ++ queuedChans q :=
  List.flatMap_append

theorem split_queued (e : Entry) (g : Gang) (l : List Ch) : queuedChans (l.map (e.split g)) = l := degrade_queued e g l

/-- A gang that does not fit and is within the late time is degraded in place, the late timer is set for the new head,
and that head is examined (R39, R41). -/
theorem examine_split {e : Entry} {q : List Entry} {g : Gang} {rest : List Ch} (hq : s.budget.queue = e :: q)
    (he : e.name = .gang g (c :: rest)) (hf : ¬ fits s (c :: rest) = true)
    (hw : msBetween e.joined s.now ≤ s.cfg.policy.late) :
    examine s = examineSingle (e.split g c) (s.modBudget fun b => { b with
      queue := e.split g c :: (rest.map (e.split g) ++ q), late := some ⟨e.joined, s.cfg.policy.late + 1⟩ }) := by
  simp only [examine, hq, he, if_neg hf, degrade, List.map_cons]
  exact congrArg (examineSingle (e.split g c)) (watchHead_inTime (e := e.split g c) rfl hw)

end

/-- Settles O54: the empty queue, a single by its tests, a gang that fits, and a gang that is degraded. -/
theorem headIsAdmittedWhenItFits : Obligations.HeadIsAdmittedWhenItFits := by
  intro s fitting held
  have hfit : ∀ l, fitting l ↔ fits s l = true := fun l => (fits_iff s l).symm
  have hheld : ∀ e, held e ↔ spacingHolds s e = true := fun e => (spacingHolds_iff s e).symm
  refine ⟨examine_nil, fun e q hq => ⟨fun c he => ?_, fun g ms he => ⟨fun hn hf => ?_, fun c rest hms hf hw => ?_⟩⟩⟩
  · have hchans : e.chans = [c] := by simp only [Entry.chans, he]
    rw [examine_single hq he, hheld, hfit, ← hchans]
    refine ⟨examineSingle_held, fun hs hf hw => ?_, fun hs hf hw => ?_, fun hs hf => ?_⟩
    · rw [examineSingle_waits hs hf, headWaits_again hw]
    · rw [examineSingle_waits hs hf, headWaits_first hq hw]
    · have ha := admitHead_admits hchans s
      have hl := admitHead_leaves (e := e) hq
      rw [examineSingle_fits hs hf]
      exact ⟨hl.queued, ha.others, ha.ramping, ha.on, ha.faulted, hl.started, ha.eval⟩
  · have hchans : e.chans = ms := by simp only [Entry.chans, he]
    rw [examine_gang hq he ((hfit ms).mp hf)]
    refine ⟨(admitHead_leaves hq).queued, fun c hc => ?_, fun c hc hg ht => ?_⟩
    · rw [admitHead_ch, hchans, forEach_admitChannel_others hc]
      rfl
    · rw [admitHead_ch, hchans]
      exact forEach_admitChannel_ramping (s := s.modBudget fun b => { b with queue := b.queue.tail }) hn hc hg ht
  · subst hms
    let v := s.modBudget fun b => { b with
      queue := e.split g c :: (rest.map (e.split g) ++ q), late := some ⟨e.joined, s.cfg.policy.late + 1⟩ }
    have hu : examine s = examineSingle (e.split g c) v := examine_split hq he (by rwa [← hfit]) hw
    have hvq : v.budget.queue = e.split g c :: (rest.map (e.split g) ++ q) := rfl
    have hvheld : spacingHolds v (e.split g c) = true ↔ ∃ t, s.budget.spacing = some (g, t) := by
      rw [spacingHolds_iff]
      exact ⟨fun ⟨g', t, hs, he'⟩ => ⟨t, Option.some.inj he' ▸ hs⟩, fun ⟨t, hs⟩ => ⟨g, t, hs, rfl⟩⟩
    have hvfit : fits v [c] = true ↔ fitting [c] := fits_iff v [c]
    rw [hu, ← hvheld, ← hvfit]
    intro single
    refine ⟨fun hs => ?_, fun hs hf1 => ?_, fun hs hf1 => ?_⟩
    · rw [examineSingle_held hs]
      exact ⟨rfl, rfl⟩
    · rw [examineSingle_waits hs hf1, headWaits_first hvq rfl]
      exact ⟨rfl, rfl, rfl⟩
    · have ha := admitHead_admits (e := e.split g c) rfl v
      have hl := admitHead_leaves (e := e.split g c) hvq
      rw [examineSingle_fits hs hf1]
      refine ⟨hl.queued.trans ?_, fun hne => ?_, ha.others, ha.ramping, ha.on, ha.faulted, fun hne => ?_,
        fun h1 h2 => ?_, ha.eval⟩
      · rw [queuedChans_append, split_queued]
      · obtain ⟨d, rest', rfl⟩ := List.exists_cons_of_ne_nil hne
        exact hl.inTime _ _ rfl hw
      · exact hl.started g rfl (by rcases hne with h | h <;> simp [h])
      · exact hl.dropped (by simp [h1, h2])

end Sys2Proof.Machine
end

section
/-! PLAN WRITE and PLAN START (R53, R68, R71). -/

namespace Sys2Proof.Machine

section
variable {s : State}

/-! ### The arguments of PLAN WRITE -/

theorem EntryWritten.stored {x : Option IndexArg} {old new : Option StepIx} (h : EntryWritten x old new) :
    entryOr x old = some new := by
  rcases h with ⟨rfl, rfl⟩ | ⟨rfl, rfl⟩ | ⟨n, rfl, rfl⟩
  · rfl
  · rfl
  · simp only [entryOr, entryArg?, index?_val, Option.map_some]

theorem TargetWritten.fits {act : StepAction} {x : TargetArgs} {t : Option Target} (h : TargetWritten act x t) :
    targetMisfits act x = false ∧ target? x = some t := by
  cases act with
  | start | stop =>
    rcases h with ⟨c, rfl, rfl⟩ | ⟨g, rfl, rfl⟩
    · exact ⟨rfl, by simp only [target?, index?_val, Option.map_some]⟩
    · exact ⟨rfl, by simp only [target?, index?_val, Option.map_some]⟩
  | delay | awaitOn | awaitGrid =>
    obtain ⟨rfl, rfl⟩ := h
    exact ⟨rfl, rfl⟩

/-! ### PLAN WRITE by its arguments (R71) -/

theorem doPlanWrite_empty {a : PlanWriteArgs} (h : a.step = none) (hu : a.up = none) (hd : a.down = none) :
    doPlanWrite a s = (s, errReply .syntaxError) := if_pos (by simp [planWriteMalformed, h, hu, hd])

theorem doPlanWrite_entries {x y : Option IndexArg} {up down : Option StepIx} (hu : EntryWritten x s.cfg.up up)
    (hd : EntryWritten y s.cfg.down down) (h : x ≠ none ∨ y ≠ none) :
    doPlanWrite { up := x, down := y } s = (storePlan none up down s, okReply) := by
  have hform : planWriteMalformed { up := x, down := y } = false := by
    rcases h with h | h <;> simp [planWriteMalformed, strayStepArg, Option.isSome_iff_ne_none, h]
  simp only [doPlanWrite, hform, stepRecord?, hu.stored, hd.stored, Bool.false_eq_true, if_false]

/-- The record that step= and act= write (R71). -/
def stepWritten (a : PlanWriteArgs) (act : StepAction) (t : Option Target) : PlanStep :=
  ⟨act, t, numArg 0 65535 a.gap 0, a.endMark.getD false⟩

theorem doPlanWrite_step {a : PlanWriteArgs} {n : StepIx} {act : StepAction} {t : Option Target}
    {up down : Option StepIx} (hu : EntryWritten a.up s.cfg.up up) (hd : EntryWritten a.down s.cfg.down down)
    (hn : a.step = some (n.val : Int)) (ha : a.act = some act) (ht : TargetWritten act a.target t) :
    doPlanWrite a s =
      if isProtected s n then (s, errReply .state)
      else (storePlan (some (n, stepWritten a act t)) up down s,
        setReplyBare (clamps 0 65535 a.gap) (fNum "step" n.val :: stepFields (stepWritten a act t))) := by
  obtain ⟨hfit, htarget⟩ := ht.fits
  have hform : planWriteMalformed a = false := by simp [planWriteMalformed, strayStepArg, hn, ha, hfit]
  simp only [doPlanWrite, hform, stepRecord?, hn, ha, index?_val, htarget, hu.stored, hd.stored, Bool.false_eq_true,
    if_false, refuse, stepWritten]

theorem found_isProtected (l : LineId) (i : Instr) (s : State) (n : StepIx) :
    isProtected (found l i s) n = isProtected s n := by simp only [isProtected, found_run]

/-- Settles O40: the empty form, the entries alone, and a step record, protected or stored. -/
theorem planWriteStoresTheRecord : Obligations.PlanWriteStoresTheRecord := by
  intro l a s up down i h hu hd
  have hu' : EntryWritten a.up (found l i s).cfg.up up := by rwa [found_cfg]
  have hd' : EntryWritten a.down (found l i s).cfg.down down := by rwa [found_cfg]
  refine ⟨fun h0 h1 h2 => .of_runCommand rfl h (doPlanWrite_empty h0 h1 h2), fun ha hne => ?_, fun n act t hn ha ht => ?_⟩
  · refine .of_runCommand rfl h ?_
    show doPlanWrite a (found l i s) = _
    rw [ha, doPlanWrite_entries hu' hd' hne]
    simp only [storePlan, State.modCfg, found_cfg]
  · have hrun := doPlanWrite_step hu' hd' hn ha ht
    rw [found_isProtected] at hrun
    refine ⟨fun hp => .of_runCommand rfl h (hrun.trans (if_pos hp)), fun hp => ⟨_, .of_runCommand rfl h ?_,
      setReplyBare_status _ (fNum "step" n.val :: stepFields (stepWritten a act t))⟩⟩
    refine (hrun.trans (if_neg (by simp [hp]))).trans ?_
    simp only [storePlan, State.modCfg, found_cfg]
    rfl

/-! ### PLAN START (R53, R68) -/

/-- The end step is the first end mark at or after the entry, or step 47 (R53). -/
theorem endStepOf_eq {e last : StepIx} (hle : e ≤ last) (hno : ∀ n, e ≤ n → n < last → s.cfg.steps[n].endMark = false)
    (hend : s.cfg.steps[last].endMark = true ∨ last = 47) : endStepOf s e = last := by
  have hbefore : ∀ n, n < last → (decide (e ≤ n) && s.cfg.steps[n].endMark) = false := fun n hn => by
    by_cases he : e ≤ n
    · rw [hno n he hn, Bool.and_false]
    · rw [decide_eq_false he, Bool.false_and]
  by_cases hm : s.cfg.steps[last].endMark = true
  · have hfind : ((List.finRange 48).find? fun n => decide (e ≤ n) && s.cfg.steps[n].endMark) = some last := by
      refine List.find?_eq_some_iff_getElem.mpr ⟨by rw [hm, decide_eq_true hle]; rfl, last.val, by simp, by simp,
        fun j hj => ?_⟩
      rw [List.getElem_finRange]
      exact congrArg (!·) (hbefore _ hj)
    rw [endStepOf, hfind, Option.getD_some]
  · have h47 : last = 47 := hend.resolve_left hm
    have hfind : ((List.finRange 48).find? fun n => decide (e ≤ n) && s.cfg.steps[n].endMark) = none := by
      refine List.find?_eq_none.mpr fun n _ => ?_
      rcases lt_or_eq_of_le (show n ≤ last by rw [h47]; exact Fin.le_last n) with hlt | rfl
      · rw [hbefore n hlt]
        exact Bool.false_ne_true
      · exact fun h => hm (Bool.and_eq_true_iff.mp h).2
    rw [endStepOf, hfind, h47, Option.getD_none]

section
variable {k : RunKind}

theorem doPlanStart_active (h : runActive s = true) : doPlanStart (some k) s = (s, errReply .state) := by
  simp only [doPlanStart, h, if_true, refuse]

theorem doPlanStart_noEntry (h : runActive s = false) (he : entryOf s k = none) :
    doPlanStart (some k) s = (s, errReply .range) := by
  simp only [doPlanStart, h, he, Bool.false_eq_true, if_false, refuse]

theorem doPlanStart_source (h : runActive s = false) (he : entryOf s k ≠ none) (hk : k = .up)
    (hg : s.source.state ≠ .grid) : doPlanStart (some k) s = (s, errReply .source) := by
  obtain ⟨e, he⟩ := Option.ne_none_iff_exists'.mp he
  simp only [doPlanStart, h, he, Bool.false_eq_true, if_false, if_pos (And.intro hk hg), refuse]

theorem doPlanStart_starts {e : StepIx} (h : runActive s = false) (he : entryOf s k = some e)
    (hg : k = .up → s.source.state = .grid) :
    doPlanStart (some k) s = (startRun k e .host s, okWith [fNum "entry" e.val, fNum "end" (endStepOf s e).val,
      fYes "unt" (!s.cfg.steps[endStepOf s e].endMark)]) := by
  have hn : ¬ (k = .up ∧ s.source.state ≠ .grid) := fun ⟨hk, hs⟩ => hs (hg hk)
  simp only [doPlanStart, h, he, Bool.false_eq_true, if_false, if_neg hn]

end

theorem found_runActive (l : LineId) (i : Instr) (s : State) : runActive (found l i s) = runActive s := by
  simp only [runActive, found_run]

/-- Settles O41: the three refusals in their order, and the run that is set. -/
theorem planStartSetsTheRun : Obligations.PlanStartSetsTheRun := by
  intro l k s i entry h
  have hact := found_runActive l i s
  have hentry : entryOf (found l i s) k = entry := by cases k <;> simp only [entryOf, found_cfg, entry]
  have hsrc := found_source_state l i s
  refine ⟨fun ha => .of_runCommand rfl h (doPlanStart_active (hact.trans ha)),
    fun ha he => .of_runCommand rfl h (doPlanStart_noEntry (hact.trans ha) (hentry.trans he)),
    fun ha he hk hg => .of_runCommand rfl h (doPlanStart_source (hact.trans ha) (by rwa [hentry]) hk (by rwa [hsrc])),
    fun e last ha he hg ⟨hle, hno, hend⟩ => .of_runCommand rfl h ?_⟩
  have hlast : endStepOf (found l i s) e = last :=
    endStepOf_eq hle (fun n => by rw [found_cfg]; exact hno n) (by rwa [found_cfg])
  have hrun := doPlanStart_starts (hact.trans ha) (hentry.trans he) fun hk => hsrc.trans (hg hk)
  refine hrun.trans ?_
  simp only [startRun, hlast, found_cfg, found_now, found_work, State.setRun, markPlan, State.modWork]

end
end Sys2Proof.Machine
end

section
/-! PLAN PAUSE, PLAN RESUME and PLAN STOP (R63, R66, R67, R69, R70). -/

namespace Sys2Proof.Machine

section
variable {s t u : State} {c : Ch} {l : List Ch} {r : Run}

/-! ### The outstanding members are withdrawn (R42) -/

theorem foldl_drop_dequeues (hc : c ∈ l) (q : List Entry) :
    c ∉ queuedChans (l.foldl (fun q c => q.filterMap (Entry.drop c)) q) := by
  have hout : ∀ (l : List Ch) (q : List Entry), c ∉ queuedChans q →
      c ∉ queuedChans (l.foldl (fun q c => q.filterMap (Entry.drop c)) q) := by
    intro l
    induction l with
    | nil => exact fun _ hq => hq
    | cons a l ih =>
      refine fun q hq => ih _ ?_
      rw [queuedChans_drop]
      exact fun hm => hq (List.mem_of_mem_filter hm)
  induction l generalizing q with
  | nil => exact absurd hc List.not_mem_nil
  | cons a l ih =>
    rcases List.mem_cons.mp hc with rfl | hc
    · refine hout l _ ?_
      rw [queuedChans_drop]
      simp
    · exact ih hc _

/-- A withdrawal puts no channel into the queue. -/
theorem withdraw_queued_subset {d : Ch} (w : Withdrawal) (h : c ∉ queuedChans s.budget.queue) :
    c ∉ queuedChans (withdraw d w s).budget.queue := by
  rw [withdraw_queued]
  split
  · exact fun hm => h (List.mem_of_mem_filter hm)
  · exact h

/-- The members of a list have left the queue and are not PENDING; every other channel is as before. -/
structure Withdrawn (l : List Ch) (s u : State) : Prop where
  members : ∀ c ∈ l, c ∉ queuedChans u.budget.queue ∧ (u.ch c).state ≠ .pending
  others : ∀ c, c ∉ l → u.ch c = s.ch c

/-- What is told of the channels and the budget holds of a state with the same. -/
theorem Withdrawn.of_same (h : Withdrawn l s t) (hc : u.chans = t.chans) (hb : u.budget = t.budget) :
    Withdrawn l s u := by
  have hch : ∀ c, u.ch c = t.ch c := fun c => by rw [State.ch, hc, State.ch]
  exact ⟨fun c hm => by rw [hb, hch]; exact h.members c hm, fun c hm => by rw [hch]; exact h.others c hm⟩

theorem withdrawOutstanding_withdrawn (l : List Ch) (s : State) : Withdrawn l s (withdrawOutstanding l s) := by
  let v := s.modRun fun r => { r with outstanding := [] }
  have hch : ∀ d, (withdrawAll l .own v).ch d = _ := withdrawAll_ch l .own v
  refine ⟨fun c hc => ⟨?_, ?_⟩, fun c hc => (hch c).trans (if_neg fun h => hc h.1)⟩
  · obtain ⟨b, k, t, hu, hq⟩ := withdrawAll_eq l .own v
    have hb : c ∉ queuedChans b.queue := by rw [hq]; exact foldl_drop_dequeues hc _
    show c ∉ queuedChans (withdrawAll l .own v).budget.queue
    rw [hu]
    exact forEach_keeps (fun t => c ∉ queuedChans t.budget.queue) _ (fun _ _ => withdraw_queued_subset .own) l _ hb
  · show ((withdrawAll l .own v).ch c).state ≠ .pending
    rw [hch]
    split
    · simp [Channel.withdrawn]
    · next hp => exact fun h => hp ⟨hc, h⟩

/-! ### A run ends (R62, R66, R67) -/

/-- The record of a run that has ended. -/
def Run.ended (st : RunState) (r : Run) : Run :=
  { r with state := st, gap := none, gapLeft := 0, outstanding := [], pauseCause := none }

/-- The end of a run is its record, nothing left to do for it, and PLAN ENDED (R62). -/
theorem endRun_eq (st : RunState) (n : Nat) (h : s.run = some r) :
    endRun st n s = raise .planEnded (some r.cursor.val) (some n) (some r.done)
      { s with run := some (r.ended st), work := { s.work with plan := .idle } } := by
  simp only [endRun, h, State.modRun, markPlan, State.modWork, Option.map_some, Run.ended]

theorem runActive_eq (h : s.run = some r) : runActive s = r.active := by simp only [runActive, h]

theorem abortRun_inactive (n : Nat) (h : runActive s = false) : abortRun n s = s := by
  simp only [abortRun]
  split
  · next r hr => rw [if_neg (by simp [← runActive_eq hr, h])]
  · rfl

theorem abortRun_active (n : Nat) (h : s.run = some r) (ha : r.active = true) :
    abortRun n s = endRun .aborted n (withdrawOutstanding r.outstanding s) := by
  simp only [abortRun, h, ha, if_true]

theorem abortRun_run (n : Nat) (h : s.run = some r) (ha : r.active = true) :
    (abortRun n s).run = some (r.ended .aborted) := by
  rw [abortRun_active n h ha, endRun_eq .aborted n (withdrawOutstanding_run h _), raise_run]
  rfl

theorem abortRun_withdrawn (n : Nat) (h : s.run = some r) (ha : r.active = true) :
    Withdrawn r.outstanding s (abortRun n s) := by
  rw [abortRun_active n h ha, endRun_eq .aborted n (withdrawOutstanding_run h _)]
  exact (withdrawOutstanding_withdrawn r.outstanding s).of_same (raise_chans ..) (raise_budget ..)

theorem abortRun_flag (n : Nat) (h : s.run = some r) (ha : r.active = true) :
    (abortRun n s).link.flags.plan = true := by
  rw [abortRun_active n h ha, endRun_eq .aborted n (withdrawOutstanding_run h _), raise_flags]
  rfl

/-! ### A run is paused and goes on (R63, R69) -/

theorem pauseRun_withdrawn (k : RunBy) (h : s.run = some r) (ha : r.state = .running ∨ r.state = .waiting) :
    Withdrawn r.outstanding s (pauseRun k s) := by
  obtain ⟨n, m, hu⟩ := pauseRun_eq k h ha
  rw [hu]
  exact (withdrawOutstanding_withdrawn r.outstanding s).of_same (raise_chans ..) (raise_budget ..)

theorem pauseRun_idles (k : RunBy) (h : s.run = some r) (ha : r.state = .running ∨ r.state = .waiting) :
    (pauseRun k s).work.plan = .idle := by
  obtain ⟨n, m, hu⟩ := pauseRun_eq k h ha
  rw [hu, raise_work]
  rfl

/-- The record of a run that goes on after a pause (R69). -/
def Run.resumed (r : Run) : Run := { r with state := .running, pauseCause := none }

theorem resumeRun_step (h : s.run = some r) (hp : r.phase = .step) :
    resumeRun s = { s with run := some r.resumed, work := { s.work with plan := .exec } } := by
  simp only [resumeRun, h, hp, State.modRun, markPlan, State.modWork, Option.map_some, Run.resumed]

theorem resumeRun_gap (h : s.run = some r) (hp : r.phase = .gap) (hg : r.gapLeft ≠ 0) :
    resumeRun s = { s with run := some { r.resumed with gap := some (s.timer r.gapLeft) } } := by
  simp only [resumeRun, h, hp, hg, if_false, State.modRun, Option.map_some, Run.resumed, State.timer]

theorem resumeRun_gapOver (h : s.run = some r) (hp : r.phase = .gap) (hg : r.gapLeft = 0) :
    resumeRun s = { s with
      run := some { r.resumed with phase := .step, cursor := r.cursor + 1, gap := none }
      work := { s.work with plan := .exec } } := by
  simp only [resumeRun, h, hp, hg, if_true, State.modRun, markPlan, State.modWork, Option.map_some, Run.resumed]

/-! ### The three commands by run state -/

theorem doPlanPause_active (h : s.run = some r) (ha : r.state = .running ∨ r.state = .waiting) :
    doPlanPause s = (pauseRun .host s, okReply) := by
  rcases ha with ha | ha <;> simp only [doPlanPause, h, ha]

theorem doPlanPause_paused (h : s.run = some r) (hp : r.state = .paused) :
    doPlanPause s = ({ s with run := some { r with pauseCause := some .host } }, okReply) := by
  simp only [doPlanPause, h, hp, State.modRun, Option.map_some]

theorem doPlanResume_state (h : s.run = some r) (hp : r.state ≠ .paused) : doPlanResume s = (s, errReply .state) := by
  simp only [doPlanResume, h, if_pos hp, refuse]

theorem doPlanResume_source (h : s.run = some r) (hp : r.state = .paused) (hk : r.kind = .up)
    (hg : s.source.state ≠ .grid) : doPlanResume s = (s, errReply .source) := by
  simp only [doPlanResume, h, hp, hk, hg, ne_eq, not_true, not_false_eq_true, and_self, if_true, if_false, refuse]

theorem doPlanResume_resumes (h : s.run = some r) (hp : r.state = .paused)
    (hg : r.kind = .down ∨ s.source.state = .grid) :
    doPlanResume s = (settle (resumeRun s), okWith [runStateField (settle (resumeRun s))]) := by
  have hn : ¬ (r.kind = .up ∧ s.source.state ≠ .grid) := by
    rintro ⟨hk, hs⟩
    rcases hg with hg | hg
    · rw [hk] at hg; cases hg
    · exact hs hg
  simp only [doPlanResume, h, hp, ne_eq, not_true, if_false, if_neg hn]

/-- Without an active run there is nothing to pause, to resume or to stop (R67, R69, R70). -/
theorem planCommands_inactive (h : ∀ r, s.run = some r → r.state = .done ∨ r.state = .aborted) :
    doPlanPause s = (s, errReply .state) ∧ doPlanResume s = (s, errReply .state) ∧
      doPlanStop s = (s, errReply .state) := by
  cases hr : s.run with
  | none => simp only [doPlanPause, doPlanResume, doPlanStop, runActive, hr, refuse, Bool.false_eq_true, if_false, and_self]
  | some r =>
    rcases h r hr with hs | hs <;>
      simp only [doPlanPause, doPlanResume, doPlanStop, runActive, Run.active, hr, hs, refuse, ne_eq, reduceCtorEq,
        not_false_eq_true, Bool.false_eq_true, if_true, if_false, and_self]

theorem Run.active_iff (r : Run) : r.active = true ↔ r.state = .running ∨ r.state = .waiting ∨ r.state = .paused := by
  unfold Run.active
  cases r.state <;> simp

end

/-- Settles O42: each command without an active run, at a run that goes on, and at a paused one. -/
theorem planPauseResumeAndStopByRunState : Obligations.PlanPauseResumeAndStopByRunState := by
  refine ⟨fun l s hs i hi h => ?_, fun l s r hr ha => ⟨fun h => ?_, fun h => ?_⟩,
    fun l s r hr hp => ⟨fun h => ?_, fun h hk hg => ?_, fun h hg => ?_⟩, fun l s r hr ha h => ?_⟩
  · obtain ⟨hpause, hresume, hstop⟩ := planCommands_inactive (s := found l i s) (by simpa using hs)
    simp only [List.mem_cons, List.not_mem_nil, or_false] at hi
    rcases hi with rfl | rfl | rfl
    · exact .of_runCommand rfl h hpause
    · exact .of_runCommand rfl h hresume
    · exact .of_runCommand rfl h hstop
  · refine .of_runCommand rfl h (doPlanResume_state ((found_run ..).trans hr) ?_)
    rcases ha with ha | ha <;> simp [ha]
  · have hr' := (found_run l (.planPause l) s).trans hr
    obtain ⟨hmembers, hothers⟩ := pauseRun_withdrawn .host hr' ha
    refine ⟨_, .of_runCommand rfl h (doPlanPause_active hr' ha), ?_, hmembers,
      fun c hc => (hothers c hc).trans (found_ch ..), pauseRun_flag .host hr' ha, pauseRun_idles .host hr' ha⟩
    have hleft : (found l (.planPause l) s).left = s.left := by funext t; simp only [State.left, found_now]
    rw [pauseRun_run .host hr' ha, hleft]
    cases r.gap <;> rfl
  · exact .of_runCommand rfl h (doPlanPause_paused ((found_run ..).trans hr) hp)
  · exact .of_runCommand rfl h (doPlanResume_source ((found_run ..).trans hr) hp hk (by rwa [found_source_state]))
  · have hr' := (found_run l (.planResume l) s).trans hr
    refine ⟨_, resumeRun (found l (.planResume l) s), _,
      .of_runCommand rfl h (doPlanResume_resumes hr' hp (by rwa [found_source_state])), rfl, rfl,
      fun hph => ?_, fun hph hg0 => ?_, fun hph hg0 => ?_⟩
    · rw [resumeRun_step hr' hph, found_work]
      rfl
    · have htimer : (found l (.planResume l) s).timer r.gapLeft = ⟨s.now, r.gapLeft⟩ := by rw [State.timer, found_now]
      rw [resumeRun_gap hr' hph hg0, htimer]
      rfl
    · rw [resumeRun_gapOver hr' hph hg0, found_work]
      rfl
  · have hr' := (found_run l (.planStop l) s).trans hr
    have hact := r.active_iff.mpr ha
    obtain ⟨hmembers, hothers⟩ := abortRun_withdrawn 2 hr' hact
    exact ⟨_, .of_runCommand rfl h (if_pos ((runActive_eq hr').trans hact)), abortRun_run 2 hr' hact, hmembers,
      fun c hc => (hothers c hc).trans (found_ch ..), abortRun_flag 2 hr' hact⟩

end Sys2Proof.Machine
end

section
/-! The execution and the completion of a plan step (R54 to R62, R66). -/

namespace Sys2Proof.Machine

section
variable {s t : State} {r : Run}

/-! ### The completion of a step (R54, R62) -/

theorem completeStep_gap (h : s.run = some r) (hc : r.cursor ≠ r.endStep) (hg : s.cfg.steps[r.cursor].gap ≠ 0) :
    completeStep s = { s with run := some { r with
      state := .running, phase := .gap, done := r.done + 1, gap := some ⟨s.now, s.cfg.steps[r.cursor].gap⟩
      gapLeft := s.cfg.steps[r.cursor].gap } } := by
  simp only [completeStep, h, if_neg hc, State.modRun, if_neg hg, Option.map_some, State.timer]

theorem completeStep_next (h : s.run = some r) (hc : r.cursor ≠ r.endStep) (hg : s.cfg.steps[r.cursor].gap = 0) :
    completeStep s = { s with
      run := some { r with
        state := .running, phase := .step, cursor := r.cursor + 1, done := r.done + 1, gap := none, gapLeft := 0 }
      work := { s.work with plan := .exec } } := by
  simp only [completeStep, h, if_neg hc, State.modRun, if_pos hg, Option.map_some, markPlan, State.modWork]

/-- The completion of the end step ends the run (R62). -/
theorem completeStep_last (h : s.run = some r) (hc : r.cursor = r.endStep) :
    completeStep s = raise .planEnded (some r.cursor.val) (some (if r.unterminated then 1 else 0)) (some (r.done + 1))
      { s with
        run := some { r with
          state := .done, done := r.done + 1, gap := none, gapLeft := 0, outstanding := [], pauseCause := none }
        work := { s.work with plan := .idle } } := by
  have hcounted : (s.modRun fun r => { r with done := r.done + 1 }).run = some { r with done := r.done + 1 } := by
    rw [State.modRun, h]
    rfl
  simp only [completeStep, h, if_pos hc]
  exact endRun_eq .done _ hcounted

/-! ### A completion that stands when the reserve request comes (R56, R60, R66) -/

theorem drainPlan_idle (n : Nat) (h : s.work.plan = .idle) : drainPlan n s = s := by
  cases n with
  | zero => rfl
  | succ n => exact if_pos h

/-- A completion after which the run waits is all there is to carry through. -/
theorem drainPlan_completes (h : s.work.plan = .complete) (hi : (completeStep (markPlan .idle s)).work.plan = .idle) :
    drainPlan Config.planFuel s = completeStep (markPlan .idle s) := by
  have hwork : planWork s = completeStep (markPlan .idle s) := by simp only [planWork, h]
  have hstep : drainPlan Config.planFuel s = drainPlan 95 (planWork s) := if_neg (by simp [h])
  rw [hstep, hwork, drainPlan_idle _ hi]

theorem reserveRequest_ends (h : s.run = some r) (hw : s.work.plan = .complete) (hc : r.cursor = r.endStep) :
    (reserveRequest none s).run = some { r with
      state := .done, done := r.done + 1, gap := none, gapLeft := 0, outstanding := [], pauseCause := none } := by
  have hdone := completeStep_last (s := markPlan .idle s) h hc
  have hrun := congrArg State.run hdone
  rw [raise_run] at hrun
  have hdrain := drainPlan_completes hw (by rw [hdone, raise_work])
  rw [reserveRequest, hdrain, abortRun_inactive 3 ((runActive_eq hrun).trans rfl), hrun]

theorem reserveRequest_aborts (h : s.run = some r) (hw : s.work.plan = .complete) (hc : r.cursor ≠ r.endStep)
    (hg : s.cfg.steps[r.cursor].gap ≠ 0) :
    (reserveRequest none s).run = some { r with
      state := .aborted, phase := .gap, done := r.done + 1, gap := none, gapLeft := 0, outstanding := []
      pauseCause := none } := by
  have hgap := completeStep_gap (s := markPlan .idle s) h hc hg
  have hdrain := drainPlan_completes hw (by rw [hgap]; rfl)
  rw [reserveRequest, hdrain, abortRun_run 3 (congrArg State.run hgap) rfl]
  rfl

/-! ### A START step in GRID (R55) -/

/-- The members of a START step that pass the tests of CHANNEL START. -/
def PlanStep.startables (p : PlanStep) (s : State) : List Ch := p.members.filter fun c => (startReason s c).isNone

theorem PlanStep.members_sorted (p : PlanStep) : p.members.Pairwise (· < ·) := by
  simp only [PlanStep.members]
  split
  · next t _ =>
    cases t with
    | chan c => exact List.pairwise_singleton ..
    | gang g =>
      show (gangMembers g).Pairwise (· < ·)
      exact (List.sortedLT_finRange 24).pairwise.filter _
  · exact List.Pairwise.nil

/-- A sorted list of the members that pass is the list of them. -/
theorem PlanStep.eq_startables {p : PlanStep} {passing : List Ch} (hp : passing.Pairwise (· < ·))
    (hm : ∀ c, c ∈ passing ↔ c ∈ p.members ∧ Startable s c) : passing = p.startables s :=
  hp.eq_of_mem_iff (p.members_sorted.filter _) fun c => by
    rw [hm, PlanStep.startables, List.mem_filter, Option.isNone_iff_eq_none, startReason_none]

theorem skipMember_spec (c : Ch) (n : Nat) (h : s.run = some r) :
    ∃ k ta, skipMember c n s = { s with
      run := some { r with skipped := satInc 65535 r.skipped }, link := k, tally := ta } := by
  simp only [skipMember, h]
  rw [raise_spec]
  simp only [State.modRun, h, count_spec, Option.map_some]
  exact ⟨_, _, rfl⟩

/-- The failing members are counted as skipped, up to the limit of the count; else only reports and tallies change. -/
theorem forEach_skipFailing_spec (s : State) (ms : List Ch) (h : t.run = some r) (hr : r.skipped ≤ 65535) :
    ∃ k ta, forEach ms (skipFailing s) t = { t with
      run := some { r with
        skipped := min 65535 (r.skipped + (ms.filter fun c => !(startReason s c).isNone).length) }
      link := k, tally := ta } := by
  induction ms generalizing t r with
  | nil =>
    refine ⟨t.link, t.tally, ?_⟩
    rw [List.filter_nil, List.length_nil, Nat.add_zero, Nat.min_eq_right hr, ← h]
    rfl
  | cons c ms ih =>
    show ∃ k ta, forEach ms (skipFailing s) (skipFailing s c t) = _
    cases hs : startReason s c with
    | none =>
      obtain ⟨k, ta, hu⟩ := ih h hr
      refine ⟨k, ta, ?_⟩
      rw [skipFailing, hs, List.filter_cons_of_neg (by simp [hs])]
      exact hu
    | some n =>
      obtain ⟨k, ta, hv⟩ := skipMember_spec c n h
      have hsat : satInc 65535 r.skipped = min 65535 (r.skipped + 1) := by simp only [satInc]; split <;> omega
      have hskip : skipFailing s c t = skipMember c n t := by simp only [skipFailing, hs]
      obtain ⟨k', ta', hu⟩ := ih (congrArg State.run hv) (show satInc 65535 r.skipped ≤ 65535 by omega)
      refine ⟨k', ta', ?_⟩
      rw [hskip, hu, hv, List.filter_cons_of_pos (by simp [hs]), List.length_cons, hsat]
      have hsum : ∀ n, min 65535 (min 65535 (r.skipped + 1) + n) = min 65535 (r.skipped + (n + 1)) := fun n => by omega
      simp only [hsum]

theorem startStep_none {p : PlanStep} (h : p.startables s = []) :
    startStep p s = markPlan .complete (forEach p.members (skipFailing s) s) := by
  have hpass : (p.members.filter fun c => (startReason s c).isNone) = [] := h
  simp only [startStep, hpass]

/-- The members that pass join as one entry: a SINGLE for a channel, a GANG for a gang (R55). -/
theorem startStep_joins {p : PlanStep} (h : p.startables s ≠ []) :
    ∃ nm, startStep p s = join nm .plan ((forEach p.members (skipFailing s) s).modRun fun r =>
        { r with state := .waiting, outstanding := p.startables s }) ∧
      (∀ u, (newEntry nm .plan u).chans = p.startables s) ∧
      (∀ c, p.target = some (.chan c) → nm = .single c) ∧
      ∀ g, p.target = some (.gang g) → nm = .gang g (p.startables s) := by
  obtain ⟨c, l, hl⟩ := List.exists_cons_of_ne_nil h
  have hpass : (p.members.filter fun c => (startReason s c).isNone) = c :: l := hl
  simp only [startStep, hpass, hl]
  cases ht : p.target with
  | none => simp [PlanStep.members, ht] at hpass
  | some x =>
    cases x with
    | chan d =>
      have hone : (c :: l).Sublist [d] := by
        have hsub : (p.members.filter fun c => (startReason s c).isNone).Sublist p.members := List.filter_sublist
        rwa [hpass, PlanStep.members, ht] at hsub
      obtain ⟨rfl, rfl⟩ : c = d ∧ l = [] := by simpa using hone
      exact ⟨_, rfl, fun _ => rfl, fun _ hd => (by cases hd; rfl), fun _ hg => (by cases hg)⟩
    | gang g => exact ⟨_, rfl, fun _ => rfl, fun _ hd => (by cases hd), fun _ hg => (by cases hg; rfl)⟩

/-! ### A STOP step (R57) -/

theorem markForStop_run (c : Ch) (w : StopCause) (s : State) : (markForStop c w s).run = s.run := by
  cases w <;> simp only [markForStop]
  case leak => rfl
  all_goals split <;> rfl

theorem switchOff_run (c : Ch) (s : State) : (switchOff c s).run = s.run := by simp [switchOff]

theorem startWarning_run (c : Ch) (s : State) : (startWarning c s).run = s.run := by
  simp only [startWarning, takeWarningExpiry]
  split
  · split
    · rw [switchOff_run, enterState_run]; rfl
    · rw [enterState_run]; rfl
  · rw [enterState_run]; rfl

/-- While no member is outstanding, a graceful stop leaves the run alone. -/
theorem gracefulStop_run (w : StopCause) (c : Ch) (h : NoneOutstanding s) : (gracefulStop w c s).run = s.run := by
  have hm := markForStop_run c w s
  simp only [gracefulStop]
  split
  · rw [startWarning_run, hm]
  · rw [withdraw_run (by rwa [NoneOutstanding, hm]), hm]
  · rw [switchOff_run, hm]
  all_goals exact hm

/-! ### A step by its action (R54, R55, R57 to R61) -/

/-- The record of a run whose step begins. -/
def Run.begun (r : Run) : Run := { r with state := .running, phase := .step, outstanding := [] }

/-- The state in which a step of a run begins. -/
def stepBegun (r : Run) (s : State) : State := { s with run := some r.begun }

theorem stepBegun_eq (h : s.run = some r) :
    (s.modRun fun r => { r with state := .running, phase := .step, outstanding := [] }) = stepBegun r s := by
  rw [State.modRun, h]
  rfl

theorem executeStep_delay (h : s.run = some r) (ha : s.cfg.steps[r.cursor].action = .delay) :
    executeStep s = markPlan .complete (stepBegun r s) := by
  simp only [executeStep, h, stepBegun_eq h]
  simp only [stepBegun, ha]

theorem executeStep_awaitGrid (h : s.run = some r) (ha : s.cfg.steps[r.cursor].action = .awaitGrid) :
    executeStep s = if s.source.state = .grid then markPlan .complete (stepBegun r s)
      else { s with run := some { r.begun with state := .waiting } } := by
  simp only [executeStep, h, stepBegun_eq h]
  simp only [stepBegun, ha, State.modRun, Option.map_some]
  rfl

theorem executeStep_awaitOn (h : s.run = some r) (ha : s.cfg.steps[r.cursor].action = .awaitOn) :
    executeStep s = if awaitOnMet s r = true then markPlan .complete (stepBegun r s)
      else { s with run := some { r.begun with state := .waiting } } := by
  simp only [executeStep, h, stepBegun_eq h]
  simp only [stepBegun, ha, State.modRun, Option.map_some]
  rfl

theorem executeStep_stop (h : s.run = some r) (ha : s.cfg.steps[r.cursor].action = .stop) :
    executeStep s =
      markPlan .complete (forEach s.cfg.steps[r.cursor].members (gracefulStop .plan) (stepBegun r s)) := by
  simp only [executeStep, h, stepBegun_eq h]
  simp only [stepBegun, ha]

theorem executeStep_start (h : s.run = some r) (ha : s.cfg.steps[r.cursor].action = .start) :
    executeStep s = if s.source.state = .grid then startStep s.cfg.steps[r.cursor] (stepBegun r s)
      else match r.kind with
        | .down => markPlan .complete (stepBegun r s)
        | .up => stepBegun r s := by
  simp only [executeStep, h, stepBegun_eq h]
  simp only [stepBegun, ha]
  rfl

theorem awaitOnMet_iff (s : State) (r : Run) :
    awaitOnMet s r = true ↔ ∀ c ∈ r.admittedSet, (s.ch c).state ≠ .ramping := by
  simp [awaitOnMet]

/-- What a STOP step does to its members, and to the run (R57). -/
theorem executeStep_stop_spec (h : s.run = some r) (ha : s.cfg.steps[r.cursor].action = .stop) :
    (executeStep s).run = some r.begun ∧ (executeStep s).work.plan = .complete ∧
      ∀ c, (executeStep s).ch c = if c ∈ s.cfg.steps[r.cursor].members
        then (s.ch c).stopped s.now (warningTime s c) else s.ch c := by
  rw [executeStep_stop h ha]
  refine ⟨?_, rfl, fun c => ?_⟩
  · exact forEach_keeps (fun t => t.run = some r.begun) _
      (fun c t ht => (gracefulStop_run .plan c fun _ hr => Option.some.inj (ht.symm.trans hr) ▸ rfl).trans ht) _
      (stepBegun r s) rfl
  · exact forEach_gracefulStop_ch .plan _ (PlanStep.members_nodup _) (stepBegun r s) c

/-- A START step in GRID skips the failing members, and the others, if there are any, join as one entry (R55). -/
theorem executeStep_start_grid (h : s.run = some r) (ha : s.cfg.steps[r.cursor].action = .start)
    (hg : s.source.state = .grid) (hk : r.skipped ≤ 65535) {pass : List Ch} {n : Nat}
    (hpass : s.cfg.steps[r.cursor].startables s = pass)
    (hn : n = min 65535 (r.skipped + (s.cfg.steps[r.cursor].members.length - pass.length))) :
    (pass = [] → ∃ k ta, executeStep s = { s with
      run := some { r.begun with skipped := n }, work := { s.work with plan := .complete }, link := k, tally := ta }) ∧
    (pass ≠ [] → ∃ nm k ta, executeStep s = join nm .plan { s with
        run := some { r.begun with state := .waiting, outstanding := pass, skipped := n }, link := k, tally := ta } ∧
      (∀ u, (newEntry nm .plan u).chans = pass) ∧
      (∀ c, s.cfg.steps[r.cursor].target = some (.chan c) → nm = .single c) ∧
      ∀ g, s.cfg.steps[r.cursor].target = some (.gang g) → nm = .gang g pass) := by
  have hcount : (s.cfg.steps[r.cursor].members.filter fun c => !(startReason s c).isNone).length =
      s.cfg.steps[r.cursor].members.length - pass.length := by
    have hlen := s.cfg.steps[r.cursor].members.length_eq_length_filter_add fun c => (startReason s c).isNone
    rw [← hpass, PlanStep.startables]
    omega
  obtain ⟨k, ta, hskip⟩ := forEach_skipFailing_spec (stepBegun r s) s.cfg.steps[r.cursor].members
    (t := stepBegun r s) (r := r.begun) rfl hk
  have hu : forEach s.cfg.steps[r.cursor].members (skipFailing (stepBegun r s)) (stepBegun r s) =
      { s with run := some { r.begun with skipped := n }, link := k, tally := ta } := by
    rw [hskip, hn, ← hcount]
    rfl
  rw [executeStep_start h ha, if_pos hg]
  refine ⟨fun h0 => ⟨k, ta, ?_⟩, fun hne => ?_⟩
  · rw [startStep_none (s := stepBegun r s) (hpass.trans h0), hu]
    rfl
  · obtain ⟨nm, hj, hchans, hsingle, hgang⟩ := startStep_joins (s := stepBegun r s)
      (p := s.cfg.steps[r.cursor]) (fun e => hne (hpass.symm.trans e))
    have hpass' : s.cfg.steps[r.cursor].startables (stepBegun r s) = pass := hpass
    rw [hpass'] at hj hchans hgang
    refine ⟨nm, k, ta, ?_, hchans, hsingle, hgang⟩
    rw [hj, hu]
    rfl

end

/-- Settles O55: a step by its action, the completion that stands at a reserve request, and a completion by its gap. -/
theorem planStepsByAction : Obligations.PlanStepsByAction := by
  refine ⟨fun s r passing hr hk => ?_, fun s r hr hw => ⟨reserveRequest_ends hr hw, reserveRequest_aborts hr hw⟩,
    fun s r hr => ⟨completeStep_gap hr, completeStep_next hr, fun hc => ?_⟩⟩
  · intro p u begun completes waits skipped hsorted hmem
    have hpass : p.startables s = passing := (PlanStep.eq_startables hsorted hmem).symm
    refine ⟨fun ha => executeStep_delay hr ha, fun ha hg => (executeStep_awaitGrid hr ha).trans (if_pos hg),
      fun ha hg => (executeStep_awaitGrid hr ha).trans (if_neg hg),
      fun ha hm => (executeStep_awaitOn hr ha).trans (if_pos ((awaitOnMet_iff s r).mpr hm)),
      fun ha ⟨c, hc, hs⟩ => (executeStep_awaitOn hr ha).trans (if_neg fun hm => (awaitOnMet_iff s r).mp hm c hc hs),
      fun ha => ?_, fun ha hg hd => ?_, fun ha hg hu => ?_, fun ha hg h0 => ?_, fun ha hg hne => ?_⟩
    · obtain ⟨hrun, hplan, hch⟩ := executeStep_stop_spec hr ha
      exact ⟨hrun, hplan, fun c hc => (hch c).trans (if_neg hc), fun c hc => (hch c).trans (if_pos hc)⟩
    · exact (executeStep_start hr ha).trans ((if_neg hg).trans (by rw [hd]; rfl))
    · exact (executeStep_start hr ha).trans ((if_neg hg).trans (by rw [hu]; rfl))
    · obtain ⟨k, ta, hu⟩ := (executeStep_start_grid hr ha hg hk hpass rfl).1 h0
      show (executeStep s).chans = _ ∧ (executeStep s).budget = _ ∧ (executeStep s).work.plan = _ ∧
        (executeStep s).run = _
      rw [hu]
      exact ⟨rfl, rfl, rfl, rfl⟩
    · obtain ⟨nm, k, ta, hu, hchans, hsingle, hgang⟩ := (executeStep_start_grid hr ha hg hk hpass rfl).2 hne
      let t : State := { s with
        run := some { begun with state := .waiting, outstanding := passing, skipped := skipped }, link := k, tally := ta }
      have hut : u = join nm .plan t := hu
      have hch := join_ch (hchans t) hg (hsorted.imp fun {a b} hab => ne_of_lt hab)
      obtain ⟨v, x, w, hj, hw⟩ := join_spec nm .plan (s := t) hg (by rwa [hchans])
      refine ⟨by rw [hut, hj], fun c => (congrArg (·.ch c) hut).trans (hch c), fun c hc => ?_, fun g hc => ?_, ?_, ?_⟩
      · rw [hut, hj, hsingle c hc]
        rfl
      · rw [hut, hj, hgang g hc]
        rfl
      · rw [hut, hj]
      · rw [hut, hj]
        exact hw
  · refine ⟨_, rfl, ?_⟩
    rw [completeStep_last hr hc]
    refine ⟨raise_run .., raise_congr _ _ _ _ rfl rfl rfl rfl, raise_chans .., raise_budget .., ?_⟩
    constructor <;> simp

end Sys2Proof.Machine
end

section
/-! The qualify and walk-in timers, the entry into GRID, and what it starts (R65, R68, R101, R102, R122, R124, R126). -/

namespace Sys2Proof.Machine

section
variable {s t u : State} {r : Run}

/-! ### The set-points at a change of source state (R95) -/

/-- A change of source state: the source record, the set-points of the slots, an evaluation and a restore pass due (R95). -/
theorem enterSource_spec (st : SrcState) (o : Option ReturnFrom) (s : State) :
    ∃ h : Shelf, enterSource st o s = { s with
        shelf := h
        source := { s.source with
          state := st, origin := o, since := s.now, qualify := none, walkIn := none
          chargeFirst := if st = .grid then s.source.chargeFirst else false }
        work := { s.work with eval := true, restore := true } } ∧
      (∀ n : RmSlot, h.rect[n] =
        { s.shelf.rect[n] with walkIn := if st = .handback then some s.cfg.ride.walk else none }) ∧
      ∀ n : BmSlot, h.batt[n] = { s.shelf.batt[n] with discharge := dischargeOf st } := by
  simp only [enterSource, setSetPoints, markRestore, markEval, State.modShelf, State.modSource, State.modWork]
  exact ⟨_, rfl, fun n => by simp, fun n => by simp⟩

/-! ### The run at an entry into GRID (R65) -/

theorem planEnteredGrid_resumes (h : s.run = some r) (hk : r.kind = .up) (hp : r.state = .paused)
    (hc : r.pauseCause = some .source) : planEnteredGrid s = resumeRun s := by
  simp only [planEnteredGrid, h, hk, hp, hc, and_self, if_true]

theorem planEnteredGrid_completes (h : s.run = some r) (hk : r.kind = .down) (hw : r.state = .waiting)
    (ha : s.cfg.steps[r.cursor].action = .awaitGrid) : planEnteredGrid s = markPlan .complete s := by
  simp only [planEnteredGrid, h, hk, hw, ha, and_self, if_true]

theorem planEnteredGrid_keeps (h : ∀ r : Run, s.run = some r →
      (r.kind = .up → r.state ≠ .paused ∨ r.pauseCause ≠ some .source) ∧
      (r.kind = .down → r.state ≠ .waiting ∨ s.cfg.steps[r.cursor].action ≠ .awaitGrid)) :
    planEnteredGrid s = s := by
  simp only [planEnteredGrid]
  split
  · next r hr =>
    obtain ⟨hup, hdown⟩ := h r hr
    split
    · next hk => exact if_neg fun ⟨h1, h2⟩ => (hup hk).elim (· h1) (· h2)
    · next hk => exact if_neg fun ⟨h1, h2⟩ => (hdown hk).elim (· h1) (· h2)
  · rfl

theorem planEnteredGrid_runEntersGrid (s : State) : RunEntersGrid s (planEnteredGrid s) where
  resumes r hr hk hp hc := by
    rw [planEnteredGrid_resumes hr hk hp hc]
    refine ⟨fun hph => ?_, fun hph hg => ?_, fun hph hg => ?_⟩
    · rw [resumeRun_step hr hph]
      exact ⟨rfl, rfl⟩
    · rw [resumeRun_gap hr hph hg]
      exact ⟨rfl, rfl⟩
    · rw [resumeRun_gapOver hr hph hg]
      exact ⟨rfl, rfl⟩
  completes r hr hk hw ha := by
    rw [planEnteredGrid_completes hr hk hw ha]
    exact ⟨rfl, rfl⟩
  keeps h := by
    rw [planEnteredGrid_keeps h]
    exact ⟨rfl, rfl⟩

/-- What becomes of the run is told from its record and what it has to do alone. -/
theorem RunEntersGrid.of_same (h : RunEntersGrid s t) (hr : u.run = t.run) (hw : u.work.plan = t.work.plan) :
    RunEntersGrid s u :=
  ⟨by rw [hr, hw]; exact h.resumes, by rw [hr, hw]; exact h.completes, by rw [hr, hw]; exact h.keeps⟩

/-- Resuming a run changes its record and what it has to do alone. -/
theorem resumeRun_spec (s : State) : ∃ x p, resumeRun s = { s with run := x, work := { s.work with plan := p } } := by
  simp only [resumeRun]
  split
  · split
    · exact ⟨_, _, rfl⟩
    · split
      · exact ⟨_, _, rfl⟩
      · exact ⟨_, _, rfl⟩
  · exact ⟨_, _, rfl⟩

theorem planEnteredGrid_spec (s : State) :
    ∃ x p, planEnteredGrid s = { s with run := x, work := { s.work with plan := p } } := by
  simp only [planEnteredGrid]
  split
  · split
    · split
      · exact resumeRun_spec s
      · exact ⟨_, _, rfl⟩
    · split
      · exact ⟨_, _, rfl⟩
      · exact ⟨_, _, rfl⟩
  · exact ⟨_, _, rfl⟩

theorem resumesAtGrid_iff (s : State) : resumesAtGrid s = true ↔
    ∃ r, s.run = some r ∧ r.kind = .up ∧ r.state = .paused ∧ r.pauseCause = some .source := by
  cases h : s.run with
  | none => simp [resumesAtGrid, h]
  | some r => simp [resumesAtGrid, h, and_assoc]

/-! ### The entry into GRID (R102) -/

/-- The state in which the Sequence Engine is told that the rack is in GRID: the ladder re-armed, nothing placed by
restore, charge-first decided, with the set-points of `h` (R95, R102). -/
def gridEntered (first : Bool) (h : Shelf) (s : State) : State :=
  { s with
    shelf := h
    source := { s.source with
      state := .grid, origin := none, since := s.now, level := 0, reserveTaken := false, qualify := none
      walkIn := none, chargeFirst := first, placed := [] }
    work := { s.work with eval := true, restore := true } }

theorem enterGrid_eq (s : State) : ∃ first h n,
    enterGrid s = (raiseRideEnd s.source.level n (planEnteredGrid (gridEntered first h s))).modWork (fun w => { w with
        autoUp := s.cfg.charge.autoUp && decide (s.source.origin = some ReturnFrom.down) && !resumesAtGrid s }) ∧
      (∀ n : RmSlot, h.rect[n].walkIn = none) ∧ ∀ n : BmSlot, h.batt[n].discharge = false := by
  obtain ⟨h, hsrc, hrect, hbatt⟩ := enterSource_spec .grid none s
  simp only [enterGrid, hsrc]
  generalize chargeFirstNow _ = first
  exact ⟨first, h, _, rfl, fun n => congrArg Rect.walkIn (hrect n), fun n => congrArg Batt.discharge (hbatt n)⟩

/-- All that an entry into GRID does (R65, R95, R102). -/
theorem enterGrid_spec (s : State) :
    ∃ first h x p k ta, enterGrid s = { gridEntered first h s with
        run := x, link := k, tally := ta
        work := { s.work with
          eval := true, plan := p, restore := true
          autoUp := s.cfg.charge.autoUp && decide (s.source.origin = some ReturnFrom.down) && !resumesAtGrid s } } ∧
      (∀ n : RmSlot, h.rect[n].walkIn = none) ∧ (∀ n : BmSlot, h.batt[n].discharge = false) ∧
      k.flags.source = true ∧ RunEntersGrid s (enterGrid s) := by
  obtain ⟨first, h, n, hu, hrect, hbatt⟩ := enterGrid_eq s
  let v := gridEntered first h s
  have hrun : RunEntersGrid v (planEnteredGrid v) := planEnteredGrid_runEntersGrid v
  have hrun' : RunEntersGrid s (planEnteredGrid v) := ⟨hrun.resumes, hrun.completes, hrun.keeps⟩
  obtain ⟨x, p, hv⟩ := planEnteredGrid_spec v
  refine ⟨first, h, x, p, (raiseRideEnd s.source.level n (planEnteredGrid v)).link,
    (raiseRideEnd s.source.level n (planEnteredGrid v)).tally, ?_, hrect, hbatt, ?_, ?_⟩
  · rw [hu, show planEnteredGrid (gridEntered first h s) = _ from hv, raiseRideEnd, raise_spec]
    rfl
  · rw [raiseRideEnd, raise_flags]
    rfl
  · rw [hu]
    exact hrun'.of_same (raise_run ..) (by rw [State.modWork_work, raiseRideEnd, raise_work])

/-! ### The two expiries -/

theorem takeQualifyExpiry_idle (h : s.source.qualify = none ∨ s.source.state ≠ .qualify) : takeQualifyExpiry s = s :=
  if_neg fun ⟨h1, h2⟩ => h.elim (fun e => by simp [e] at h1) (· h2)

theorem takeQualifyExpiry_handback (h : s.source.qualify.isSome) (hs : s.source.state = .qualify)
    (hw : s.cfg.ride.walk ≠ 0) : takeQualifyExpiry s =
      (enterSource .handback s.source.origin s).modSource fun x => { x with walkIn := some ⟨s.now, s.cfg.ride.walk⟩ } :=
  (if_pos ⟨h, hs⟩).trans (if_neg hw)

theorem takeQualifyExpiry_grid (h : s.source.qualify.isSome) (hs : s.source.state = .qualify)
    (hw : s.cfg.ride.walk = 0) : takeQualifyExpiry s = enterGrid (enterSource .handback s.source.origin s) :=
  (if_pos ⟨h, hs⟩).trans (if_pos hw)

theorem takeWalkInExpiry_idle (h : s.source.walkIn = none ∨ s.source.state ≠ .handback) : takeWalkInExpiry s = s :=
  if_neg fun ⟨h1, h2⟩ => h.elim (fun e => by simp [e] at h1) (· h2)

/-! ### The auto-restore pass (R122, R124) -/

theorem mem_eligibleOfTier {n : Nat} {c : Ch} :
    c ∈ eligibleOfTier s n ↔ (s.chCfg c).tier.val = n ∧ eligibleForRestore s c = true := by
  simp [eligibleOfTier, allCh]

/-- The eligible channels stand in ascending tier and, within a tier, in ascending index (R122). -/
theorem eligibleInOrder_pairwise (s : State) : (eligibleInOrder s).Pairwise fun a b =>
    (s.chCfg a).tier < (s.chCfg b).tier ∨ (s.chCfg a).tier = (s.chCfg b).tier ∧ a < b := by
  refine List.pairwise_flatMap.mpr ⟨fun n _ => ?_, ?_⟩
  · refine List.Pairwise.imp_of_mem (fun ha hb hab => .inr ⟨Fin.ext ?_, hab⟩)
      ((List.sortedLT_finRange 24).pairwise.filter _ : (eligibleOfTier s n).Pairwise (· < ·))
    exact (mem_eligibleOfTier.mp ha).1.trans (mem_eligibleOfTier.mp hb).1.symm
  · refine List.Pairwise.imp (fun {m n} hmn a ha b hb => .inl ?_) (show [0, 1, 2, 3].Pairwise (· < ·) by decide)
    rw [Fin.lt_def, (mem_eligibleOfTier.mp ha).1, (mem_eligibleOfTier.mp hb).1]
    exact hmn

theorem mem_eligibleInOrder {c : Ch} : c ∈ eligibleInOrder s ↔ eligibleForRestore s c = true := by
  have htier : (s.chCfg c).tier.val ∈ [0, 1, 2, 3] := by
    have hlt := (s.chCfg c).tier.isLt
    simp only [List.mem_cons, List.not_mem_nil, or_false]
    omega
  simp only [eligibleInOrder, List.mem_flatMap, mem_eligibleOfTier]
  exact ⟨fun ⟨_, _, _, h⟩ => h, fun h => ⟨_, htier, rfl, h⟩⟩

/-- The eligible channels that pass a further test, in their order (R122). -/
theorem restoreOrder_filter {more : Ch → Prop} {p : Ch → Bool} (hp : ∀ c, p c = true ↔ more c) :
    RestoreOrder s more ((eligibleInOrder s).filter p) := by
  refine ⟨(eligibleInOrder_pairwise s).filter _, fun c => ?_⟩
  rw [List.mem_filter, mem_eligibleInOrder, hp]
  simp only [eligibleForRestore, Bool.and_eq_true, beq_iff_eq, List.isEmpty_iff, and_assoc]

/-- The entry with which a channel is placed by restore (R122). -/
def restoreEntry (s : State) (c : Ch) : Entry := ⟨.single c, none, .restore, s.now, false, false⟩

/-- One channel that is placed: an entry at the tail, and a member of the restore-placed set (R124). -/
theorem autoPlace_spec (c : Ch) (hg : s.source.state = .grid) :
    ∃ v i x w, autoPlace c s = { s with
      chans := v
      budget := { s.budget with queue := s.budget.queue ++ [restoreEntry s c], inflight := i, late := x }
      source := { s.source with placed := setInsert c s.source.placed }
      work := w } := by
  obtain ⟨v, i, w, h, -⟩ := join_spec (.single c) .restore hg (List.cons_ne_nil c [])
  exact ⟨v, i, _, _, by rw [autoPlace, placeRestore, h]; rfl⟩

theorem autoPlace_ch (c d : Ch) (s : State) :
    (autoPlace c s).ch d = if d = c then
      if s.source.state = .grid then { s.ch c with state := .pending, since := s.now } else s.ch c else s.ch d := by
  show (join (.single c) .restore s).ch d = _
  by_cases hg : s.source.state = .grid
  · rw [join_ch (l := [c]) rfl hg (List.nodup_singleton c), if_pos hg]
    by_cases hd : d = c <;> simp [hd]
  · rw [join, if_neg hg, if_neg hg]
    split
    · next hd => rw [hd]
    · rfl

theorem autoPlace_source_state (c : Ch) (s : State) : (autoPlace c s).source.state = s.source.state := by
  by_cases hg : s.source.state = .grid
  · obtain ⟨v, i, x, w, h⟩ := autoPlace_spec c hg
    rw [h]
  · show (join (.single c) .restore s).source.state = _
    rw [join, if_neg hg]

theorem forEach_autoPlace_ch {js : List Ch} (hn : js.Nodup) (hg : s.source.state = .grid) (d : Ch) :
    (forEach js autoPlace s).ch d =
      if d ∈ js then { s.ch d with state := .pending, since := s.now } else s.ch d := by
  have h := forEach_ch autoPlace
    (fun now _ st _ r => if st = .grid then { r with state := .pending, since := now } else r)
    (fun c t => ⟨congrArg Fixed.now (autoPlace_fixed c t), congrArg Fixed.cfg (autoPlace_fixed c t),
      autoPlace_source_state c t⟩) autoPlace_ch js hn s d
  rw [h, if_pos hg]

/-- Channels placed one after the other: their entries at the tail in the same order, and all of them remembered. -/
theorem forEach_autoPlace_spec (js : List Ch) (hg : s.source.state = .grid) :
    ∃ v i x p w, forEach js autoPlace s = { s with
        chans := v
        budget := { s.budget with queue := s.budget.queue ++ js.map (restoreEntry s), inflight := i, late := x }
        source := { s.source with placed := p }
        work := w } ∧
      ∀ c, c ∈ p ↔ c ∈ s.source.placed ∨ c ∈ js := by
  induction js generalizing s with
  | nil =>
    refine ⟨s.chans, s.budget.inflight, s.budget.late, s.source.placed, s.work, ?_, by simp⟩
    rw [List.map_nil, List.append_nil]
    rfl
  | cons c js ih =>
    obtain ⟨v, i, x, w, hc⟩ := autoPlace_spec c hg
    obtain ⟨v', i', x', p', w', hjs, hp⟩ := ih (s := autoPlace c s) ((autoPlace_source_state c s).trans hg)
    refine ⟨v', i', x', p', w', ?_, fun d => ?_⟩
    · have hnow : restoreEntry (autoPlace c s) = restoreEntry s := by
        funext d
        rw [restoreEntry, hc]
        rfl
      show forEach js autoPlace (autoPlace c s) = _
      rw [hjs, hnow, hc]
      simp only [List.map_cons, List.append_assoc, List.singleton_append]
    · rw [hp, hc, mem_setInsert, List.mem_cons]
      tauto

theorem autoRestoreHolds_iff (s : State) : autoRestoreHolds s = true ↔
    s.source.policy = .auto ∧ s.source.state = .grid ∧ s.source.chargeFirst = false := by
  simp [autoRestoreHolds, and_assoc]

/-- The channels that an auto-restore pass places (R124). -/
def autoRestored (s : State) : List Ch := (eligibleInOrder s).filter fun c => !s.source.placed.contains c

theorem autoRestored_nodup (s : State) : (autoRestored s).Nodup := (eligibleInOrder_nodup s).filter _

theorem autoRestored_order (s : State) : RestoreOrder s (fun c => c ∉ s.source.placed) (autoRestored s) :=
  restoreOrder_filter fun c => by simp

/-! ### The auto power-up (R68, R126) -/

theorem requestUpRun_refused (h : runActive s = true ∨ s.cfg.up = none) : requestUpRun s = s := by
  simp only [requestUpRun]
  split
  · rfl
  · next ha => rw [h.resolve_left ha]

theorem requestUpRun_starts {e : StepIx} (h : runActive s = false) (he : s.cfg.up = some e) :
    requestUpRun s = startRun .up e .source s := by
  simp only [requestUpRun, h, he, Bool.false_eq_true, if_false]

end

/-- Settles O19: the two expiries, the auto-restore pass, and the auto power-up request. -/
theorem qualifyAndWalkInExpiries : Obligations.QualifyAndWalkInExpiries := by
  refine ⟨fun s hp => ⟨fun h => .of_event_eq rfl hp (takeQualifyExpiry_idle h), fun h hs hw => ?_, fun h hs hw => ?_⟩,
    fun s hp => ⟨fun h => .of_event_eq rfl hp (takeWalkInExpiry_idle h), fun h hs => ?_⟩,
    fun s => ⟨fun h => ?_, fun hpol hg hcf => ?_⟩, fun s => ⟨requestUpRun_refused, fun e ha he => ?_⟩⟩
  · obtain ⟨g, hsrc, hrect, hbatt⟩ := enterSource_spec .handback s.source.origin s
    refine ⟨_, .of_event_eq rfl hp (takeQualifyExpiry_handback h hs hw), ?_⟩
    rw [hsrc]
    exact ⟨rfl, hrect, hbatt, rfl, rfl, rfl, rfl, ⟨rfl, rfl⟩, rfl, ⟨rfl, rfl, rfl, rfl, rfl, rfl, rfl, rfl, rfl, rfl⟩⟩
  · obtain ⟨first, g, x, p, k, ta, hu, -⟩ := enterGrid_spec (enterSource .handback s.source.origin s)
    refine ⟨_, .of_event_eq rfl hp (takeQualifyExpiry_grid h hs hw), ?_⟩
    rw [hu]
    exact ⟨rfl, rfl⟩
  · obtain ⟨first, g, x, p, k, ta, hu, hrect, hbatt, hflag, hrun⟩ := enterGrid_spec s
    refine ⟨_, .of_event_eq rfl hp (if_pos ⟨h, hs⟩), ?_⟩
    rw [hu] at hrun ⊢
    refine ⟨rfl, rfl, rfl, rfl, rfl, rfl, rfl, rfl, hrect, hbatt, hrun, hflag, rfl, rfl, ?_⟩
    rw [← resumesAtGrid_iff]
    simp only [Bool.and_eq_true, decide_eq_true_eq, Bool.not_eq_true', Bool.not_eq_true, and_assoc]
  · refine if_neg fun hh => ?_
    obtain ⟨h1, h2, h3⟩ := (autoRestoreHolds_iff s).mp hh
    rcases h with h | h | h
    · exact h h1
    · exact h h2
    · simp [h3] at h
  · have hu : autoRestore s = forEach (autoRestored s) autoPlace s :=
      if_pos ((autoRestoreHolds_iff s).mpr ⟨hpol, hg, hcf⟩)
    have hch := fun d => forEach_autoPlace_ch (autoRestored_nodup s) hg d
    obtain ⟨v, i, x, p, w, hspec, hplaced⟩ := forEach_autoPlace_spec (autoRestored s) hg
    rw [hu]
    refine ⟨autoRestored s, autoRestored_order s, ?_, hch, ?_⟩
    · rw [hspec]
      rfl
    · rw [hspec]
      exact ⟨hplaced, rfl, ⟨rfl, rfl⟩, rfl, rfl, ⟨rfl, rfl, rfl, rfl, rfl, rfl, rfl, rfl, rfl, rfl⟩⟩
  · rw [requestUpRun_starts ha he]
    exact ⟨_, rfl, rfl, rfl, rfl, rfl, rfl, rfl⟩

end Sys2Proof.Machine
end

section
/-! Reports raised one after the other (R176), and stops that no report, no run and no plan step hears of. -/

namespace Sys2Proof.Machine

section
variable {s t u : State} {c d : Ch} {l : List Ch}

/-! ### What reports leave in the ports -/

theorem joinReport_link_congr (p : Port) (r : Report) (hl : s.link = t.link) :
    (joinReport p r s).link = (joinReport p r t).link := by
  have hp : s.port p = t.port p := by cases p <;> simp only [State.port, hl]
  have hmod : ∀ f, (s.modPort p f).link = (t.modPort p f).link := fun f => by
    simp only [State.modPort, State.modLink, hl]
  simp only [joinReport, hp]
  split
  · exact (count_link ..).trans ((hmod _).trans (count_link ..).symm)
  · exact hmod _

/-- What a report leaves in the ports depends on the time, the routes and the ports alone. -/
theorem raise_link_congr (k : ReportKind) (a b c : Option Nat) (hn : s.now = t.now) (hc : s.cfg = t.cfg)
    (hl : s.link = t.link) : (raise k a b c s).link = (raise k a b c t).link := by
  have hflag : (s.modLink fun l => { l with flags := l.flags.raise k.group }).link =
      (t.modLink fun l => { l with flags := l.flags.raise k.group }).link := by simp only [State.modLink, hl]
  simp only [raise, State.modLink_cfg, hc, hn]
  split
  · exact hflag
  · exact joinReport_link_congr _ _ hflag
  · exact joinReport_link_congr _ _ hflag
  · exact joinReport_link_congr _ _ (joinReport_link_congr _ _ hflag)

/-- A report as `raiseAll` takes it: kind, subject, v1 and v2. -/
abbrev ReportArgs := ReportKind × Option Nat × Option Nat × Option Nat

theorem raiseAll_fixed (l : List ReportArgs) (s : State) : (raiseAll l s).fixed = s.fixed :=
  fixed_forEach _ (fun _ => raise_fixed _ _ _ _) l s

theorem raiseAll_link_congr (l : List ReportArgs) (hn : s.now = t.now) (hc : s.cfg = t.cfg) (hl : s.link = t.link) :
    (raiseAll l s).link = (raiseAll l t).link := by
  induction l generalizing s t with
  | nil => exact hl
  | cons x l ih =>
    exact ih ((raise_now ..).trans (hn.trans (raise_now ..).symm)) ((raise_cfg ..).trans (hc.trans (raise_cfg ..).symm))
      (raise_link_congr _ _ _ _ hn hc hl)

theorem raiseAll_append (l m : List ReportArgs) (s : State) : raiseAll (l ++ m) s = raiseAll m (raiseAll l s) :=
  List.foldl_append

/-- A further report, raised in a state with the ports as the reports before have left them. -/
theorem raise_link_snoc {l : List ReportArgs} (k : ReportKind) (a b c : Option Nat) (hf : t.fixed = s.fixed)
    (hl : t.link = (raiseAll l s).link) : (raise k a b c t).link = (raiseAll (l ++ [(k, a, b, c)]) s).link := by
  have hl' := raiseAll_fixed l s
  rw [raiseAll_append]
  exact raise_link_congr k a b c ((congrArg Fixed.now hf).trans (congrArg Fixed.now hl').symm)
    ((congrArg Fixed.cfg hf).trans (congrArg Fixed.cfg hl').symm) hl

/-! ### Stops of channels that are not queued -/

/-- The ports and the run are as before, and without an active run nothing has come due for it. -/
structure Unheard (s u : State) : Prop where
  link : u.link = s.link
  run : u.run = s.run
  plan : runActive s = false → u.work.plan = s.work.plan

theorem runActive_congr (h : t.run = s.run) : runActive t = runActive s := by simp only [runActive, h]

theorem Unheard.refl (s : State) : Unheard s s := ⟨rfl, rfl, fun _ => rfl⟩

theorem Unheard.trans (h : Unheard s t) (k : Unheard t u) : Unheard s u :=
  ⟨k.link.trans h.link, k.run.trans h.run,
    fun ha => (k.plan ((runActive_congr h.run).trans ha)).trans (h.plan ha)⟩

/-- Without an active run no AWAIT ON step waits (R60). -/
theorem noticeChanged_inactive (c : Ch) (h : runActive s = false) : noticeChanged c s = s := by
  simp only [noticeChanged]
  split
  · next r hr =>
    have hw : r.state ≠ .waiting := fun hw => by
      rw [runActive_eq hr, Run.active, hw] at h
      cases h
    exact if_neg fun ⟨h1, _⟩ => hw h1
  · rfl

theorem enterState_unheard (c : Ch) (st : ChState) (s : State) : Unheard s (enterState c st s) := by
  obtain ⟨t, hu, hr, hp⟩ : ∃ t, enterState c st s = noticeChanged c t ∧ t.run = s.run ∧ t.work.plan = s.work.plan := by
    refine ⟨_, rfl, ?_, ?_⟩
    · repeat' split
      all_goals rfl
    · repeat' split
      all_goals rfl
  refine ⟨enterState_link .., enterState_run .., fun ha => ?_⟩
  rw [hu, noticeChanged_inactive c ((runActive_congr hr).trans ha), hp]

theorem modCh_unheard (c : Ch) (f : Channel → Channel) (s : State) : Unheard s (s.modCh c f) :=
  ⟨rfl, rfl, fun _ => rfl⟩

theorem switchOff_unheard (c : Ch) (s : State) : Unheard s (switchOff c s) :=
  (modCh_unheard c _ s).trans (enterState_unheard c .off _)

theorem startWarning_unheard (c : Ch) (s : State) : Unheard s (startWarning c s) := by
  have henter : Unheard s (enterState c .warning (s.modCh c fun r =>
      { r with warn := some (s.timer (warningTime s c)) })) :=
    (modCh_unheard c _ s).trans (enterState_unheard c .warning _)
  simp only [startWarning, takeWarningExpiry]
  split
  · split
    · exact henter.trans (switchOff_unheard ..)
    · exact henter
  · exact henter

theorem markForStop_unheard (c : Ch) (w : StopCause) (s : State) : Unheard s (markForStop c w s) := by
  cases w <;> simp only [markForStop]
  case ladder | deficit => split <;> exact ⟨rfl, rfl, fun _ => rfl⟩
  all_goals exact ⟨rfl, rfl, fun _ => rfl⟩

theorem gracefulStop_unheard (w : StopCause) (h : (s.ch c).state ≠ .pending) : Unheard s (gracefulStop w c s) := by
  have hm := markForStop_unheard c w s
  simp only [gracefulStop]
  split
  · exact hm.trans (startWarning_unheard ..)
  · next hp => exact absurd hp h
  · exact hm.trans (switchOff_unheard ..)
  all_goals exact hm

theorem cut_unheard (w : StopCause) (h : (s.ch c).state ≠ .pending) : Unheard s (cut w c s) := by
  have hm := markForStop_unheard c w s
  simp only [cut]
  split
  case h_4 hp => exact absurd hp h
  case h_5 | h_6 => exact hm
  all_goals exact hm.trans (switchOff_unheard ..)

/-- Channels that are not queued, stopped one after the other. -/
theorem forEach_unheard {f : Ch → State → State} (hf : ∀ c t, (t.ch c).state ≠ .pending → Unheard t (f c t))
    (hch : ∀ c d t, d ≠ c → (f c t).ch d = t.ch d) (hl : l.Nodup) (hp : ∀ c ∈ l, (s.ch c).state ≠ .pending) :
    Unheard s (forEach l f s) := by
  induction l generalizing s with
  | nil => exact .refl s
  | cons a l ih =>
    obtain ⟨ha, hl'⟩ := List.nodup_cons.mp hl
    refine (hf a s (hp a (List.mem_cons_self ..))).trans (ih hl' fun c hc => ?_)
    rw [hch a c s fun e => ha (e ▸ hc)]
    exact hp c (List.mem_cons_of_mem a hc)

theorem cut_source {w : StopCause} (hw : w ≠ .leak) (c : Ch) (s : State) : (cut w c s).source = s.source := by
  have hm := markForStop_source c w s
  rw [if_neg hw] at hm
  simp only [cut]
  split <;> simp only [withdraw_source, switchOff_source, hm]

/-! ### The live channels are cut (R108, R112) -/

theorem mem_liveChans : c ∈ liveChans s ↔ (s.ch c).state = .ramping ∨ (s.ch c).state = .on ∨ (s.ch c).state = .warning := by
  simp only [liveChans, allCh, List.mem_filter, List.mem_finRange, true_and, Channel.enabled]
  cases (s.ch c).state <;> simp

theorem liveChans_nodup (s : State) : (liveChans s).Nodup := (List.nodup_finRange 24).filter _

theorem cutLive_unheard (s : State) : Unheard s (forEach (liveChans s) (cut .source) s) := by
  refine forEach_unheard (fun c t => cut_unheard .source) (fun c d t hd => by rw [cut_ch, if_neg hd])
    (liveChans_nodup s) fun c hc hp => ?_
  rw [mem_liveChans, hp] at hc
  simp at hc

theorem cutLive_source (s : State) : (forEach (liveChans s) (cut .source) s).source = s.source :=
  forEach_same State.source _ (cut_source (by decide)) _ s

theorem cutLive_fixed (s : State) : (forEach (liveChans s) (cut .source) s).fixed = s.fixed :=
  fixed_forEach _ (cut_fixed .source) _ s

/-- A cut of the live channels is a cut of each channel: the others are OFF, PENDING or FAULTED. -/
theorem cutLive_live (h : (s.ch d).state = .ramping ∨ (s.ch d).state = .on ∨ (s.ch d).state = .warning) :
    (forEach (liveChans s) (cut .source) s).ch d = (s.ch d).switchedOff s.now := by
  rw [forEach_cut_ch .source _ (liveChans_nodup s), if_pos (mem_liveChans.mpr h)]
  rcases h with h | h | h <;> simp only [Channel.marked, Channel.wasCut, h]

theorem cutLive_other (h : (s.ch d).state = .off ∨ (s.ch d).state = .pending ∨ (s.ch d).state = .faulted) :
    (forEach (liveChans s) (cut .source) s).ch d = s.ch d := by
  rw [forEach_cut_ch .source _ (liveChans_nodup s), if_neg]
  rw [mem_liveChans]
  rcases h with h | h | h <;> simp [h]

end
end Sys2Proof.Machine
end

section
/-! The ride evaluation: depletion (R108), the ladder (R109 to R111), the final reserve (R112, R66) and the all-off test
(R104). -/

namespace Sys2Proof.Machine

section
variable {s t u : State} {c d : Ch}

/-! ### The new ladder level (R110) -/

theorem levelHolds_iff (s : State) (n : Nat) : levelHolds s n = true ↔
    candidate s n ≤ dischargeTotal s ∧ s.cfg.ride.target ≤ holdTime s (candidate s n) := by
  simp only [levelHolds, Bool.and_eq_true, decide_eq_true_eq]

theorem chooseLevel_eq {lv : Nat} (hle : s.source.level ≤ lv) (h3 : lv ≤ 3)
    (hno : ∀ j, s.source.level ≤ j → j < lv → ¬ levelHolds s j = true) (hend : levelHolds s lv = true ∨ lv = 3) :
    chooseLevel s = lv := by
  have hbefore : ∀ j, j < lv → (decide (s.source.level ≤ j) && levelHolds s j) = false := fun j hj => by
    by_cases he : s.source.level ≤ j
    · rw [Bool.eq_false_of_not_eq_true (hno j he hj), Bool.and_false]
    · rw [decide_eq_false he, Bool.false_and]
  by_cases hh : levelHolds s lv = true
  · have hfind : ((List.range 4).find? fun j => decide (s.source.level ≤ j) && levelHolds s j) = some lv := by
      refine List.find?_range_eq_some.mpr ⟨by rw [hh, decide_eq_true hle]; rfl, List.mem_range.mpr (by omega),
        fun j hj => ?_⟩
      rw [hbefore j hj]
      rfl
    exact congrArg (·.getD 3) hfind
  · have hlv : lv = 3 := hend.resolve_left hh
    have hfind : ((List.range 4).find? fun j => decide (s.source.level ≤ j) && levelHolds s j) = none := by
      refine List.find?_eq_none.mpr fun j hj => ?_
      rcases Nat.lt_or_eq_of_le (show j ≤ lv by have := List.mem_range.mp hj; omega) with hlt | rfl
      · rw [hbefore j hlt]
        exact Bool.false_ne_true
      · exact fun h => hh (Bool.and_eq_true_iff.mp h).2
    exact (congrArg (·.getD 3) hfind).trans hlv.symm

/-! ### The tiers of the ladder are stopped (R110) -/

/-- A channel of the tiers `ts` that the ladder at level `new` stops. -/
def LadderStops (new : Nat) (ts : List Nat) (s : State) (d : Ch) : Prop :=
  (s.chCfg d).tier.val ∈ ts ∧ 4 ≤ (s.chCfg d).tier.val + new ∧ ((s.ch d).state = .ramping ∨ (s.ch d).state = .on)

/-- The SHED reports for tiers: one for each that is newly included or has a channel to stop. -/
def shedReports (old new : Nat) (ts : List Nat) (s : State) : List ReportArgs :=
  (ts.filter fun n => decide (4 ≤ n + new) && (decide (n + old < 4) || !(tierLive s n).isEmpty)).map fun n =>
    (.shed, some new, some n, some (tierLive s n).length)

/-- Tiers have been stopped by the ladder: their live channels' records and the SHED reports; nothing else. -/
structure TiersShed (old new : Nat) (ts : List Nat) (s u : State) : Prop where
  stops : ∀ d, LadderStops new ts s d → u.ch d = ((s.ch d).marked .ladder).stopped s.now (warningTime s d)
  others : ∀ d, ¬ LadderStops new ts s d → u.ch d = s.ch d
  link : u.link = (raiseAll (shedReports old new ts s) s).link
  run : u.run = s.run
  plan : runActive s = false → u.work.plan = s.work.plan
  source : u.source = s.source
  fixed : u.fixed = s.fixed

/-- The stop of one channel of a tier that the ladder includes. -/
def shedForLadder (c : Ch) (s : State) : State := count .channelsShed (gracefulStop .ladder c s)

theorem shedLadderTier_included {old new n : Nat} (h : 4 ≤ n + new) :
    shedLadderTier old new n s =
      if n + old < 4 ∨ !(tierLive s n).isEmpty then
        raise .shed (some new) (some n) (some (tierLive s n).length) (forEach (tierLive s n) shedForLadder s)
      else forEach (tierLive s n) shedForLadder s := if_pos h

theorem shedForLadder_fixed (c : Ch) (s : State) : (shedForLadder c s).fixed = s.fixed :=
  (count_fixed ..).trans (gracefulStop_fixed ..)

theorem shedForLadder_source (c : Ch) (s : State) : (shedForLadder c s).source = s.source :=
  (count_source ..).trans (gracefulStop_source (by decide) c s)

theorem shedForLadder_ch (c d : Ch) (s : State) : (shedForLadder c s).ch d =
    if d = c then ((s.ch c).marked .ladder).stopped s.now (warningTime s c) else s.ch d :=
  (count_ch ..).trans (gracefulStop_ch ..)

theorem shedForLadder_unheard {c : Ch} (h : (s.ch c).state ≠ .pending) : Unheard s (shedForLadder c s) :=
  (gracefulStop_unheard .ladder h).trans ⟨count_link .., count_run .., fun _ => congrArg Work.plan (count_work ..)⟩

theorem forEach_shedForLadder_ch {l : List Ch} (hl : l.Nodup) (s : State) (d : Ch) :
    (forEach l shedForLadder s).ch d =
      if d ∈ l then ((s.ch d).marked .ladder).stopped s.now (warningTime s d) else s.ch d :=
  forEach_ch shedForLadder
    (fun now cfg st c r => (r.marked .ladder).stopped now
      (if st = .ride then min cfg.chan[c].warn cfg.ride.cap else cfg.chan[c].warn))
    (fun c t => ⟨congrArg Fixed.now (shedForLadder_fixed c t), congrArg Fixed.cfg (shedForLadder_fixed c t),
      by rw [shedForLadder_source]⟩)
    shedForLadder_ch l hl s d

theorem ladderStops_single {new n : Nat} (h : 4 ≤ n + new) (d : Ch) : LadderStops new [n] s d ↔ d ∈ tierLive s n := by
  rw [LadderStops, mem_tierLive, List.mem_singleton]
  exact ⟨fun ⟨h1, _, h3⟩ => ⟨h1, h3⟩, fun ⟨h1, h3⟩ => ⟨h1, by omega, h3⟩⟩

theorem shedLadderTier_tiersShed (old new n : Nat) (s : State) : TiersShed old new [n] s (shedLadderTier old new n s) := by
  by_cases h : 4 ≤ n + new
  · let v := forEach (tierLive s n) shedForLadder s
    have hch := forEach_shedForLadder_ch (tierLive_nodup s n) s
    have hv : Unheard s v := forEach_unheard (fun c t => shedForLadder_unheard)
      (fun c d t hd => by rw [shedForLadder_ch, if_neg hd]) (tierLive_nodup s n) fun c hc hp => by
        obtain ⟨-, hs⟩ := mem_tierLive.mp hc
        simp [hp] at hs
    have hfixed : v.fixed = s.fixed := fixed_forEach _ shedForLadder_fixed _ s
    have hsource : v.source = s.source := forEach_same State.source _ shedForLadder_source _ s
    have hstops : ∀ d, LadderStops new [n] s d →
        v.ch d = ((s.ch d).marked .ladder).stopped s.now (warningTime s d) :=
      fun d hd => (hch d).trans (if_pos ((ladderStops_single h d).mp hd))
    have hothers : ∀ d, ¬ LadderStops new [n] s d → v.ch d = s.ch d :=
      fun d hd => (hch d).trans (if_neg (mt (ladderStops_single h d).mpr hd))
    rw [shedLadderTier_included h]
    by_cases hr : n + old < 4 ∨ !(tierLive s n).isEmpty
    · have hreports : shedReports old new [n] s = [(.shed, some new, some n, some (tierLive s n).length)] := by
        rw [shedReports, List.filter_cons_of_pos (by simpa [h] using hr)]
        rfl
      rw [if_pos hr]
      refine ⟨fun d hd => (raise_ch ..).trans (hstops d hd), fun d hd => (raise_ch ..).trans (hothers d hd), ?_,
        (raise_run ..).trans hv.run, fun ha => (congrArg Work.plan (raise_work ..)).trans (hv.plan ha),
        (raise_source ..).trans hsource, (raise_fixed ..).trans hfixed⟩
      rw [hreports]
      exact raise_link_snoc (l := []) _ _ _ _ hfixed hv.link
    · have hreports : shedReports old new [n] s = [] := by
        rw [shedReports, List.filter_cons_of_neg (by simpa [h] using hr)]
        rfl
      rw [if_neg hr]
      refine ⟨hstops, hothers, ?_, hv.run, hv.plan, hsource, hfixed⟩
      rw [hreports]
      exact hv.link
  · have hreports : shedReports old new [n] s = [] := by
      rw [shedReports, List.filter_cons_of_neg (by simp [h])]
      rfl
    have hnone : ∀ d, ¬ LadderStops new [n] s d := fun d ⟨h1, h2, _⟩ => h (List.mem_singleton.mp h1 ▸ h2)
    have hu : shedLadderTier old new n s = s := if_neg h
    rw [hu]
    refine ⟨fun d hd => absurd hd (hnone d), fun _ _ => rfl, ?_, rfl, fun _ => rfl, rfl, rfl⟩
    rw [hreports]
    rfl

/-- A tier and then further ones: the first leaves the channels of the others as they were. -/
theorem TiersShed.cons {old new n : Nat} {ts : List Nat} (hn : n ∉ ts) (h : TiersShed old new [n] s t)
    (k : TiersShed old new ts t u) : TiersShed old new (n :: ts) s u := by
  have hcfg : t.cfg = s.cfg := congrArg Fixed.cfg h.fixed
  have hnow : t.now = s.now := congrArg Fixed.now h.fixed
  have htier : ∀ d, (t.chCfg d).tier.val = (s.chCfg d).tier.val := fun d => by simp only [State.chCfg, hcfg]
  have hsame : ∀ d, (s.chCfg d).tier.val ∈ ts → t.ch d = s.ch d := fun d hd =>
    h.others d fun ⟨h1, _⟩ => hn (List.mem_singleton.mp h1 ▸ hd)
  have hlater : ∀ d, (s.chCfg d).tier.val ∈ ts → (LadderStops new ts t d ↔ LadderStops new (n :: ts) s d) := fun d hd => by
    simp only [LadderStops, htier, hsame d hd, hd, List.mem_cons, or_true]
  have hfirst : ∀ d, (s.chCfg d).tier.val ∉ ts →
      ¬ LadderStops new ts t d ∧ (LadderStops new [n] s d ↔ LadderStops new (n :: ts) s d) := fun d hd => by
    simp only [LadderStops, htier, hd, List.mem_cons, List.not_mem_nil, or_false, false_and, not_false_eq_true,
      true_and]
  have hlive : ∀ m ∈ ts, tierLive t m = tierLive s m := fun m hm => by
    refine List.filter_congr fun d _ => ?_
    by_cases hd : (s.chCfg d).tier.val = m
    · rw [htier, hsame d (hd ▸ hm)]
    · simp only [htier, beq_eq_false_iff_ne.mpr hd, Bool.false_and]
  have hreports : shedReports old new ts t = shedReports old new ts s := by
    have hfilter : (ts.filter fun n => decide (4 ≤ n + new) && (decide (n + old < 4) || !(tierLive t n).isEmpty)) =
        ts.filter fun n => decide (4 ≤ n + new) && (decide (n + old < 4) || !(tierLive s n).isEmpty) :=
      List.filter_congr fun m hm => by rw [hlive m hm]
    rw [shedReports, shedReports, hfilter]
    exact List.map_congr_left fun m hm => by rw [hlive m (List.mem_of_mem_filter hm)]
  have hcons : shedReports old new (n :: ts) s = shedReports old new [n] s ++ shedReports old new ts s := by
    rw [shedReports, shedReports, shedReports, ← List.map_append, ← List.filter_append, List.singleton_append]
  refine ⟨fun d hd => ?_, fun d hd => ?_, ?_, k.run.trans h.run,
    fun ha => (k.plan ((runActive_congr h.run).trans ha)).trans (h.plan ha), k.source.trans h.source,
    k.fixed.trans h.fixed⟩
  · by_cases hts : (s.chCfg d).tier.val ∈ ts
    · rw [k.stops d ((hlater d hts).mpr hd), hsame d hts, hnow,
        warningTime_congr d hcfg (congrArg Source.state h.source)]
    · rw [k.others d (hfirst d hts).1, h.stops d ((hfirst d hts).2.mpr hd)]
  · by_cases hts : (s.chCfg d).tier.val ∈ ts
    · rw [k.others d (mt (hlater d hts).mp hd), hsame d hts]
    · rw [k.others d (hfirst d hts).1, h.others d (mt (hfirst d hts).2.mp hd)]
  · have hraised := raiseAll_fixed (shedReports old new [n] s) s
    rw [k.link, hreports, hcons, raiseAll_append]
    exact raiseAll_link_congr _ ((congrArg Fixed.now h.fixed).trans (congrArg Fixed.now hraised).symm)
      ((congrArg Fixed.cfg h.fixed).trans (congrArg Fixed.cfg hraised).symm) h.link

theorem forEach_shedLadderTier_tiersShed (old new : Nat) {ts : List Nat} (hts : ts.Nodup) (s : State) :
    TiersShed old new ts s (forEach ts (shedLadderTier old new) s) := by
  induction ts generalizing s with
  | nil => exact ⟨fun d ⟨h, _⟩ => absurd h List.not_mem_nil, fun _ _ => rfl, rfl, rfl, fun _ => rfl, rfl, rfl⟩
  | cons n ts ih =>
    obtain ⟨hn, hts'⟩ := List.nodup_cons.mp hts
    exact (shedLadderTier_tiersShed old new n s).cons hn (ih hts' _)

/-- The source record after the ladder stage (R110, R111). -/
def ladderSource (s : State) (x : Source) : Source :=
  { x with
    level := chooseLevel s, hold := some (holdTime s (candidate s (chooseLevel s)))
    cand := Vector.ofFn fun l => if s.source.level ≤ l.val then some (candidate s l.val) else none }

theorem ladder_tiersShed (s : State) :
    TiersShed s.source.level (chooseLevel s) [3, 2, 1] (s.modSource (ladderSource s)) (ladder s) :=
  forEach_shedLadderTier_tiersShed _ _ (by decide) _

/-- A live channel that the ladder stops is then WARNING or OFF, with its shed mark (R17). -/
theorem Channel.ladder_stopped {r : Channel} (h : r.state = .ramping ∨ r.state = .on) (now : Stamp) (w : Nat) :
    ((r.marked .ladder).stopped now w).state ≠ .on ∧ ((r.marked .ladder).stopped now w).state ≠ .ramping ∧
      ((r.marked .ladder).stopped now w).shed = true := by
  rcases h with h | h
  · simp [Channel.marked, Channel.stopped, h, Channel.switchedOff]
  · by_cases hw : w = 0 <;> simp [Channel.marked, Channel.stopped, h, hw, Channel.switchedOff]

/-! ### What a reserve request makes of the channels (R66) -/

/-- A record that has not come up: RAMPING and ON only where it was before, and the same shed mark. -/
structure Channel.Subsides (r r' : Channel) : Prop where
  on : r'.state = .on → r.state = .on
  ramping : r'.state = .ramping → r.state = .ramping
  shed : r'.shed = r.shed

theorem Channel.Subsides.refl (r : Channel) : r.Subsides r := ⟨id, id, rfl⟩

theorem Channel.Subsides.trans {r r' r'' : Channel} (h : r.Subsides r') (k : r'.Subsides r'') : r.Subsides r'' :=
  ⟨h.on ∘ k.on, h.ramping ∘ k.ramping, k.shed.trans h.shed⟩

theorem Channel.withdrawn_subsides (now : Stamp) (r : Channel) : r.Subsides (r.withdrawn now) :=
  ⟨fun h => (by cases h), fun h => (by cases h), rfl⟩

theorem Channel.switchedOff_subsides (now : Stamp) (r : Channel) : r.Subsides (r.switchedOff now) :=
  ⟨fun h => (by cases h), fun h => (by cases h), rfl⟩

theorem Channel.stopped_subsides (now : Stamp) (w : Nat) (r : Channel) : r.Subsides (r.stopped now w) := by
  cases h : r.state with
  | on =>
    by_cases hw : w = 0
    · simpa only [Channel.stopped, h, if_pos hw] using r.switchedOff_subsides now
    · simp only [Channel.stopped, h, if_neg hw]
      exact ⟨fun e => (by cases e), fun e => (by cases e), rfl⟩
  | ramping => simpa only [Channel.stopped, h] using r.switchedOff_subsides now
  | pending => simpa only [Channel.stopped, h] using r.withdrawn_subsides now
  | warning | off | faulted => simpa only [Channel.stopped, h] using Channel.Subsides.refl r

/-- No channel has come up, and the source record is as before. -/
structure Subsides (s u : State) : Prop where
  chans : ∀ d, (s.ch d).Subsides (u.ch d)
  source : u.source = s.source

theorem Subsides.trans (h : Subsides s t) (k : Subsides t u) : Subsides s u :=
  ⟨fun d => (h.chans d).trans (k.chans d), k.source.trans h.source⟩

theorem Subsides.of_same (hc : u.chans = s.chans) (hs : u.source = s.source) : Subsides s u :=
  ⟨fun d => by rw [State.ch, State.ch, hc]; exact .refl _, hs⟩

theorem completeStep_subsides (s : State) : Subsides s (completeStep s) := by
  cases h : s.run with
  | none => exact .of_same (by simp only [completeStep, h]) (by simp only [completeStep, h])
  | some r =>
    by_cases hc : r.cursor = r.endStep
    · rw [completeStep_last h hc]
      exact .of_same (raise_chans ..) (raise_source ..)
    · by_cases hg : s.cfg.steps[r.cursor].gap = 0
      · rw [completeStep_next h hc hg]
        exact .of_same rfl rfl
      · rw [completeStep_gap h hc hg]
        exact .of_same rfl rfl

theorem executeStep_subsides (hg : s.source.state ≠ .grid) : Subsides s (executeStep s) := by
  cases h : s.run with
  | none => exact .of_same (by simp only [executeStep, h]) (by simp only [executeStep, h])
  | some r =>
    cases ha : s.cfg.steps[r.cursor].action with
    | delay =>
      rw [executeStep_delay h ha]
      exact .of_same rfl rfl
    | awaitGrid =>
      rw [executeStep_awaitGrid h ha, if_neg hg]
      exact .of_same rfl rfl
    | awaitOn =>
      rw [executeStep_awaitOn h ha]
      split <;> exact .of_same rfl rfl
    | start =>
      rw [executeStep_start h ha, if_neg hg]
      split <;> exact .of_same rfl rfl
    | stop =>
      refine ⟨fun d => ?_, ?_⟩
      · rw [(executeStep_stop_spec h ha).2.2 d]
        split
        · exact Channel.stopped_subsides ..
        · exact .refl _
      · rw [executeStep_stop h ha]
        exact forEach_same State.source _ (gracefulStop_source (by decide)) _ (stepBegun r s)

theorem planWork_subsides (hg : s.source.state ≠ .grid) : Subsides s (planWork s) := by
  have hidle : Subsides s (markPlan .idle s) := .of_same rfl rfl
  simp only [planWork]
  split
  · exact hidle
  · exact hidle.trans (executeStep_subsides hg)
  · exact hidle.trans (completeStep_subsides _)

theorem drainPlan_subsides (n : Nat) (hg : s.source.state ≠ .grid) : Subsides s (drainPlan n s) := by
  induction n generalizing s with
  | zero => exact .of_same rfl rfl
  | succ n ih =>
    simp only [drainPlan]
    split
    · exact .of_same rfl rfl
    · have hw := planWork_subsides hg
      exact hw.trans (ih (by rwa [hw.source]))

theorem withdrawOutstanding_subsides (l : List Ch) (s : State) : Subsides s (withdrawOutstanding l s) := by
  refine ⟨fun d => ?_, withdrawAll_source ..⟩
  rw [withdrawOutstanding, withdrawAll_ch]
  split
  · exact Channel.withdrawn_subsides ..
  · exact .refl _

theorem abortRun_subsides (n : Nat) (s : State) : Subsides s (abortRun n s) := by
  cases ha : runActive s with
  | false =>
    rw [abortRun_inactive n ha]
    exact .of_same rfl rfl
  | true =>
    cases h : s.run with
    | none => simp [runActive, h] at ha
    | some r =>
      have hr := withdrawOutstanding_run h r.outstanding
      rw [abortRun_active n h ((runActive_eq h).symm.trans ha), endRun_eq .aborted n hr]
      exact (withdrawOutstanding_subsides ..).trans (.of_same (raise_chans ..) (raise_source ..))

theorem reserveRequest_subsides (x : Option StepIx) (hg : s.source.state ≠ .grid) : Subsides s (reserveRequest x s) := by
  have h : Subsides s (abortRun 3 (drainPlan Config.planFuel s)) :=
    (drainPlan_subsides _ hg).trans (abortRun_subsides 3 _)
  cases x with
  | none => exact h
  | some e => exact h.trans (.of_same rfl rfl)

/-- Without an active run and with nothing due for one, a reserve request reports nothing (R66). -/
theorem reserveRequest_link (x : Option StepIx) (ha : runActive s = false) (hp : s.work.plan = .idle) :
    (reserveRequest x s).link = s.link := by
  have h : abortRun 3 (drainPlan Config.planFuel s) = s := by rw [drainPlan_idle _ hp, abortRun_inactive 3 ha]
  cases x with
  | none => rw [reserveRequest, h]
  | some e =>
    rw [reserveRequest, h]
    rfl

theorem cutLive_subsides (s : State) : Subsides s (forEach (liveChans s) (cut .source) s) := by
  refine ⟨fun d => ?_, cutLive_source s⟩
  cases h : (s.ch d).state with
  | ramping | on | warning =>
    rw [cutLive_live (by simp [h])]
    exact Channel.switchedOff_subsides ..
  | off | pending | faulted =>
    rw [cutLive_other (by simp [h])]
    exact .refl _

/-! ### The final reserve (R112) -/

/-- The final reserve is to be taken (R112). -/
def ReserveDue (s : State) : Prop := s.source.reserveTaken = false ∧ s.source.hold.getD 0 ≤ s.cfg.ride.reserve

theorem reserveStage_skips (h : ¬ ReserveDue s) : reserveStage s = s := if_neg h

/-- The reserve action has been recorded and reported (R112). -/
def reserveReached (s : State) : State :=
  raise .reserveReached (s.cfg.down.map Fin.val) (some (s.source.hold.getD 0)) (some s.source.level)
    (s.modSource fun x => { x with reserveTaken := true })

theorem reserveRequest_cfg (x : Option StepIx) (s : State) : (reserveRequest x s).cfg = s.cfg :=
  congrArg Fixed.cfg (reserveRequest_fixed x s)

theorem reserveStage_down {e : StepIx} (h : ReserveDue s) (he : s.cfg.down = some e) :
    reserveStage s = reserveRequest (some e) (reserveReached s) := by
  refine (if_pos h).trans ?_
  simp only [reserveReached, raise_cfg, State.modSource_cfg, State.modSource_source, reserveRequest_cfg, he]

theorem reserveStage_noEntry (h : ReserveDue s) (he : s.cfg.down = none) :
    reserveStage s = forEach (liveChans (reserveRequest none (reserveReached s))) (cut .source)
      (reserveRequest none (reserveReached s)) := by
  refine (if_pos h).trans ?_
  simp only [reserveReached, raise_cfg, State.modSource_cfg, State.modSource_source, reserveRequest_cfg, he]

/-- The final reserve has been taken. -/
structure ReserveTaken (s u : State) : Prop where
  source : u.source = { s.source with reserveTaken := true }
  chans : ∀ d, (s.ch d).Subsides (u.ch d)
  dark : s.cfg.down = none → ∀ c, (u.ch c).state ≠ .on ∧ (u.ch c).state ≠ .ramping ∧ (u.ch c).state ≠ .warning
  run : ∀ e, s.cfg.down = some e → ∃ r, u.run = some r ∧ r.state = .running ∧ r.kind = .down ∧ r.origin = .source ∧
    r.cursor = e ∧ u.work.plan = .exec
  link : runActive s = false → s.work.plan = .idle → u.link =
    (raise .reserveReached (s.cfg.down.map Fin.val) (some (s.source.hold.getD 0)) (some s.source.level) s).link

theorem reserveStage_takes (h : ReserveDue s) (hg : s.source.state ≠ .grid) : ReserveTaken s (reserveStage s) := by
  have hsource : (reserveReached s).source = { s.source with reserveTaken := true } := raise_source ..
  have hchans : (reserveReached s).chans = s.chans := raise_chans ..
  have hch : ∀ d, (reserveReached s).ch d = s.ch d := fun d => by rw [State.ch, hchans, State.ch]
  have hrun : (reserveReached s).run = s.run := raise_run ..
  have hwork : (reserveReached s).work = s.work := raise_work ..
  have hlink : (reserveReached s).link = (raise .reserveReached (s.cfg.down.map Fin.val) (some (s.source.hold.getD 0))
      (some s.source.level) s).link := raise_link_congr _ _ _ _ rfl rfl rfl
  have hsub : ∀ x, Subsides (reserveReached s) (reserveRequest x (reserveReached s)) := fun x =>
    reserveRequest_subsides x (by rw [hsource]; exact hg)
  have hquiet : ∀ x, runActive s = false → s.work.plan = .idle →
      (reserveRequest x (reserveReached s)).link = (reserveReached s).link := fun x ha hp =>
    reserveRequest_link x ((runActive_congr hrun).trans ha) (by rw [hwork, hp])
  cases he : s.cfg.down with
  | some e =>
    rw [reserveStage_down h he]
    refine ⟨(hsub _).source.trans hsource, fun d => hch d ▸ (hsub _).chans d, fun e0 => (by rw [he] at e0; cases e0),
      fun e' he' => ?_, fun ha hp => (hquiet _ ha hp).trans (by rw [hlink, he])⟩
    obtain rfl : e = e' := Option.some.inj (he.symm.trans he')
    exact ⟨_, rfl, rfl, rfl, rfl, rfl, rfl⟩
  | none =>
    have hcut := cutLive_subsides (reserveRequest none (reserveReached s))
    rw [reserveStage_noEntry h he]
    refine ⟨hcut.source.trans ((hsub _).source.trans hsource),
      fun d => (hch d ▸ (hsub none).chans d).trans (hcut.chans d), fun _ c => ?_, fun e' he' => ?_,
      fun ha hp => ((cutLive_unheard _).link.trans (hquiet _ ha hp)).trans (by rw [hlink, he])⟩
    · cases hc : ((reserveRequest none (reserveReached s)).ch c).state with
      | ramping | on | warning =>
        rw [cutLive_live (by simp [hc])]
        simp [Channel.switchedOff]
      | off | pending | faulted =>
        rw [cutLive_other (by simp [hc])]
        simp [hc]
    · rw [he] at he'
      cases he'

/-! ### The rack goes DOWN (R104, R108) -/

theorem allOff_iff (s : State) : allOff s = true ↔ ∀ c, (s.ch c).state = .off ∨ (s.ch c).state = .faulted := by
  simp [allOff, allCh]

/-- What the entry into DOWN with RIDE END leaves. -/
structure RideEnded (level code : Nat) (s u : State) : Prop where
  chans : u.chans = s.chans
  run : u.run = s.run
  plan : u.work.plan = s.work.plan
  eval : u.work.eval = true
  source : u.source = { s.source with
    state := .down, origin := none, since := s.now, qualify := none, walkIn := none, chargeFirst := false }
  discharge : ∀ n : BmSlot, u.shelf.batt[n].discharge = false
  link : u.link = (raise .rideEnd (some level) (some code) (some (msBetween s.source.outage s.now)) s).link

theorem raiseRideEnd_rideEnded (level code : Nat) (s : State) :
    RideEnded level code s (raiseRideEnd level code (enterSource .down none s)) := by
  obtain ⟨h, hsrc, -, hbatt⟩ := enterSource_spec .down none s
  rw [hsrc, raiseRideEnd]
  refine ⟨raise_chans .., raise_run .., ?_, ?_, raise_source .., fun n => ?_, raise_link_congr _ _ _ _ rfl rfl rfl⟩
  · rw [raise_work]
  · rw [raise_work]
  · rw [raise_shelf]
    exact congrArg Batt.discharge (hbatt n)

theorem testAllOff_stays (h : ¬ (s.source.reserveTaken = true ∧ ∀ c, (s.ch c).state = .off ∨ (s.ch c).state = .faulted)) :
    testAllOff s = s := if_neg fun ⟨_, h1, h2⟩ => h ⟨h1, (allOff_iff s).mp h2⟩

theorem testAllOff_ends (hs : s.source.state = .ride) (hr : s.source.reserveTaken = true)
    (h : ∀ c, (s.ch c).state = .off ∨ (s.ch c).state = .faulted) : RideEnded s.source.level 1 s (testAllOff s) := by
  have hu : testAllOff s = raiseRideEnd s.source.level 1 (enterSource .down none s) :=
    if_pos ⟨hs, hr, (allOff_iff s).mpr h⟩
  rw [hu]
  exact raiseRideEnd_rideEnded ..

end
end Sys2Proof.Machine
end

section
/-! The ride evaluation as a whole (R104, R107 to R112). -/

namespace Sys2Proof.Machine

section
variable {s t u : State} {lv : Nat}

/-- The state in which a ride evaluation is made: its time is recorded (R107). -/
def evaluated (s : State) : State := s.modSource fun x => { x with lastEval := some s.now }

/-- No battery is available, or those that are hold no energy (R108). -/
def Exhausted (s : State) : Prop := (∀ n : BmSlot, s.shelf.batt[n].available = false) ∨ energyTotal s = 0

theorem exhausted_iff (s : State) : Exhausted s ↔
    (allBm.any fun n => s.shelf.batt[n].available) = false ∨ energyTotal s = 0 := by
  simp [Exhausted, allBm]

theorem rideEvaluation_idle (h : s.source.state ≠ .ride) : rideEvaluation s = s := if_neg h

theorem rideEvaluation_depletes (h : s.source.state = .ride) (he : Exhausted s) :
    rideEvaluation s = deplete (evaluated s) := (if_pos h).trans (if_pos ((exhausted_iff s).mp he))

theorem rideEvaluation_stages (h : s.source.state = .ride) (he : ¬ Exhausted s) :
    rideEvaluation s = testAllOff (reserveStage (ladder (evaluated s))) :=
  (if_pos h).trans (if_neg (mt (exhausted_iff s).mpr he))

/-! ### Depletion (R108) -/

/-- The live channels are cut, DEPLETED is raised, and then the rack goes DOWN. -/
theorem deplete_spec (s : State) : ∃ v, RideEnded s.source.level 2 v (deplete s) ∧ v.source = s.source ∧
    v.chans = (forEach (liveChans s) (cut .source) s).chans ∧ v.fixed = s.fixed ∧
    v.link = (raise .depleted none (some (energyTotal s)) (some (liveChans s).length) s).link := by
  let c := forEach (liveChans s) (cut .source) s
  let v := raise .depleted none (some (energyTotal s)) (some (liveChans s).length) c
  have hsource : v.source = s.source := (raise_source ..).trans (cutLive_source s)
  have hfixed : c.fixed = s.fixed := cutLive_fixed s
  have hu : deplete s = raiseRideEnd v.source.level 2 (enterSource .down none v) := rfl
  refine ⟨v, ?_, hsource, raise_chans .., (raise_fixed ..).trans hfixed, ?_⟩
  · rw [hu, hsource]
    exact raiseRideEnd_rideEnded ..
  · exact raise_link_congr _ _ _ _ (congrArg Fixed.now hfixed) (congrArg Fixed.cfg hfixed) (cutLive_unheard s).link

/-! ### The ladder and the final reserve (R110 to R112) -/

/-- The ladder stage of a ride evaluation that has chosen the level `lv`. -/
structure Laddered (lv : Nat) (s v : State) : Prop where
  source : ∃ x, v.source = { s.source with
    lastEval := some s.now, level := lv, cand := x, hold := some (holdTime s (candidate s lv)) }
  stops : ∀ d, LadderStops lv [3, 2, 1] s d → v.ch d = ((s.ch d).marked .ladder).stopped s.now (warningTime s d)
  others : ∀ d, ¬ LadderStops lv [3, 2, 1] s d → v.ch d = s.ch d
  link : v.link = (raiseAll (shedReports s.source.level lv [3, 2, 1] s) s).link
  run : v.run = s.run
  plan : runActive s = false → v.work.plan = s.work.plan
  fixed : v.fixed = s.fixed

theorem ladder_laddered (h : chooseLevel s = lv) : Laddered lv s (ladder (evaluated s)) := by
  subst h
  obtain ⟨hstops, hothers, hlink, hrun, hplan, hsource, hfixed⟩ := ladder_tiersShed (evaluated s)
  exact ⟨⟨_, hsource⟩, hstops, hothers, hlink.trans (raiseAll_link_congr _ rfl rfl rfl), hrun, hplan, hfixed⟩

theorem ladderStops_iff (h : lv ≤ 3) (d : Ch) : LadderStops lv [3, 2, 1] s d ↔
    4 ≤ (s.chCfg d).tier.val + lv ∧ ((s.ch d).state = .ramping ∨ (s.ch d).state = .on) := by
  have hlt := (s.chCfg d).tier.isLt
  simp only [LadderStops, List.mem_cons, List.not_mem_nil, or_false]
  exact ⟨fun h => h.2, fun h => ⟨by omega, h⟩⟩

/-- In the tiers that the level includes no channel stays up, and those that were up have their shed mark (R17, R110). -/
theorem Laddered.included (h : Laddered lv s t) (h3 : lv ≤ 3) {d : Ch} (hd : 4 ≤ (s.chCfg d).tier.val + lv) :
    (t.ch d).state ≠ .on ∧ (t.ch d).state ≠ .ramping ∧
      ((s.ch d).state = .on ∨ (s.ch d).state = .ramping → (t.ch d).shed = true) := by
  by_cases hl : (s.ch d).state = .ramping ∨ (s.ch d).state = .on
  · obtain ⟨hon, hramp, hshed⟩ := Channel.ladder_stopped hl s.now (warningTime s d)
    rw [h.stops d ((ladderStops_iff h3 d).mpr ⟨hd, hl⟩)]
    exact ⟨hon, hramp, fun _ => hshed⟩
  · rw [h.others d fun hs => hl ((ladderStops_iff h3 d).mp hs).2]
    exact ⟨fun e => hl (.inr e), fun e => hl (.inl e), fun e => absurd e.symm hl⟩

/-- The final reserve stage as a whole: its record, and no channel comes up. -/
theorem reserveStage_spec (hg : s.source.state ≠ .grid) :
    (∃ b, (reserveStage s).source = { s.source with reserveTaken := b } ∧
      (b = true ↔ s.source.reserveTaken = true ∨ ReserveDue s)) ∧
    ∀ d, (s.ch d).Subsides ((reserveStage s).ch d) := by
  by_cases h : ReserveDue s
  · have ht := reserveStage_takes h hg
    exact ⟨⟨true, ht.source, by simp [h]⟩, ht.chans⟩
  · rw [reserveStage_skips h]
    exact ⟨⟨s.source.reserveTaken, rfl, by simp [h]⟩, fun d => .refl _⟩

/-- The final reserve is taken in an evaluation of `s` at level `lv` (R112). -/
def TakesReserve (lv : Nat) (s : State) : Prop :=
  s.source.reserveTaken = false ∧ holdTime s (candidate s lv) ≤ s.cfg.ride.reserve

/-- The ladder stage at level `lv` and then the reserve stage. -/
structure Staged (lv : Nat) (s w : State) : Prop where
  source : ∃ x b, w.source = { s.source with
      lastEval := some s.now, level := lv, cand := x, hold := some (holdTime s (candidate s lv)), reserveTaken := b } ∧
    (b = true ↔ s.source.reserveTaken = true ∨ TakesReserve lv s)
  included : ∀ c, 4 ≤ (s.chCfg c).tier.val + lv → (w.ch c).state ≠ .on ∧ (w.ch c).state ≠ .ramping ∧
    ((s.ch c).state = .on ∨ (s.ch c).state = .ramping → (w.ch c).shed = true)
  others : ¬ TakesReserve lv s → ∀ c, (s.chCfg c).tier.val + lv < 4 → w.ch c = s.ch c
  dark : TakesReserve lv s → s.cfg.down = none →
    ∀ c, (w.ch c).state ≠ .on ∧ (w.ch c).state ≠ .ramping ∧ (w.ch c).state ≠ .warning
  run : TakesReserve lv s → ∀ e, s.cfg.down = some e → ∃ r, w.run = some r ∧ r.state = .running ∧ r.kind = .down ∧
    r.origin = .source ∧ r.cursor = e ∧ w.work.plan = .exec
  sheds : ¬ TakesReserve lv s → w.link = (raiseAll (shedReports s.source.level lv [3, 2, 1] s) s).link
  reached : TakesReserve lv s → runActive s = false → s.work.plan = .idle →
    w.link = (raiseAll (shedReports s.source.level lv [3, 2, 1] s ++
      [(.reserveReached, s.cfg.down.map Fin.val, some (holdTime s (candidate s lv)), some lv)]) s).link
  fixed : w.fixed = s.fixed

theorem Laddered.hold (h : Laddered lv s t) : t.source.hold.getD 0 = holdTime s (candidate s lv) := by
  obtain ⟨x, hsource⟩ := h.source
  have hhold : t.source.hold = some (holdTime s (candidate s lv)) := congrArg Source.hold hsource
  rw [hhold, Option.getD_some]

theorem Laddered.reserveTaken (h : Laddered lv s t) : t.source.reserveTaken = s.source.reserveTaken := by
  obtain ⟨x, hsource⟩ := h.source
  rw [hsource]

theorem Laddered.reserveDue_iff (h : Laddered lv s t) : ReserveDue t ↔ TakesReserve lv s := by
  have hcfg : t.cfg = s.cfg := congrArg Fixed.cfg h.fixed
  rw [ReserveDue, TakesReserve, h.hold, h.reserveTaken, hcfg]

theorem Laddered.staged (h : Laddered lv s t) (h3 : lv ≤ 3) (hs : s.source.state ≠ .grid) :
    Staged lv s (reserveStage t) := by
  obtain ⟨x, hsource⟩ := h.source
  have hcfg : t.cfg = s.cfg := congrArg Fixed.cfg h.fixed
  have hlevel : t.source.level = lv := congrArg Source.level hsource
  have hgrid : t.source.state ≠ .grid := by rw [hsource]; exact hs
  have hdue := h.reserveDue_iff
  have htakes : TakesReserve lv s → ReserveTaken t (reserveStage t) := fun ht => reserveStage_takes (hdue.mpr ht) hgrid
  have hskips : ¬ TakesReserve lv s → reserveStage t = t := fun ht => reserveStage_skips (mt hdue.mp ht)
  obtain ⟨⟨b, hb, hbt⟩, hsub⟩ := reserveStage_spec hgrid
  refine ⟨⟨x, b, by rw [hb, hsource], by rw [hbt, hdue, h.reserveTaken]⟩, fun c hc => ?_, fun ht c hc => ?_,
    fun ht he => (htakes ht).dark (hcfg ▸ he), fun ht e he => (htakes ht).run e (hcfg ▸ he),
    fun ht => (congrArg State.link (hskips ht)).trans h.link, fun ht ha hp => ?_,
    (reserveStage_fixed t).trans h.fixed⟩
  · obtain ⟨hon, hramp, hshed⟩ := h.included h3 hc
    exact ⟨mt (hsub c).on hon, mt (hsub c).ramping hramp, fun hl => (hsub c).shed.trans (hshed hl)⟩
  · rw [hskips ht]
    exact h.others c fun hl => by have := ((ladderStops_iff h3 c).mp hl).1; omega
  · have hlink := (htakes ht).link ((runActive_congr h.run).trans ha) ((h.plan ha).trans hp)
    rw [hlink, h.hold, hlevel, hcfg]
    exact raise_link_snoc _ _ _ _ h.fixed h.link

/-! ### The all-off test (R104) -/

/-- The reserve is taken and every channel is OFF or FAULTED. -/
def Cleared (s : State) : Prop :=
  s.source.reserveTaken = true ∧ ∀ c, (s.ch c).state = .off ∨ (s.ch c).state = .faulted

/-- What the all-off test leaves alone, whether it takes the rack DOWN or not. -/
theorem testAllOff_keeps (hs : s.source.state = .ride) :
    (testAllOff s).chans = s.chans ∧ (testAllOff s).run = s.run ∧ (testAllOff s).work.plan = s.work.plan ∧
      (testAllOff s).source.level = s.source.level ∧ (testAllOff s).source.lastEval = s.source.lastEval ∧
      (testAllOff s).source.hold = s.source.hold ∧ (testAllOff s).source.reserveTaken = s.source.reserveTaken := by
  by_cases h : Cleared s
  · obtain ⟨hchans, hrun, hplan, -, hsource, -, -⟩ := testAllOff_ends hs h.1 h.2
    rw [hsource]
    exact ⟨hchans, hrun, hplan, rfl, rfl, rfl, rfl⟩
  · rw [testAllOff_stays h]
    exact ⟨rfl, rfl, rfl, rfl, rfl, rfl, rfl⟩

theorem testAllOff_cleared_iff (hs : s.source.state = .ride) : Cleared (testAllOff s) ↔ Cleared s := by
  obtain ⟨hchans, -, -, -, -, -, hreserve⟩ := testAllOff_keeps hs
  simp only [Cleared, hreserve, State.ch, hchans]

end

/-- Settles O56: no evaluation outside RIDE, depletion, and the ladder with the final reserve and the all-off test. -/
theorem rideEvaluationShedsAndReserves : Obligations.RideEvaluationShedsAndReserves := by
  intro s u exhausted holds
  refine ⟨rideEvaluation_idle, fun hs he => ?_, fun lv hs he hle h3 hno hend => ?_⟩
  · have hu : u = deplete (evaluated s) := rideEvaluation_depletes hs he
    clear_value u
    obtain ⟨v, hended, hvs, hvc, hvf, hvl⟩ := deplete_spec (evaluated s)
    rw [← hu] at hended
    obtain ⟨hchans, -, -, -, hsource, hbatt, hlink⟩ := hended
    have hvf' : v.fixed = s.fixed := hvf
    have hch : ∀ c, u.ch c = (forEach (liveChans s) (cut .source) (evaluated s)).ch c := fun c => by
      rw [State.ch, hchans, hvc]
      rfl
    have hnow : v.now = s.now := congrArg Fixed.now hvf'
    have hdepleted : v.link = (raiseAll [(.depleted, none, some (energyTotal s), some (liveChans s).length)] s).link :=
      hvl.trans (raise_link_congr _ _ _ _ rfl rfl rfl)
    rw [hsource, hvs, hnow]
    refine ⟨rfl, rfl, rfl, rfl, rfl, fun c hc => (hch c).trans (cutLive_live (s := evaluated s) (by tauto)),
      fun c hc => (hch c).trans (cutLive_other (s := evaluated s) hc), hbatt, ?_, ?_⟩
    · rw [hlink, raise_flags]
      rfl
    · rw [hlink, hvs, hnow]
      exact raise_link_snoc _ _ _ _ hvf' hdepleted
  · have hlevel : chooseLevel s = lv := chooseLevel_eq hle h3
      (fun j h1 h2 => mt (levelHolds_iff s j).mp (hno j h1 h2)) (hend.imp_left (levelHolds_iff s lv).mpr)
    have hw : Staged lv s (reserveStage (ladder (evaluated s))) :=
      (ladder_laddered hlevel).staged h3 (by rw [hs]; decide)
    have hu : u = testAllOff (reserveStage (ladder (evaluated s))) := rideEvaluation_stages hs he
    generalize reserveStage (ladder (evaluated s)) = w at hw hu
    clear_value u
    subst hu
    intro pred takes cleared sheds reached ends
    obtain ⟨⟨x, b, hws, hb⟩, hincluded, hothers, hdark, hrun, hsheds, hreached, hwf⟩ := hw
    have hride : w.source.state = .ride := by rw [hws]; exact hs
    have hwnow : w.now = s.now := congrArg Fixed.now hwf
    have huf : (testAllOff w).fixed = s.fixed := (testAllOff_fixed w).trans hwf
    obtain ⟨huc, hur, hup, hul, hue, huh, hut⟩ := testAllOff_keeps hride
    have huch : ∀ c, (testAllOff w).ch c = w.ch c := fun c => by rw [State.ch, huc, State.ch]
    have hstays : ¬ cleared → testAllOff w = w := fun hc => testAllOff_stays (mt (testAllOff_cleared_iff hride).mpr hc)
    have hends : cleared → RideEnded lv 1 w (testAllOff w) := fun hc => by
      obtain ⟨h1, h2⟩ := (testAllOff_cleared_iff hride).mp hc
      have he := testAllOff_ends hride h1 h2
      rwa [hws] at he
    have hended : ∀ l, w.link = (raiseAll l s).link → cleared → (testAllOff w).link = (raiseAll (l ++ [ends]) s).link :=
      fun l hl hc => by
        rw [(hends hc).link, hwnow, hws]
        exact raise_link_snoc _ _ _ _ hwf hl
    refine ⟨by rw [hul, hws], by rw [hue, hws], by rw [huh, hws], by rw [hut, hws]; exact hb,
      fun c hc => huch c ▸ hincluded c hc, fun ht c hc => (huch c).trans (hothers ht c hc),
      fun ht he c => huch c ▸ hdark ht he c, fun ht e he => hur ▸ hup ▸ hrun ht e he, fun hc => ?_, fun hc => ?_,
      fun ht hc => (congrArg State.link (hstays hc)).trans (hsheds ht), fun ht => hended _ (hsheds ht),
      fun ht ha hp hc => (congrArg State.link (hstays hc)).trans (hreached ht ha hp), fun ht ha hp hc => ?_,
      congrArg Fixed.cfg huf, congrArg Fixed.zones huf⟩
    · have hd := hends hc
      rw [hd.source, hwnow]
      exact ⟨rfl, rfl, hd.discharge, hd.eval⟩
    · rw [hstays hc, hws]
      exact ⟨hs, rfl⟩
    · have hl := hended _ (hreached ht ha hp) hc
      rwa [List.append_assoc] at hl

end Sys2Proof.Machine
end

section
/-! The shelf group's flag stays set when the rack leaves GRID (R176): what withdrawals, the pause of a run and a source
test raise sets flags and clears none. -/

namespace Sys2Proof.Machine

section
variable {s : State} {c : Ch} {l : List Ch} {w : Withdrawal}

theorem Flags.raise_shelf {f : Flags} (g : Group) (h : f.shelf = true) : (f.raise g).shelf = true := by
  cases g with
  | shelf => rfl
  | _ => exact h

/-- The condition summary flag of the group SHELF is set. -/
def ShelfFlagged (s : State) : Prop := s.link.flags.shelf = true

theorem ShelfFlagged.raised (k : ReportKind) (a b d : Option Nat) (h : ShelfFlagged s) :
    ShelfFlagged (raise k a b d s) := by
  rw [ShelfFlagged, raise_flags]
  exact Flags.raise_shelf k.group h

theorem ShelfFlagged.ite {t : State} {x : Bool} (hs : ShelfFlagged s) (ht : ShelfFlagged t) :
    ShelfFlagged (if x then s else t) := by
  cases x with
  | true => exact hs
  | false => exact ht

theorem lateCheck_shelfFlagged (h : ShelfFlagged s) : ShelfFlagged (lateCheck s) := by
  simp only [lateCheck]
  split
  · exact h
  · split
    · exact h
    · exact h.raised ..

theorem headGone_shelfFlagged (h : ShelfFlagged s) : ShelfFlagged (headGone s) := by
  simp only [headGone, watchHead]
  split
  · exact h
  · split
    · exact h
    · split
      · exact h
      · exact lateCheck_shelfFlagged (s := s.modBudget _) h

theorem dropFromQueue_shelfFlagged (h : ShelfFlagged s) : ShelfFlagged (dropFromQueue c s) := by
  simp only [dropFromQueue]
  split
  · exact h
  · split
    · exact h
    · exact headGone_shelfFlagged (s := s.modBudget _) h

theorem enterState_shelfFlagged (st : ChState) (h : ShelfFlagged s) : ShelfFlagged (enterState c st s) := by
  rwa [ShelfFlagged, enterState_link]

theorem memberLeft_link (s : State) : (memberLeft s).link = s.link := by
  simp only [memberLeft]
  split
  · split <;> rfl
  · rfl

theorem skipMember_shelfFlagged (n : Nat) (h : ShelfFlagged s) : ShelfFlagged (skipMember c n s) := by
  simp only [skipMember]
  split
  · exact h
  · exact ShelfFlagged.raised (s := count .stepsSkipped (s.modRun _)) _ _ _ _ h

theorem noticeWithdrawn_shelfFlagged (h : ShelfFlagged s) : ShelfFlagged (noticeWithdrawn c w s) := by
  simp only [noticeWithdrawn]
  split
  · split
    · rw [ShelfFlagged, memberLeft_link]
      exact ShelfFlagged.ite (skipMember_shelfFlagged (s := s.modRun _) 4 h) h
    · exact h
  · exact h

theorem withdraw_shelfFlagged (h : ShelfFlagged s) : ShelfFlagged (withdraw c w s) := by
  simp only [withdraw]
  split
  · exact noticeWithdrawn_shelfFlagged (enterState_shelfFlagged .off (dropFromQueue_shelfFlagged h))
  · exact h

theorem forEach_withdraw_shelfFlagged (h : ShelfFlagged s) :
    ShelfFlagged (forEach l (fun c t => withdraw c w t) s) :=
  forEach_keeps ShelfFlagged _ (fun _ _ => withdraw_shelfFlagged) l s h

theorem withdrawAll_shelfFlagged (h : ShelfFlagged s) : ShelfFlagged (withdrawAll l w s) :=
  forEach_withdraw_shelfFlagged (.ite (headGone_shelfFlagged (s := s.modBudget _) h) h)

theorem pauseRun_shelfFlagged (k : RunBy) (h : ShelfFlagged s) : ShelfFlagged (pauseRun k s) := by
  simp only [pauseRun]
  split
  · next r _ =>
    split
    · have hw : ShelfFlagged (withdrawOutstanding r.outstanding s) := withdrawAll_shelfFlagged (s := s.modRun _) h
      exact ShelfFlagged.raised (s := markPlan .idle ((withdrawOutstanding r.outstanding s).modRun _)) _ _ _ _ hw
    · exact h
  · exact h

theorem planLeftGrid_shelfFlagged (h : ShelfFlagged s) : ShelfFlagged (planLeftGrid s) := by
  simp only [planLeftGrid]
  split
  · split
    · exact pauseRun_shelfFlagged .source h
    · exact h
  · exact h

theorem rideFromGrid_shelfFlagged (h : ShelfFlagged s) : ShelfFlagged (rideFromGrid s) := by
  have hplan : ShelfFlagged (planLeftGrid (rideEntered s)) := planLeftGrid_shelfFlagged (s := rideEntered s) h
  have hqueue : ShelfFlagged (emptyQueue (planLeftGrid (rideEntered s))) :=
    forEach_withdraw_shelfFlagged (s := (planLeftGrid (rideEntered s)).modBudget _) hplan
  rw [rideFromGrid_eq, ShelfFlagged, beginRide_flags]
  exact hqueue

/-- An input-loss test sets flags and clears none (R96, R98, R99). -/
theorem testLoss_shelfFlagged (h : ShelfFlagged s) : ShelfFlagged (testLoss s) := by
  have hride : ∀ l, ShelfFlagged (beginRide l (enterSource .ride none s)) := fun l => by
    rw [ShelfFlagged, beginRide_flags]
    exact h
  simp only [testLoss]
  split
  · split
    · exact rideFromGrid_shelfFlagged h
    · exact hride _
    · exact hride _
    all_goals exact h
  · exact h

end
end Sys2Proof.Machine
end

section
/-! The slots of the shelf link (Chapter 4): what one slot's change leaves of the others, and the hand-overs of a slot that
has changed state, each said once (R83, R85, R86). -/

namespace Sys2Proof.Machine

section
variable {s t u v : State}

/-! ### Codes -/

theorem RectState.ofNat_code (x : RectState) : RectState.ofNat x.code = x := by cases x <;> rfl

theorem BattState.ofNat_code (x : BattState) : BattState.ofNat x.code = x := by cases x <;> rfl

theorem RectState.code_injective : Function.Injective RectState.code :=
  Function.LeftInverse.injective RectState.ofNat_code

theorem BattState.code_injective : Function.Injective BattState.code :=
  Function.LeftInverse.injective BattState.ofNat_code

/-! ### What the shelf's records share -/

/-- The shelf record outside the slots: the rotation, the counts and the bus monitor. -/
def Shelf.apart (h : Shelf) : Shelf := { h with rect := Vector.replicate 8 .cold, batt := Vector.replicate 6 .cold }

theorem apart_of_fixed (h : u.fixed = v.fixed) : u.shelf.apart = v.shelf.apart :=
  congrArg (fun x => x.shelf.apart) h

theorem rect_of_fixed (h : u.fixed = v.fixed) (n : RmSlot) : u.shelf.rect[n].bare = v.shelf.rect[n].bare := by
  have e := congrArg (fun x => x.shelf.rect[n]) h
  simpa [State.fixed, Shelf.bare] using e

theorem batt_of_fixed (h : u.fixed = v.fixed) (n : BmSlot) : u.shelf.batt[n].bare = v.shelf.batt[n].bare := by
  have e := congrArg (fun x => x.shelf.batt[n]) h
  simpa [State.fixed, Shelf.bare] using e

theorem counted_of_fixed (h : u.fixed = v.fixed) (n : RmSlot) :
    u.shelf.rect[n].counted = v.shelf.rect[n].counted :=
  show u.shelf.rect[n].bare.counted = v.shelf.rect[n].bare.counted from by rw [rect_of_fixed h]

/-- Input loss is told from the fixed part of the state (R96). -/
theorem inputLoss_of_fixed (h : u.fixed = v.fixed) : inputLoss u = inputLoss v := by
  have hlow : u.shelf.busLow = v.shelf.busLow := congrArg (fun x => x.shelf.busLow) h
  simp only [inputLoss, anyCounted, hlow, counted_of_fixed h]

/-! ### One slot changed -/

theorem State.modRect_rect (n m : RmSlot) (f : Rect → Rect) (s : State) :
    (s.modRect n f).shelf.rect[m] = if m = n then f s.shelf.rect[n] else s.shelf.rect[m] := by
  split
  · next h =>
    subst h
    exact State.modRect_same ..
  · next h =>
    have hne : n.val ≠ m.val := fun e => h (Fin.ext e.symm)
    simp [State.modRect, Vector.getElem_set_ne, hne]

theorem modRect_modRect (n : RmSlot) (f g : Rect → Rect) (s : State) :
    (s.modRect n f).modRect n g = s.modRect n (g ∘ f) := by
  simp [State.modRect, State.modShelf]

theorem modBatt_modBatt (n : BmSlot) (f g : Batt → Batt) (s : State) :
    (s.modBatt n f).modBatt n g = s.modBatt n (g ∘ f) := by
  simp [State.modBatt, State.modShelf]

theorem modRect_unchanged {n : RmSlot} {f : Rect → Rect} (h : f s.shelf.rect[n] = s.shelf.rect[n]) :
    s.modRect n f = s := by
  simp only [State.modRect, State.modShelf, h]
  simp

theorem modBatt_unchanged {n : BmSlot} {f : Batt → Batt} (h : f s.shelf.batt[n] = s.shelf.batt[n]) :
    s.modBatt n f = s := by
  simp only [State.modBatt, State.modShelf, h]
  simp

theorem modRect_congr {n : RmSlot} {f g : Rect → Rect} (h : f s.shelf.rect[n] = g s.shelf.rect[n]) :
    s.modRect n f = s.modRect n g := by
  simp only [State.modRect, State.modShelf, h]

theorem modBatt_congr {n : BmSlot} {f g : Batt → Batt} (h : f s.shelf.batt[n] = g s.shelf.batt[n]) :
    s.modBatt n f = s.modBatt n g := by
  simp only [State.modBatt, State.modShelf, h]

/-- A slot that is changed is the only one, apart from the set-points of others that follow in the same step. -/
theorem OnlyRect.of_modRect {n : RmSlot} {f : Rect → Rect} (h : u.fixed = (s.modRect n f).fixed) :
    OnlyRect n (f s.shelf.rect[n]).bare s u := by
  refine ⟨?_, fun m hm => ?_, fun m => batt_of_fixed h m⟩
  · rw [rect_of_fixed h, State.modRect_same]
  · rw [rect_of_fixed h, State.modRect_rect, if_neg hm]

theorem OnlyBatt.of_modBatt {n : BmSlot} {f : Batt → Batt} (h : u.fixed = (s.modBatt n f).fixed) :
    OnlyBatt n (f s.shelf.batt[n]).bare s u := by
  refine ⟨?_, fun m hm => ?_, fun m => rect_of_fixed h m⟩
  · rw [batt_of_fixed h, State.modBatt_same]
  · rw [batt_of_fixed h, State.modBatt_batt, if_neg hm]

/-! ### MODULE STATE (R86) -/

/-- The time, the settings, the ports, the condition summary and the tallies, which decide what a report leaves. -/
structure SameReporting (s t : State) : Prop where
  now : t.now = s.now
  cfg : t.cfg = s.cfg
  link : t.link = s.link
  tally : t.tally = s.tally

theorem modRect_reporting (n : RmSlot) (f : Rect → Rect) (s : State) : SameReporting s (s.modRect n f) :=
  ⟨rfl, rfl, rfl, rfl⟩

theorem modBatt_reporting (n : BmSlot) (f : Batt → Batt) (s : State) : SameReporting s (s.modBatt n f) :=
  ⟨rfl, rfl, rfl, rfl⟩

theorem ModuleShown.of_same {n x y : Nat} {alone : Prop} (h : SameReporting s t) (k : ModuleShown n x y alone t u) :
    ModuleShown n x y alone s u := by
  obtain ⟨hflag, halone⟩ := k
  refine ⟨hflag, fun ha => ⟨fun he => ?_, fun hne => ?_⟩⟩
  · obtain ⟨hl, ht⟩ := (halone ha).1 he
    exact ⟨hl.trans h.link, ht.trans h.tally⟩
  · obtain ⟨hl, ht⟩ := (halone ha).2 hne
    obtain ⟨el, et⟩ := raise_congr .moduleState (some n) (some y) (some x) h.now h.cfg h.link h.tally
    exact ⟨hl.trans el, ht.trans et⟩

/-- Without a change of the state nothing is raised. -/
theorem ModuleShown.of_silent {n x y : Nat} {alone : Prop} (h : x = y) (k : Silent s u) : ModuleShown n x y alone s u :=
  ⟨fun hne => absurd h hne, fun _ => ⟨fun _ => k, fun hne => absurd h hne⟩⟩

theorem setRectState_fixed (n : RmSlot) (st : RectState) (s : State) :
    (setRectState n st s).fixed = (s.modRect n fun r => { r with state := st }).fixed := by
  simp only [setRectState]
  split
  · next e => rw [modRect_unchanged (s := s) (n := n) (f := fun r => { r with state := st }) (by rw [← e])]
  · exact raise_fixed ..

theorem setBattState_fixed (n : BmSlot) (st : BattState) (s : State) :
    (setBattState n st s).fixed = (s.modBatt n fun b => { b with state := st }).fixed := by
  simp only [setBattState]
  split
  · next e => rw [modBatt_unchanged (s := s) (n := n) (f := fun b => { b with state := st }) (by rw [← e])]
  · exact raise_fixed ..

theorem setRectState_shown (n : RmSlot) (st : RectState) (s : State) :
    ModuleShown n.val s.shelf.rect[n].state.code st.code True s (setRectState n st s) := by
  by_cases h : s.shelf.rect[n].state = st
  · rw [setRectState, if_pos h]
    exact .of_silent (congrArg _ h) ⟨rfl, rfl⟩
  · rw [setRectState, if_neg h]
    refine ⟨fun _ => ?_, fun _ => ⟨fun e => absurd (RectState.code_injective e) h, fun _ => ?_⟩⟩
    · rw [raise_flags]
      rfl
    · exact raise_congr _ _ _ _ rfl rfl rfl rfl

theorem setBattState_shown (n : BmSlot) (st : BattState) (s : State) :
    ModuleShown (n.val + 8) s.shelf.batt[n].state.code st.code True s (setBattState n st s) := by
  by_cases h : s.shelf.batt[n].state = st
  · rw [setBattState, if_pos h]
    exact .of_silent (congrArg _ h) ⟨rfl, rfl⟩
  · rw [setBattState, if_neg h]
    refine ⟨fun _ => ?_, fun _ => ⟨fun e => absurd (BattState.code_injective e) h, fun _ => ?_⟩⟩
    · rw [raise_flags]
      rfl
    · exact raise_congr _ _ _ _ rfl rfl rfl rfl

/-! ### The hand-over of a rectifier (R83, R96) -/

theorem testLoss_none (h : inputLoss s = false) : testLoss s = s := if_neg (by simp [h])

/-- A test of input loss takes no due evaluation back. -/
theorem testLoss_eval (h : s.work.eval = true) : (testLoss s).work.eval = true := by
  simp only [testLoss]
  split
  · split
    · exact (rideFromGrid_leavesGrid s).due.2.2
    · rw [beginRide_work]
      rfl
    · rw [beginRide_work]
      rfl
    · rfl
    · rfl
    all_goals exact h
  · exact h

/-- A rectifier hand-over: an evaluation is due, and input loss is tested at once or, in GRID, after the Budget Unit has
been told (R83, log 13). -/
theorem handRect_cases (s : State) :
    ∃ m, handRect s = testLoss { markEval s with orders := m } ∨
      inputLoss s = true ∧
        handRect s = State.modWork (fun w => { w with loss := true }) { markEval s with orders := m } := by
  simp only [handRect]
  split
  · next h =>
    split
    · exact ⟨_, .inl rfl⟩
    · exact ⟨_, .inr ⟨h.2, rfl⟩⟩
  · exact ⟨_, .inl rfl⟩

theorem handRect_fixed (s : State) : (handRect s).fixed = s.fixed := by
  obtain ⟨m, h | ⟨-, h⟩⟩ := handRect_cases s
  · rw [h, testLoss_fixed]
    rfl
  · rw [h]
    rfl

theorem handRect_eval (s : State) : (handRect s).work.eval = true := by
  obtain ⟨m, h | ⟨-, h⟩⟩ := handRect_cases s
  · rw [h]
    exact testLoss_eval rfl
  · rw [h]
    rfl

theorem handRect_shelfFlagged (h : ShelfFlagged s) : ShelfFlagged (handRect s) := by
  obtain ⟨m, e | ⟨-, e⟩⟩ := handRect_cases s
  · rw [e]
    exact testLoss_shelfFlagged (s := { markEval s with orders := m }) h
  · rw [e]
    exact h

theorem handRect_silent (h : inputLoss s = false) : Silent s (handRect s) := by
  obtain ⟨m, e | ⟨hl, -⟩⟩ := handRect_cases s
  · rw [e, testLoss_none (s := { markEval s with orders := m }) h]
    exact ⟨rfl, rfl⟩
  · rw [h] at hl
    cases hl

/-- The loss of input takes the rack out of GRID, or waits to be tested in the same step (R96, R98, log 13). -/
theorem handRect_leavesGrid (hg : s.source.state = .grid) (hl : inputLoss s = true) :
    (handRect s).source.state = .ride ∨ (handRect s).work.loss = true := by
  obtain ⟨m, e | ⟨-, e⟩⟩ := handRect_cases s
  · rw [e, testLoss_grid (s := { markEval s with orders := m }) hl hg]
    exact .inl (rideFromGrid_leavesGrid _).source.1
  · rw [e]
    exact .inr rfl

/-- A rectifier slot that is given a state and handed over: its record, MODULE STATE, an evaluation due. -/
structure RectHandedOver (n : RmSlot) (st : RectState) (s u : State) : Prop where
  fixed : u.fixed = (s.modRect n fun r => { r with state := st }).fixed
  eval : u.work.eval = true
  shown : ModuleShown n.val s.shelf.rect[n].state.code st.code (inputLoss u = false) s u

theorem handRect_setRectState (n : RmSlot) (st : RectState) (s : State) :
    RectHandedOver n st s (handRect (setRectState n st s)) := by
  obtain ⟨hflag, halone⟩ := setRectState_shown n st s
  refine ⟨(handRect_fixed _).trans (setRectState_fixed n st s), handRect_eval _,
    fun h => handRect_shelfFlagged (hflag h), fun hl => ?_⟩
  obtain ⟨el, et⟩ := handRect_silent ((inputLoss_of_fixed (handRect_fixed _)).symm.trans hl)
  obtain ⟨hsame, hchanged⟩ := halone trivial
  refine ⟨fun h => ?_, fun h => ?_⟩
  · exact ⟨el.trans (hsame h).1, et.trans (hsame h).2⟩
  · exact ⟨el.trans (hchanged h).1, et.trans (hchanged h).2⟩

/-! ### The output set-point (R87, R88) -/

/-- A rectifier slot's record after a disable: DISABLED where it is present and not LOST (R87). -/
def Rect.toDisabled (r : Rect) : Rect :=
  { r with enable := false, state := if r.present = true ∧ r.state ≠ .lost then .disabled else r.state }

/-- A rectifier slot's record after an enable: a DISABLED one is STARTING (R88). -/
def Rect.toEnabled (r : Rect) : Rect :=
  { r with enable := true, state := if r.state = .disabled then .starting else r.state }

/-- A set-point that is given and the state that follows it are one change of the slot. -/
theorem RectHandedOver.of_modRect {n : RmSlot} {st : RectState} {f g : Rect → Rect}
    (h : RectHandedOver n st (s.modRect n f) u) (hst : (f s.shelf.rect[n]).state = s.shelf.rect[n].state)
    (hg : g s.shelf.rect[n] = { f s.shelf.rect[n] with state := st }) :
    u.fixed = (s.modRect n g).fixed ∧
      ModuleShown n.val s.shelf.rect[n].state.code (g s.shelf.rect[n]).state.code (inputLoss u = false) s u := by
  obtain ⟨hfixed, -, hshown⟩ := h
  rw [modRect_modRect] at hfixed
  rw [State.modRect_same, hst] at hshown
  rw [hfixed, hg]
  exact ⟨congrArg _ (modRect_congr hg.symm), hshown.of_same (modRect_reporting n f s)⟩

theorem disableRect_still {n : RmSlot} (h : ¬ (s.shelf.rect[n].present = true ∧ s.shelf.rect[n].state ≠ .lost)) :
    disableRect n s = s.modRect n fun r => { r with enable := false } := by
  simp only [disableRect, State.modRect_same]
  exact if_neg h

theorem disableRect_handed {n : RmSlot} (h : s.shelf.rect[n].present = true ∧ s.shelf.rect[n].state ≠ .lost) :
    RectHandedOver n .disabled (s.modRect n fun r => { r with enable := false }) (disableRect n s) := by
  have hu : disableRect n s = handRect (setRectState n .disabled (s.modRect n fun r => { r with enable := false })) := by
    simp only [disableRect, State.modRect_same]
    exact if_pos h
  rw [hu]
  exact handRect_setRectState ..

theorem disableRect_spec (n : RmSlot) (s : State) :
    (disableRect n s).fixed = (s.modRect n Rect.toDisabled).fixed ∧
      ModuleShown n.val s.shelf.rect[n].state.code s.shelf.rect[n].toDisabled.state.code
        (inputLoss (disableRect n s) = false) s (disableRect n s) := by
  by_cases h : s.shelf.rect[n].present = true ∧ s.shelf.rect[n].state ≠ .lost
  · exact (disableRect_handed h).of_modRect rfl (by rw [Rect.toDisabled, if_pos h])
  · have hg : s.shelf.rect[n].toDisabled = { s.shelf.rect[n] with enable := false } := by rw [Rect.toDisabled, if_neg h]
    rw [disableRect_still h, hg]
    exact ⟨congrArg _ (modRect_congr hg.symm), .of_silent rfl ⟨rfl, rfl⟩⟩

theorem enableRect_still {n : RmSlot} (h : s.shelf.rect[n].state ≠ .disabled) :
    enableRect n s = s.modRect n fun r => { r with enable := true } := by
  simp only [enableRect, State.modRect_same]
  exact if_neg h

theorem enableRect_handed {n : RmSlot} (h : s.shelf.rect[n].state = .disabled) :
    RectHandedOver n .starting (s.modRect n fun r => { r with enable := true }) (enableRect n s) := by
  have hu : enableRect n s = handRect (setRectState n .starting (s.modRect n fun r => { r with enable := true })) := by
    simp only [enableRect, State.modRect_same]
    exact if_pos h
  rw [hu]
  exact handRect_setRectState ..

theorem enableRect_spec (n : RmSlot) (s : State) :
    (enableRect n s).fixed = (s.modRect n Rect.toEnabled).fixed ∧
      ModuleShown n.val s.shelf.rect[n].state.code s.shelf.rect[n].toEnabled.state.code
        (inputLoss (enableRect n s) = false) s (enableRect n s) := by
  by_cases h : s.shelf.rect[n].state = .disabled
  · exact (enableRect_handed h).of_modRect rfl (by rw [Rect.toEnabled, if_pos h])
  · have hg : s.shelf.rect[n].toEnabled = { s.shelf.rect[n] with enable := true } := by rw [Rect.toEnabled, if_neg h]
    rw [enableRect_still h, hg]
    exact ⟨congrArg _ (modRect_congr hg.symm), .of_silent rfl ⟨rfl, rfl⟩⟩

/-! ### The hand-over of a battery (R85) -/

/-- A battery hand-over forms the charge request and marks what is due. -/
theorem handBatt_spec (s : State) :
    ∃ x r, handBatt s = { s with source := x, work := { s.work with eval := true, ride := r } } := by
  simp only [handBatt]
  split
  · exact ⟨_, _, rfl⟩
  · exact ⟨_, _, rfl⟩

/-- The same of a battery slot, whose hand-over raises nothing itself. -/
structure BattHandedOver (n : BmSlot) (st : BattState) (s u : State) : Prop where
  fixed : u.fixed = (s.modBatt n fun b => { b with state := st }).fixed
  eval : u.work.eval = true
  shown : ModuleShown (n.val + 8) s.shelf.batt[n].state.code st.code True s u

theorem handBatt_setBattState (n : BmSlot) (st : BattState) (s : State) :
    BattHandedOver n st s (handBatt (setBattState n st s)) := by
  obtain ⟨x, r, h⟩ := handBatt_spec (setBattState n st s)
  rw [h]
  exact ⟨setBattState_fixed n st s, rfl, setBattState_shown n st s⟩

end
end Sys2Proof.Machine
end

section
/-! The rotation of polls (R77 to R79), and the samples and misses that end a poll (R80 to R86). -/

namespace Sys2Proof.Machine

section
variable {s t u v : State}

/-! ### The rotation (R77, R78) -/

theorem setPoints_eq (h : Shelf) (p : SlotPos) : h.setPoints p = carried h p := by
  by_cases hp : p.val < 8 <;> simp [Shelf.setPoints, slotOf, carried, hp]

/-- The state in which what an ended poll brings is acted on: the next poll sent, or the round ended (R77, log 45). -/
def pollAfter (p : SlotPos) (s : State) : State := nextPoll p (s.modShelf fun h => { h with poll := none })

/-- The end of a poll changes the rotation alone. -/
theorem pollAfter_spec (p : SlotPos) (s : State) :
    ∃ i o q n r, pollAfter p s = { s with shelf := { s.shelf with
      inRound := i, overran := o, poll := q, rounds := n, roundTimer := r } } := by
  simp only [pollAfter, nextPoll, endRound]
  split
  · split
    · exact ⟨_, _, _, _, _, rfl⟩
    · exact ⟨_, _, _, _, _, rfl⟩
  · exact ⟨_, _, _, _, _, rfl⟩

theorem pollAfter_pollEnded (p : SlotPos) (s : State) : PollEnded p s (pollAfter p s) := by
  simp only [PollEnded, pollAfter, nextPoll, endRound]
  split
  · cases ho : s.shelf.overran with
    | true => simp [ho, beginRound, sendPoll, Polled, setPoints_eq, State.timer, Config.responseTimeoutMs, carried]
    | false => simp [ho]
  · simp only [sendPoll, Polled, setPoints_eq]
    exact ⟨rfl, rfl, rfl, rfl, rfl⟩

/-- The shelf record outside the slots and the rotation: the counts of the link and the bus monitor. -/
def Shelf.counts (h : Shelf) : Shelf :=
  { h.apart with inRound := false, overran := false, poll := none, rounds := 0, roundTimer := none }

theorem pollAfter_counts (p : SlotPos) (s : State) : (pollAfter p s).shelf.counts = s.shelf.counts := by
  obtain ⟨i, o, q, n, r, h⟩ := pollAfter_spec p s
  rw [h]
  rfl

theorem counts_of_apart (h : u.shelf.apart = v.shelf.apart) : u.shelf.counts = v.shelf.counts :=
  (congrArg Shelf.counts h :)

/-- How a poll has ended shows outside the slots. -/
theorem PollEnded.of_apart {p : SlotPos} (h : PollEnded p s v) (k : u.shelf.apart = v.shelf.apart) :
    PollEnded p s u := by
  have hrounds : u.shelf.rounds = v.shelf.rounds := (congrArg Shelf.rounds k :)
  have hoverran : u.shelf.overran = v.shelf.overran := (congrArg Shelf.overran k :)
  have hround : u.shelf.inRound = v.shelf.inRound := (congrArg Shelf.inRound k :)
  have hpoll : u.shelf.poll = v.shelf.poll := (congrArg Shelf.poll k :)
  have htimer : u.shelf.roundTimer = v.shelf.roundTimer := (congrArg Shelf.roundTimer k :)
  simp only [PollEnded, Polled, hrounds, hoverran, hround, hpoll, htimer] at h ⊢
  exact h

/-! ### Slots and reporting kept -/

/-- What a sample or a miss finds in a state: the slots, and what decides what a report leaves. -/
structure SameSlots (s t : State) : Prop extends SameReporting s t where
  rect : t.shelf.rect = s.shelf.rect
  batt : t.shelf.batt = s.shelf.batt

theorem pollAfter_sameSlots (p : SlotPos) (s : State) : SameSlots s (pollAfter p s) := by
  obtain ⟨i, o, q, n, r, h⟩ := pollAfter_spec p s
  rw [h]
  exact ⟨⟨rfl, rfl, rfl, rfl⟩, rfl, rfl⟩

theorem OnlyRect.of_slots {n : RmSlot} {r : Rect} (h : SameSlots s t) (k : OnlyRect n r t u) : OnlyRect n r s u := by
  simpa only [OnlyRect, h.rect, h.batt] using k

theorem OnlyBatt.of_slots {n : BmSlot} {b : Batt} (h : SameSlots s t) (k : OnlyBatt n b t u) : OnlyBatt n b s u := by
  simpa only [OnlyBatt, h.rect, h.batt] using k

theorem Sampled.of_slots {x : SlotReport} (h : SameSlots s t) (k : Sampled x t u) : Sampled x s u := by
  cases x with
  | rect n x =>
    obtain ⟨honly, hshown⟩ := k
    rw [h.rect, h.now] at honly
    rw [h.rect] at hshown
    exact ⟨honly.of_slots h, hshown.of_same h.toSameReporting⟩
  | batt n x =>
    obtain ⟨honly, hshown⟩ := k
    rw [h.batt, h.now] at honly
    rw [h.batt] at hshown
    exact ⟨honly.of_slots h, hshown.of_same h.toSameReporting⟩

/-- One more event counted where it counts. -/
theorem SameReporting.count_if (h : SameReporting s t) (x : Bool) (e : TallyEvent) :
    SameReporting (if x then count e s else s) (if x then count e t else t) := by
  cases x with
  | false => exact h
  | true => exact ⟨h.now, h.cfg, h.link, congrArg (Tally.take e) h.tally⟩

theorem Missed.of_slots {p : SlotPos} (h : SameSlots s t) (k : Missed p t u) : Missed p s u := by
  cases hp : slotOf p with
  | rect n =>
    simp only [Missed, hp, h.rect] at k ⊢
    exact ⟨k.1.of_slots h, k.2.of_same (h.toSameReporting.count_if ..)⟩
  | batt n =>
    simp only [Missed, hp, h.batt] at k ⊢
    exact ⟨k.1.of_slots h, k.2.of_same (h.toSameReporting.count_if ..)⟩

/-! ### Samples (R82 to R85) -/

/-- What a sample does besides its slot: an evaluation is due, and outside the slots the record is as before. -/
theorem takeSample_sampled (x : SlotReport) (s : State) :
    Sampled x s (takeSample x s) ∧ (takeSample x s).shelf.apart = s.shelf.apart ∧
      (takeSample x s).work.eval = true := by
  cases x with
  | rect n x =>
    let f : Rect → Rect := fun r =>
      { r with present := true, misses := 0, sample := some (clampRect x), time := some s.now }
    let st := decideRect (s.modRect n f).shelf.rect[n].enable (clampRect x)
    have hst : st = decideRect s.shelf.rect[n].enable (clampRect x) := by
      simp only [st, State.modRect_same, f]
    have hand := handRect_setRectState n st (s.modRect n f)
    change RectHandedOver n st (s.modRect n f) (takeSample (.rect n x) s) at hand
    obtain ⟨hfixed, heval, hshown⟩ := hand
    rw [modRect_modRect] at hfixed
    have honly := OnlyRect.of_modRect hfixed
    refine ⟨⟨?_, ?_⟩, (apart_of_fixed hfixed).trans rfl, heval⟩
    · rw [hst] at honly
      exact honly
    · have hstate : (takeSample (.rect n x) s).shelf.rect[n].state = st := congrArg Rect.state honly.1
      rw [State.modRect_same] at hshown
      rw [hstate]
      exact hshown.of_same (modRect_reporting n f s)
  | batt n x =>
    let f : Batt → Batt := fun b =>
      { b with present := true, misses := 0, sample := some (clampBatt x), time := some s.now }
    let st := decideBatt (clampBatt x)
    have hand := handBatt_setBattState n st (s.modBatt n f)
    change BattHandedOver n st (s.modBatt n f) (takeSample (.batt n x) s) at hand
    obtain ⟨hfixed, heval, hshown⟩ := hand
    rw [modBatt_modBatt] at hfixed
    have honly := OnlyBatt.of_modBatt hfixed
    refine ⟨⟨honly, ?_⟩, (apart_of_fixed hfixed).trans rfl, heval⟩
    have hstate : (takeSample (.batt n x) s).shelf.batt[n].state = st := congrArg Batt.state honly.1
    rw [State.modBatt_same] at hshown
    rw [hstate]
    exact hshown.of_same (modBatt_reporting n f s)

/-! ### Misses (R80, R81) -/

/-- A present rectifier slot's record after a miss: LOST from the third on (R81). -/
def Rect.missed (r : Rect) : Rect :=
  { r with misses := satInc 3 r.misses, state := if satInc 3 r.misses = 3 then .lost else r.state }

/-- The same for a battery slot. -/
def Batt.missed (b : Batt) : Batt :=
  { b with misses := satInc 3 b.misses, state := if satInc 3 b.misses = 3 then .lost else b.state }

theorem missRect_absent {n : RmSlot} (h : s.shelf.rect[n].present = false) : missRect n s = s := by
  rw [missRect, h]
  rfl

theorem missBatt_absent {n : BmSlot} (h : s.shelf.batt[n].present = false) : missBatt n s = s := by
  rw [missBatt, h]
  rfl

theorem Rect.missed_lost {r : Rect} (h : satInc 3 r.misses = 3) :
    r.missed = { r with misses := satInc 3 r.misses, state := .lost } := by
  rw [Rect.missed, if_pos h]

theorem Rect.missed_kept {r : Rect} (h : satInc 3 r.misses = 3 → r.state = .lost) :
    r.missed = { r with misses := satInc 3 r.misses } := by
  rw [Rect.missed]
  split
  · next h3 => rw [← h h3]
  · rfl

/-- A miss at a present rectifier slot is counted, and MODULE STATE is raised where the slot becomes LOST (R81, R86). -/
theorem missRect_present {n : RmSlot} (h : s.shelf.rect[n].present = true) :
    (missRect n s).fixed = ((count .shelfLinkMisses s).modRect n Rect.missed).fixed ∧
      ModuleShown n.val s.shelf.rect[n].state.code s.shelf.rect[n].missed.state.code (inputLoss (missRect n s) = false)
        (count .shelfLinkMisses s) (missRect n s) := by
  let f : Rect → Rect := fun r => { r with misses := satInc 3 r.misses }
  have hmiss : missRect n s =
      if (((count .shelfLinkMisses s).modRect n f).shelf.rect[n]).misses = 3 ∧
          (((count .shelfLinkMisses s).modRect n f).shelf.rect[n]).state ≠ .lost then
        handRect (setRectState n .lost ((count .shelfLinkMisses s).modRect n f))
      else (count .shelfLinkMisses s).modRect n f := if_pos h
  have hrect : (count .shelfLinkMisses s).shelf.rect[n] = s.shelf.rect[n] := rfl
  generalize count .shelfLinkMisses s = v at hmiss hrect ⊢
  rw [State.modRect_same, hrect] at hmiss
  rw [hmiss]
  split
  · next hm =>
    have hlost : s.shelf.rect[n].missed = { f s.shelf.rect[n] with state := .lost } := Rect.missed_lost hm.1
    obtain ⟨hfixed, -, hshown⟩ := handRect_setRectState n .lost (v.modRect n f)
    rw [modRect_modRect] at hfixed
    rw [State.modRect_same, hrect] at hshown
    rw [hfixed, hlost]
    exact ⟨congrArg _ (modRect_congr (by rw [hrect]; exact hlost.symm)), hshown.of_same (modRect_reporting n f v)⟩
  · next hm =>
    have hkept : s.shelf.rect[n].missed = f s.shelf.rect[n] := Rect.missed_kept fun h3 => not_not.mp fun hl => hm ⟨h3, hl⟩
    rw [hkept]
    exact ⟨congrArg _ (modRect_congr (by rw [hrect]; exact hkept.symm)), .of_silent rfl ⟨rfl, rfl⟩⟩

theorem Batt.missed_lost {b : Batt} (h : satInc 3 b.misses = 3) :
    b.missed = { b with misses := satInc 3 b.misses, state := .lost } := by
  rw [Batt.missed, if_pos h]

theorem Batt.missed_kept {b : Batt} (h : satInc 3 b.misses = 3 → b.state = .lost) :
    b.missed = { b with misses := satInc 3 b.misses } := by
  rw [Batt.missed]
  split
  · next h3 => rw [← h h3]
  · rfl

/-- The same of a battery slot. -/
theorem missBatt_present {n : BmSlot} (h : s.shelf.batt[n].present = true) :
    (missBatt n s).fixed = ((count .shelfLinkMisses s).modBatt n Batt.missed).fixed ∧
      ModuleShown (n.val + 8) s.shelf.batt[n].state.code s.shelf.batt[n].missed.state.code True
        (count .shelfLinkMisses s) (missBatt n s) := by
  let f : Batt → Batt := fun b => { b with misses := satInc 3 b.misses }
  have hmiss : missBatt n s =
      if (((count .shelfLinkMisses s).modBatt n f).shelf.batt[n]).misses = 3 ∧
          (((count .shelfLinkMisses s).modBatt n f).shelf.batt[n]).state ≠ .lost then
        handBatt (setBattState n .lost ((count .shelfLinkMisses s).modBatt n f))
      else (count .shelfLinkMisses s).modBatt n f := if_pos h
  have hbatt : (count .shelfLinkMisses s).shelf.batt[n] = s.shelf.batt[n] := rfl
  generalize count .shelfLinkMisses s = v at hmiss hbatt ⊢
  rw [State.modBatt_same, hbatt] at hmiss
  rw [hmiss]
  split
  · next hm =>
    have hlost : s.shelf.batt[n].missed = { f s.shelf.batt[n] with state := .lost } := Batt.missed_lost hm.1
    obtain ⟨hfixed, -, hshown⟩ := handBatt_setBattState n .lost (v.modBatt n f)
    rw [modBatt_modBatt] at hfixed
    rw [State.modBatt_same, hbatt] at hshown
    rw [hfixed, hlost]
    exact ⟨congrArg _ (modBatt_congr (by rw [hbatt]; exact hlost.symm)), hshown.of_same (modBatt_reporting n f v)⟩
  · next hm =>
    have hkept : s.shelf.batt[n].missed = f s.shelf.batt[n] := Batt.missed_kept fun h3 => not_not.mp fun hl => hm ⟨h3, hl⟩
    rw [hkept]
    exact ⟨congrArg _ (modBatt_congr (by rw [hbatt]; exact hkept.symm)), .of_silent rfl ⟨rfl, rfl⟩⟩

/-- A miss changes its slot, and outside the slots nothing of the shelf record (R81). -/
theorem miss_missed (p : SlotPos) (s : State) : Missed p s (miss p s) ∧ (miss p s).shelf.apart = s.shelf.apart := by
  cases hp : slotOf p with
  | rect n =>
    have hmiss : miss p s = missRect n s := by simp only [miss, hp]
    rw [Missed, hp, hmiss]
    cases h : s.shelf.rect[n].present with
    | false =>
      have hbare : ¬ s.shelf.rect[n].bare.present = true := by rw [Rect.bare, h]; decide
      rw [missRect_absent h]
      refine ⟨⟨?_, ?_⟩, rfl⟩
      · rw [if_neg hbare]
        exact ⟨rfl, fun _ _ => rfl, fun _ => rfl⟩
      · rw [if_neg hbare]
        exact .of_silent rfl ⟨rfl, rfl⟩
    | true =>
      have hbare : s.shelf.rect[n].bare.present = true := h
      obtain ⟨hfixed, hshown⟩ := missRect_present h
      have honly : OnlyRect n s.shelf.rect[n].missed.bare s (missRect n s) := OnlyRect.of_modRect hfixed
      have hstate : (missRect n s).shelf.rect[n].state = s.shelf.rect[n].missed.state := (congrArg Rect.state honly.1 :)
      refine ⟨⟨?_, ?_⟩, (apart_of_fixed hfixed).trans rfl⟩
      · rw [if_pos hbare]
        exact honly
      · rw [if_pos hbare, hstate]
        exact hshown
  | batt n =>
    have hmiss : miss p s = missBatt n s := by simp only [miss, hp]
    rw [Missed, hp, hmiss]
    cases h : s.shelf.batt[n].present with
    | false =>
      have hbare : ¬ s.shelf.batt[n].bare.present = true := by rw [Batt.bare, h]; decide
      rw [missBatt_absent h]
      refine ⟨⟨?_, ?_⟩, rfl⟩
      · rw [if_neg hbare]
        exact ⟨rfl, fun _ _ => rfl, fun _ => rfl⟩
      · rw [if_neg hbare]
        exact .of_silent rfl ⟨rfl, rfl⟩
    | true =>
      have hbare : s.shelf.batt[n].bare.present = true := h
      obtain ⟨hfixed, hshown⟩ := missBatt_present h
      have honly : OnlyBatt n s.shelf.batt[n].missed.bare s (missBatt n s) := OnlyBatt.of_modBatt hfixed
      have hstate : (missBatt n s).shelf.batt[n].state = s.shelf.batt[n].missed.state := (congrArg Batt.state honly.1 :)
      refine ⟨⟨?_, ?_⟩, (apart_of_fixed hfixed).trans rfl⟩
      · rw [if_pos hbare]
        exact honly
      · rw [if_pos hbare, hstate]
        exact hshown

end
end Sys2Proof.Machine
end

section
/-! The events of the shelf link: the round timer, the response timeout and the responses (R77 to R86). -/

namespace Sys2Proof.Machine

section
variable {s u v : State} {p : SlotPos}

/-! ### The round timer and the timeout (R77, R79) -/

theorem takeRoundExpiry_stopped (h : s.shelf.roundTimer = none) : takeRoundExpiry s = s := if_neg (by simp [h])

theorem takeRoundExpiry_overrun (h : s.shelf.roundTimer.isSome) (hr : s.shelf.inRound = true) :
    takeRoundExpiry s = s.modShelf fun k =>
      { k with overruns := satInc 65535 k.overruns, overran := true, roundTimer := none } :=
  (if_pos h).trans (if_pos hr)

theorem takeRoundExpiry_begins (h : s.shelf.roundTimer.isSome) (hr : s.shelf.inRound = false) :
    takeRoundExpiry s = beginRound s := (if_pos h).trans (if_neg (by simp [hr]))

theorem takeResponseTimeout_idle (h : s.shelf.poll = none) : takeResponseTimeout s = s := by
  simp only [takeResponseTimeout, h]

theorem takeResponseTimeout_polled {x : Poll} (h : s.shelf.poll = some x) :
    takeResponseTimeout s = miss x.slot (pollAfter x.slot s) := by
  simp only [takeResponseTimeout, h]
  rfl

/-! ### The set-points that a poll carries (R78) -/

theorem poll_of_fixed (h : u.fixed = v.fixed) : u.shelf.poll = v.shelf.poll := congrArg (fun x => x.shelf.poll) h

theorem sendPoll_batt (n : BmSlot) (s : State) :
    (sendPoll ⟨n.val + 8, by omega⟩ s).shelf.poll =
      some ⟨⟨n.val + 8, by omega⟩, ⟨s.now, 20⟩, .batt s.shelf.batt[n].chargeLimit s.shelf.batt[n].discharge⟩ := by
  simp [sendPoll, setPoints_eq, carried, State.timer, Config.responseTimeoutMs]

end

/-- Settles O17: the round timer by its round, the poll that stays as it was sent, the response timeout. -/
theorem roundTimerAndResponseTimeout : Obligations.RoundTimerAndResponseTimeout := by
  refine ⟨fun s hp => ⟨fun h => .of_event_eq rfl hp (takeRoundExpiry_stopped h),
      fun h hr => .of_event_eq rfl hp (takeRoundExpiry_overrun h hr),
      fun h hr => .of_event_eq rfl hp (takeRoundExpiry_begins h hr)⟩,
    fun s st o n w => ⟨poll_of_fixed (settle_fixed s), poll_of_fixed (enterSource_fixed st o s),
      poll_of_fixed (distribute_fixed s), fun m => ⟨(poll_of_fixed (disableRect_spec m s).1).trans rfl,
        (poll_of_fixed (enableRect_spec m s).1).trans rfl⟩, ?_⟩,
    fun s hp => ⟨fun h => .of_event_eq rfl hp (takeResponseTimeout_idle h), fun p t y h => ?_⟩⟩
  · rw [sendPoll_batt, State.modBatt_same]
    rfl
  · obtain ⟨hmissed, hapart⟩ := miss_missed p (pollAfter p s)
    have hcounts := (counts_of_apart hapart).trans (pollAfter_counts p s)
    exact ⟨_, .of_event_eq rfl hp (takeResponseTimeout_polled h), (pollAfter_pollEnded p s).of_apart hapart,
      hmissed.of_slots (pollAfter_sameSlots p s), (congrArg Shelf.bad hcounts :), (congrArg Shelf.lastBad hcounts :),
      (congrArg Shelf.lates hcounts :), (congrArg Shelf.overruns hcounts :), (congrArg Shelf.busLow hcounts :),
      (congrArg Shelf.busMv hcounts :), (congrArg Shelf.debounce hcounts :)⟩

/-! ### Responses (R79, R80) -/

section
variable {s : State} {p : SlotPos} {x : ShelfReply}

theorem takeResponse_discarded (h : x.late = true ∨ s.shelf.poll = none) : takeResponse x s = lateResponse s := by
  rw [takeResponse]
  split
  · rfl
  · next hl => rw [h.resolve_left hl]

/-- A response in time ends the poll: a sample, or a check failure and a miss. -/
theorem takeResponse_polled {q : Poll} (hl : x.late = false) (h : s.shelf.poll = some q) :
    takeResponse x s =
      if x.checkGood = true ∧ reportPos x.content = q.slot then takeSample x.content (pollAfter q.slot s)
      else miss q.slot (checkFailure q.slot (pollAfter q.slot s)) := by
  rw [takeResponse, hl, h]
  rfl

theorem checkFailure_sameSlots (p : SlotPos) (s : State) : SameSlots s (checkFailure p s) :=
  ⟨⟨rfl, rfl, rfl, rfl⟩, rfl, rfl⟩

theorem SameSlots.trans {s t u : State} (h : SameSlots s t) (k : SameSlots t u) : SameSlots s u where
  now := k.now.trans h.now
  cfg := k.cfg.trans h.cfg
  link := k.link.trans h.link
  tally := k.tally.trans h.tally
  rect := k.rect.trans h.rect
  batt := k.batt.trans h.batt

/-- A check failure is counted at the polled slot and nowhere else (R80). -/
theorem checkFailure_bad (p q : SlotPos) (s : State) :
    (checkFailure p s).shelf.bad[q] = if q = p then satInc 65535 s.shelf.bad[p] else s.shelf.bad[q] := by
  by_cases h : q = p
  · subst h
    simp [checkFailure]
  · have hne : p.val ≠ q.val := fun e => h (Fin.ext e.symm)
    simp [checkFailure, h, Vector.getElem_set_ne, hne]

end

/-- Settles O16: a response that is discarded, a sample, and a check failure with its miss. -/
theorem shelfResponseIsSampleMissOrLate : Obligations.ShelfResponseIsSampleMissOrLate := by
  refine ⟨rfl, rfl, fun x s hp => ⟨fun h => .of_event_eq rfl hp (takeResponse_discarded h), fun p t y hl h => ?_⟩⟩
  intro named
  have hnamed : reportPos x.content = named := by
    cases hc : x.content <;> simp only [named, hc] <;> rfl
  let v := pollAfter p s
  have hended : PollEnded p s v := pollAfter_pollEnded p s
  have hslots : SameSlots s v := pollAfter_sameSlots p s
  have hv : v.shelf.counts = s.shelf.counts := pollAfter_counts p s
  have hu := takeResponse_polled hl h
  rw [hnamed] at hu
  by_cases hgood : x.checkGood = true ∧ named = p
  · obtain ⟨hsampled, hapart, heval⟩ := takeSample_sampled x.content v
    have hcounts := (counts_of_apart hapart).trans hv
    refine ⟨_, .of_event_eq rfl hp (hu.trans (if_pos hgood)), hended.of_apart hapart, fun _ _ => ⟨hsampled.of_slots hslots,
      (congrArg Shelf.bad hcounts :), (congrArg Shelf.lastBad hcounts :), heval⟩, fun hbad => ?_,
      (congrArg Shelf.lates hcounts :), (congrArg Shelf.overruns hcounts :), (congrArg Shelf.busLow hcounts :),
      (congrArg Shelf.busMv hcounts :), (congrArg Shelf.debounce hcounts :)⟩
    exact absurd hgood fun ⟨h1, h2⟩ => hbad.elim (by simp [h1]) (· h2)
  · let w := checkFailure p v
    obtain ⟨hmissed, hapart⟩ := miss_missed p w
    have hbad : (miss p w).shelf.bad = w.shelf.bad := (congrArg Shelf.bad hapart :)
    have hold : v.shelf.bad = s.shelf.bad := (congrArg Shelf.bad hv :)
    have hfield : ∀ q, (miss p w).shelf.bad[q] = if q = p then satInc 65535 s.shelf.bad[p] else s.shelf.bad[q] := fun q => by
      rw [hbad, checkFailure_bad, hold]
    refine ⟨_, .of_event_eq rfl hp (hu.trans (if_neg hgood)), PollEnded.of_apart (v := w) hended hapart,
      fun h1 h2 => absurd ⟨h1, h2⟩ hgood, fun _ => ⟨hmissed.of_slots (hslots.trans (checkFailure_sameSlots p v)),
        (congrArg Shelf.lastBad hapart :), (hfield p).trans (if_pos rfl), fun q hq => (hfield q).trans (if_neg hq)⟩,
      (congrArg Shelf.lates hapart :).trans (congrArg Shelf.lates hv :),
      (congrArg Shelf.overruns hapart :).trans (congrArg Shelf.overruns hv :),
      (congrArg Shelf.busLow hapart :).trans (congrArg Shelf.busLow hv :),
      (congrArg Shelf.busMv hapart :).trans (congrArg Shelf.busMv hv :),
      (congrArg Shelf.debounce hapart :).trans (congrArg Shelf.debounce hv :)⟩

end Sys2Proof.Machine
end

section
/-! RECTIFIER DISABLE and RECTIFIER ENABLE (R87, R88). -/

namespace Sys2Proof.Machine

section
variable {s : State} {n : RmSlot}

/-! ### The last counted rectifier (R87, R96) -/

theorem setRectState_source (n : RmSlot) (st : RectState) (s : State) :
    (setRectState n st s).source = s.source := by
  simp only [setRectState]
  split
  · rfl
  · rw [raise_source]
    rfl

theorem toDisabled_not_counted {r : Rect} (h : r.present = true ∧ r.state ≠ .lost) : r.toDisabled.counted = false := by
  rw [Rect.toDisabled, if_pos h]
  rfl

/-- Input loss holds once the last counted rectifier is disabled (R96). -/
theorem inputLoss_of_disabled (h : s.shelf.rect[n].present = true ∧ s.shelf.rect[n].state ≠ .lost)
    (hall : ∀ m, m ≠ n → s.shelf.rect[m].counted = false) : inputLoss (s.modRect n Rect.toDisabled) = true := by
  have hnone : anyCounted (s.modRect n Rect.toDisabled) = false := by
    rw [anyCounted, List.any_eq_false]
    intro m _
    rw [State.modRect_rect]
    split
    · rw [toDisabled_not_counted h]
      decide
    · next hm => rw [hall m hm]; decide
  rw [inputLoss, hnone]
  simp

theorem disableRect_leavesGrid (h : s.shelf.rect[n].present = true ∧ s.shelf.rect[n].state ≠ .lost)
    (hg : s.source.state = .grid) (hall : ∀ m, m ≠ n → s.shelf.rect[m].counted = false) :
    (disableRect n s).source.state = .ride ∨ (disableRect n s).work.loss = true := by
  let v := setRectState n .disabled (s.modRect n fun r => { r with enable := false })
  have hu : disableRect n s = handRect v := by
    simp only [disableRect, State.modRect_same]
    exact if_pos h
  have hfixed : v.fixed = (s.modRect n Rect.toDisabled).fixed := by
    rw [← (disableRect_spec n s).1, hu, handRect_fixed]
  rw [hu]
  refine handRect_leavesGrid ?_ ((inputLoss_of_fixed hfixed).trans (inputLoss_of_disabled h hall))
  rw [setRectState_source]
  exact hg

/-! ### The two commands -/

/-- The slot is counted, and the firm supply without it does not carry the committed load (R87). -/
def Indispensable (s : State) (n : RmSlot) : Prop := s.shelf.rect[n].counted = true ∧ firmWithout s n < s.budget.figs.com

theorem doRectifierDisable_still (h : s.shelf.rect[n].enable = false) :
    doRectifierDisable (some (n.val : Int)) s = (s, okReply) := by
  rw [doRectifierDisable, withIndex_val]
  exact if_pos h

theorem doRectifierDisable_budget (h : s.shelf.rect[n].enable = true) (hb : Indispensable s n) :
    doRectifierDisable (some (n.val : Int)) s = (s, errReply .budget) := by
  rw [doRectifierDisable, withIndex_val]
  exact (if_neg (ne_false_of_eq_true h)).trans (if_pos hb)

theorem doRectifierDisable_disables (h : s.shelf.rect[n].enable = true) (hb : ¬ Indispensable s n) :
    doRectifierDisable (some (n.val : Int)) s =
      (disableRect n s, okWith [fWord "state" (disableRect n s).shelf.rect[n].state.word]) := by
  rw [doRectifierDisable, withIndex_val]
  exact (if_neg (ne_false_of_eq_true h)).trans (if_neg hb)

theorem doRectifierEnable_still (h : s.shelf.rect[n].enable = true) :
    doRectifierEnable (some (n.val : Int)) s = (s, okReply) := by
  rw [doRectifierEnable, withIndex_val]
  exact if_pos h

theorem doRectifierEnable_enables (h : s.shelf.rect[n].enable = false) :
    doRectifierEnable (some (n.val : Int)) s =
      (enableRect n s, okWith [fWord "state" (enableRect n s).shelf.rect[n].state.word]) := by
  rw [doRectifierEnable, withIndex_val]
  exact if_neg (ne_true_of_eq_false h)

theorem found_indispensable (l : LineId) (i : Instr) (s : State) (n : RmSlot) :
    Indispensable (found l i s) n ↔
      s.shelf.rect[n].counted = true ∧ (supply s ((countedSlots s).filter (· ≠ n))).2.2.2 < s.budget.figs.com := by
  obtain ⟨x, r, k, h⟩ := found_spec l i s
  rw [h]
  rfl

/-- What a change of one rectifier slot by a command leaves to be said of the rest: slots, poll, settings, store, zones,
time, responses and the fixed part of the channels. -/
theorem rectChanged_frame {l : LineId} {i : Instr} {s u : State} {n : RmSlot} {f : Rect → Rect}
    (h : u.fixed = ((found l i s).modRect n f).fixed) :
    OnlyRect n (f s.shelf.rect[n]).bare s u ∧ u.shelf.rect[n].state = (f s.shelf.rect[n]).state ∧
      u.shelf.poll = s.shelf.poll ∧ u.cfg = s.cfg ∧ u.store = s.store ∧ u.zones = s.zones ∧ u.now = s.now ∧
      u.resp = (found l i s).resp ∧ ∀ c, (u.ch c).fixed = (s.ch c).fixed := by
  have hrest := found_sameRest l i s
  have honly := OnlyRect.of_modRect h
  rw [OnlyRect, found_shelf] at honly
  refine ⟨honly, (congrArg Rect.state honly.1 :), ?_, (congrArg Fixed.cfg h).trans hrest.cfg,
    (congrArg Fixed.store h).trans hrest.store, (congrArg Fixed.zones h).trans hrest.zones,
    (congrArg Fixed.now h).trans hrest.now, congrArg Fixed.resp h, fun c => ?_⟩
  · exact (poll_of_fixed h).trans (show (found l i s).shelf.poll = s.shelf.poll by rw [found_shelf])
  · exact (level_of_fixed h c).trans (congrArg Channel.fixed (found_ch l i s c))

end

/-- Settles O43: a set-point that stands, a refused disable, and the two changes with their hand-over. -/
theorem rectifierDisableAndEnable : Obligations.RectifierDisableAndEnable := by
  intro l n s d e r short
  refine ⟨fun h => ?_, fun h => ?_⟩
  · have hr : (found l d s).shelf.rect[n] = r := by rw [found_shelf]
    have hshort : Indispensable (found l d s) n ↔ short := found_indispensable l d s n
    refine ⟨fun he => .of_runCommand rfl h (doRectifierDisable_still (by rw [hr, he])),
      fun he hs => .of_runCommand rfl h (doRectifierDisable_budget (by rw [hr, he]) (hshort.mpr hs)),
      fun he hs => ⟨_, .of_runCommand rfl h (doRectifierDisable_disables (by rw [hr, he]) (mt hshort.mp hs)), ?_⟩⟩
    obtain ⟨hfixed, hshown⟩ := disableRect_spec n (found l d s)
    obtain ⟨honly, hstate, hframe⟩ := rectChanged_frame hfixed
    rw [hr] at hshown
    rw [← hstate] at hshown
    refine ⟨honly, fun hp hl => ?_, fun hgone => ?_, hshown, hframe⟩
    · have hlive : (found l d s).shelf.rect[n].present = true ∧ (found l d s).shelf.rect[n].state ≠ .lost := by
        rw [hr]
        exact ⟨hp, hl⟩
      refine ⟨(disableRect_handed hlive).eval, fun hd => hshown.1 ?_, fun hg hall => ?_⟩
      · rw [hstate, Rect.toDisabled, if_pos ⟨hp, hl⟩]
        exact fun hc => hd (RectState.code_injective hc)
      · exact disableRect_leavesGrid hlive (by rw [found_source_state, hg]) (by rw [found_shelf]; exact hall)
    · have hstill : ¬ ((found l d s).shelf.rect[n].present = true ∧ (found l d s).shelf.rect[n].state ≠ .lost) := by
        rw [hr]
        rintro ⟨hp, hl⟩
        exact hgone.elim (ne_false_of_eq_true hp) hl
      rw [disableRect_still hstill]
      exact ⟨rfl, found_chans l d s, found_budget l d s, found_run l d s, found_work l d s, rfl, rfl⟩
  · have hr : (found l e s).shelf.rect[n] = r := by rw [found_shelf]
    refine ⟨fun he => .of_runCommand rfl h (doRectifierEnable_still (by rw [hr, he])),
      fun he => ⟨_, .of_runCommand rfl h (doRectifierEnable_enables (by rw [hr, he])), ?_⟩⟩
    obtain ⟨hfixed, hshown⟩ := enableRect_spec n (found l e s)
    obtain ⟨honly, hstate, hframe⟩ := rectChanged_frame hfixed
    rw [hr] at hshown
    rw [← hstate] at hshown
    refine ⟨honly, fun hd => ⟨(enableRect_handed (by rw [hr, hd])).eval, hshown.1 ?_⟩, hshown, hframe⟩
    rw [hstate, Rect.toEnabled, if_pos hd, hd]
    exact fun hc => nomatch RectState.code_injective hc

end Sys2Proof.Machine
end

section
/-! The reads of shelf, source, zones, valves and capture (R89, R90, R114, R146, R164, R166). -/

namespace Sys2Proof.Machine

section
variable (l : LineId) (i : Instr) (s : State)

/-! ### What a line leaves alone of the records that are read -/

@[simp] theorem found_zones : (found l i s).zones = s.zones := (found_sameRest l i s).zones

/-- A line that is found changes of the Leak Response Unit's records the override sequence alone (R156). -/
theorem found_resp : ∃ q, (found l i s).resp = { s.resp with seq := q } := by
  have hcancel : ∀ t : State, ∃ q, (cancelOverride l.port t).resp = { t.resp with seq := q } := fun t => by
    simp only [cancelOverride]
    split
    · split
      · exact ⟨_, rfl⟩
      · exact ⟨_, rfl⟩
    · exact ⟨_, rfl⟩
  have hline : ∀ t : State, ∃ q, (lineAtOverride l.port i t).resp = { t.resp with seq := q } := fun t => by
    simp only [lineAtOverride]
    split
    · exact ⟨_, rfl⟩
    · exact hcancel t
  obtain ⟨x, hx⟩ := lineHeard_spec l.port s
  obtain ⟨q, hq⟩ := hline ((lineHeard l.port s).modPort l.port fun c => { c with buffer := [⟨l.tag, .cmd i, false, 0⟩] })
  refine ⟨q, ?_⟩
  rw [found, hq, hx]
  rfl

@[simp] theorem found_valve : (found l i s).resp.valve = s.resp.valve := by obtain ⟨q, h⟩ := found_resp l i s; rw [h]
@[simp] theorem found_capture : (found l i s).resp.capture = s.resp.capture := by
  obtain ⟨q, h⟩ := found_resp l i s; rw [h]
@[simp] theorem found_lockout : (found l i s).resp.lockout = s.resp.lockout := by
  obtain ⟨q, h⟩ := found_resp l i s; rw [h]

/-! ### The fields that each read returns -/

/-- The fields of SOURCE READ. -/
def sourceFields (s : State) : List Field := (doSourceRead false s).2.fields

/-- The fields of MODULE READ without a slot. -/
def busFields (s : State) : List Field := (doModuleRead none none s).2.fields

/-- The fields of LINK STATS. -/
def linkFields (s : State) : List Field := (doLinkStats s).2.fields

theorem doModuleRead_found_rect (n : RmSlot) :
    doModuleRead (some (n.val : Int)) none (found l i s) = (found l i s, okWith (rectFields s n)) := by
  obtain ⟨x, r, k, h⟩ := found_spec l i s
  rw [h, doModuleRead, withIndex_val]
  rfl

theorem doModuleRead_found_batt (n : BmSlot) :
    doModuleRead none (some (n.val : Int)) (found l i s) = (found l i s, okWith (battFields s n)) := by
  obtain ⟨x, r, k, h⟩ := found_spec l i s
  rw [h, doModuleRead, withIndex_val]
  rfl

theorem doModuleRead_found_bus :
    doModuleRead none none (found l i s) = (found l i s, okWith (busFields s)) := by
  obtain ⟨x, r, k, h⟩ := found_spec l i s
  rw [h]
  rfl

theorem doLinkStats_found : doLinkStats (found l i s) = (found l i s, okWith (linkFields s)) := by
  obtain ⟨x, r, k, h⟩ := found_spec l i s
  rw [h]
  rfl

theorem doSourceRead_found : doSourceRead false (found l i s) = (found l i s, okWith (sourceFields s)) := by
  obtain ⟨x, r, k, h⟩ := found_spec l i s
  rw [h]
  rfl

theorem doSourceRead_found_settings :
    doSourceRead true (found l i s) = (found l i s, okWith (rideFields s.cfg.ride)) := by
  rw [doSourceRead, if_pos rfl, found_cfg]

theorem doZoneRead_found (z : Zone) :
    doZoneRead (some (z.val : Int)) none (found l i s) = (found l i s, okWith (zoneFields s z)) := by
  obtain ⟨x, r, k, h⟩ := found_spec l i s
  rw [h, doZoneRead, withIndex_val]
  rfl

theorem doZoneRead_found_pattern (n : PatIx) :
    doZoneRead none (some (n.val : Int)) (found l i s) = (found l i s, okWith (patternFields s.cfg.pats[n])) := by
  rw [doZoneRead, withIndex_val, found_cfg]

end

/-! ### What the fields show -/

@[simp] theorem fNums_key (k : String) (l : List Nat) : (fNums k l).key = k := rfl

/-- A list that lacks each of some keywords has no field with one of them. -/
theorem not_mem_of_lacks {ks : List String} {fs : List Field} (h : ∀ k ∈ ks, Lacks k fs) : ∀ f ∈ fs, f.key ∉ ks :=
  fun f hf hk => h f.key hk f hf rfl

theorem rectSampleFields_lacks {k : String} (h : k ∉ ["rated", "avail", "ready", "in", "flt", "pow"])
    (x : Option RectReport) : Lacks k (rectSampleFields x) := by
  simp only [List.mem_cons, not_or] at h
  obtain ⟨h1, h2, h3, h4, h5, h6, -⟩ := h
  cases x <;> simp [rectSampleFields, Ne.symm h1, Ne.symm h2, Ne.symm h3, Ne.symm h4, Ne.symm h5, Ne.symm h6]

theorem battSampleFields_lacks {k : String} (h : k ∉ ["full", "use", "dlim", "req", "chg", "dis", "flt", "empty"])
    (x : Option BattReport) : Lacks k (battSampleFields x) := by
  simp only [List.mem_cons, not_or] at h
  obtain ⟨h1, h2, h3, h4, h5, h6, h7, h8, -⟩ := h
  cases x <;> simp [battSampleFields, Ne.symm h1, Ne.symm h2, Ne.symm h3, Ne.symm h4, Ne.symm h5, Ne.symm h6,
    Ne.symm h7, Ne.symm h8]

@[simp] theorem lacks_ageFields {k : String} (h : "age" ≠ k) (s : State) (t : Option Stamp) : Lacks k (ageFields s t) :=
  lacks_fOpt h

@[simp] theorem shows_ageFields (s : State) (t : Option Stamp) :
    Shows "age" (t.map fun t => msBetween t s.now) (ageFields s t) := shows_fOpt

/-- A rectifier slot's fields (R89): its sample's and its age only with a sample, walk-in only where it is set. -/
theorem rectFields_shown (s : State) (n : RmSlot) :
    let r := s.shelf.rect[n]
    fWord "state" r.state.word ∈ rectFields s n ∧ fYes "pres" r.present ∈ rectFields s n ∧
      fNum "mis" r.misses ∈ rectFields s n ∧ RectSampleShown r.sample (rectFields s n) ∧
      Shows "age" (r.time.map fun t => msBetween t s.now) (rectFields s n) ∧
      fYes "counted" r.counted ∈ rectFields s n ∧
      fWord "out" (if r.enable then "ENABLE" else "DISABLE") ∈ rectFields s n ∧
      Shows "walk" r.walkIn (rectFields s n) := by
  unfold rectFields
  generalize s.shelf.rect[n] = r
  have hage : Lacks "age" (rectSampleFields r.sample) := rectSampleFields_lacks (by decide) _
  have hwalk : Lacks "walk" (rectSampleFields r.sample) := rectSampleFields_lacks (by decide) _
  refine ⟨by simp, by simp, by simp, ⟨fun y hy => ?_, fun hn => not_mem_of_lacks ?_⟩, ?_, by simp, by simp, ?_⟩
  · simp [rectSampleFields, hy]
  · simp [rectSampleFields, hn]
  · simp [hage]
  · simp [hwalk]

theorem battFields_shown (s : State) (n : BmSlot) :
    let b := s.shelf.batt[n]
    fWord "state" b.state.word ∈ battFields s n ∧ fYes "pres" b.present ∈ battFields s n ∧
      fNum "mis" b.misses ∈ battFields s n ∧ BattSampleShown b.sample (battFields s n) ∧
      Shows "age" (b.time.map fun t => msBetween t s.now) (battFields s n) ∧
      fYes "avail" b.available ∈ battFields s n ∧ fNum "clim" b.chargeLimit ∈ battFields s n ∧
      fWord "dset" (if b.discharge then "PERMIT" else "FORBID") ∈ battFields s n := by
  unfold battFields
  generalize s.shelf.batt[n] = b
  have hage : Lacks "age" (battSampleFields b.sample) := battSampleFields_lacks (by decide) _
  refine ⟨by simp, by simp, by simp, ⟨fun y hy => ?_, fun hn => not_mem_of_lacks ?_⟩, ?_, by simp, by simp, by simp⟩
  · simp [battSampleFields, hy]
  · simp [battSampleFields, hn]
  · simp [hage]

/-- The capture's fields only with a capture, the lockout always (R166). -/
theorem captureFields_shown (s : State) :
    let fs := captureFields s ++ [fYes "lock" s.resp.lockout]
    fYes "valid" s.resp.capture.isSome ∈ fs ∧ (∀ x, s.resp.capture = some x → CaptureShown x fs) ∧
      (s.resp.capture = none → ∀ f ∈ fs, f.key = "valid" ∨ f.key = "lock") ∧ fYes "lock" s.resp.lockout ∈ fs := by
  intro fs
  cases h : s.resp.capture with
  | none => simp [fs, captureFields, h]
  | some x => simp [fs, captureFields, h, CaptureShown]

/-- Settles O32: read by read, the fields. -/
theorem shelfSourceLeakAndValveReads : Obligations.ShelfSourceLeakAndValveReads := by
  refine ⟨fun l n s h => ⟨_, .of_runCommand rfl h (doModuleRead_found_rect l _ s n), rectFields_shown s n⟩,
    fun l n s h => ⟨_, .of_runCommand rfl h (doModuleRead_found_batt l _ s n), battFields_shown s n⟩,
    fun l x y s h => .of_runCommand rfl h rfl,
    fun l s h => ⟨_, .of_runCommand rfl h (doModuleRead_found_bus l _ s), ?_⟩,
    fun l s h => ⟨_, .of_runCommand rfl h (doLinkStats_found l _ s), ?_⟩,
    fun l s h => ⟨_, .of_runCommand rfl h (doSourceRead_found l _ s), ?_⟩,
    fun l s h => ⟨_, .of_runCommand rfl h (doSourceRead_found_settings l _ s), ?_⟩,
    fun l z s h => ⟨_, .of_runCommand rfl h (doZoneRead_found l _ s z), ?_⟩,
    fun l n s h => ⟨_, .of_runCommand rfl h (doZoneRead_found_pattern l _ s n), ?_⟩,
    fun l s h => ⟨_, .of_runCommand rfl h rfl, ?_⟩,
    fun l v s h => ⟨_, .of_runCommand rfl h (withIndex_val v _ _), ?_⟩,
    fun l s h => ⟨_, .of_runCommand rfl h rfl, ?_⟩,
    fun l s h => ⟨_, .of_runCommand rfl h rfl, ?_⟩⟩
  · simp [busFields, doModuleRead, okWith, thresholdMv, slotCodes]
  · simp [linkFields, doLinkStats, okWith]
  · simp [sourceFields, doSourceRead, okWith, loadNow]
  · simp [rideFields]
  · simp [zoneFields]
  · simp [patternFields]
  · simp
  · simp [valveStateField]
  · simp
  · have hshown := captureFields_shown (found l (.captureRead l) s)
    rw [found_capture, found_lockout] at hshown
    rw [found_lockout]
    exact hshown

end Sys2Proof.Machine
end

section
/-! The end of a return: input loss in QUALIFY and HANDBACK (R99, R103), and the next return from DOWN (R100, R101). -/

namespace Sys2Proof.Machine

section
variable {s u v : State}

/-! ### The ground of a loss (R98) -/

theorem lossGround_of_fixed (h : u.fixed = v.fixed) : lossGround u = lossGround v := by
  have hlow : u.shelf.busLow = v.shelf.busLow := congrArg (fun x => x.shelf.busLow) h
  have hany : anyCounted u = anyCounted v := by simp only [anyCounted, counted_of_fixed h]
  rw [lossGround, hlow, hany, lossGround]

theorem anyCounted_iff (s : State) : anyCounted s = true ↔ ∃ n : RmSlot, s.shelf.rect[n].counted = true := by
  simp [anyCounted, allRm]

theorem lossGround_eq (s : State) : lossGround s =
    if s.shelf.busLow then if ∃ n : RmSlot, s.shelf.rect[n].counted = true then 1 else 3 else 2 := by
  simp only [lossGround, anyCounted_iff]

/-! ### RIDE and DOWN entered again -/

/-- All that an entry into RIDE with RIDE BEGIN does (R95, R98, R99): the report is as it would be before the entry. -/
theorem beginRide_enterSource_spec (left : SrcState) (s : State) :
    ∃ h : Shelf, beginRide left (enterSource .ride none s) = { s with
        shelf := h
        source := { s.source with
          state := .ride, origin := none, since := s.now, qualify := none, walkIn := none, chargeFirst := false }
        link := (raise .rideBegin none (some left.code) (some (lossGround s)) s).link
        tally := (raise .rideBegin none (some left.code) (some (lossGround s)) s).tally.take .rideEntries
        work := { s.work with eval := true, restore := true, ride := true } } ∧
      (∀ n : RmSlot, h.rect[n] = { s.shelf.rect[n] with walkIn := none }) ∧
      ∀ n : BmSlot, h.batt[n] = { s.shelf.batt[n] with discharge := true } := by
  have hground : lossGround (enterSource .ride none s) = lossGround s := lossGround_of_fixed (enterSource_fixed ..)
  have hreport := raise_congr .rideBegin none (some left.code) (some (lossGround s))
    (s := enterSource .ride none s) (t := s) rfl rfl rfl rfl
  obtain ⟨h, hsrc, hrect, hbatt⟩ := enterSource_spec .ride none s
  refine ⟨h, ?_, hrect, hbatt⟩
  rw [beginRide, hground, raise_spec, hreport.1, hreport.2, hsrc]
  rfl

theorem testLoss_toRide (hl : inputLoss s = true) (hs : s.source.state = .qualify ∨ s.source.state = .handback)
    (ho : s.source.origin = some .ride) : testLoss s = beginRide s.source.state (enterSource .ride none s) := by
  rcases hs with hs | hs
  · rw [testLoss, if_pos hl, hs, ho]
  · rw [testLoss, if_pos hl, hs, ho]

theorem testLoss_toDown (hl : inputLoss s = true) (hs : s.source.state = .qualify ∨ s.source.state = .handback)
    (ho : s.source.origin = some .down) : testLoss s = enterSource .down none s := by
  rcases hs with hs | hs
  · rw [testLoss, if_pos hl, hs, ho]
  · rw [testLoss, if_pos hl, hs, ho]

/-- The code that RIDE BEGIN carries for a state of a return (Table 5-2). -/
theorem code_of_returning {x : SrcState} (h : x = .qualify ∨ x = .handback) :
    x.code = if x = .qualify then 2 else 3 := by
  rcases h with rfl | rfl <;> rfl

/-! ### The next return -/

/-- With a qualify time of 0 a return from DOWN goes through QUALIFY to HANDBACK at once (R100, R101, log 17). -/
theorem testReturn_down_handback (h : inputReturn s = true) (hs : s.source.state = .down) (hq : s.cfg.ride.qual = 0)
    (hw : s.cfg.ride.walk ≠ 0) :
    (testReturn s).source.state = .handback ∧ (testReturn s).source.origin = some .down := by
  have hqualify : testReturn s = enterQualify .down s := by rw [testReturn, if_pos h, hs]
  have hexpiry : enterQualify .down s = enterHandback (enterSource .qualify (some .down) s) := if_pos hq
  have hwalk : enterHandback (enterSource .qualify (some .down) s) = _ := if_neg hw
  rw [hqualify, hexpiry, hwalk]
  exact ⟨rfl, rfl⟩

end

/-- Settles O20: the loss with origin RIDE, the loss with origin DOWN, and the next return. -/
theorem inputLossWhileReturning : Obligations.InputLossWhileReturning := by
  refine ⟨fun s hl hs ho => ?_, fun s hl hs ho => ?_, fun s h hs =>
    ⟨fun hq => (testReturn_qualify h hq).2.1 hs, testReturn_down_handback h hs⟩⟩
  · obtain ⟨g, hu, hrect, hbatt⟩ := beginRide_enterSource_spec s.source.state s
    rw [testLoss_toRide hl hs ho, hu, code_of_returning hs, lossGround_eq]
    exact ⟨rfl, hrect, hbatt, rfl, rfl, rfl, rfl, rfl, rfl, rfl, rfl,
      ⟨rfl, rfl, rfl, rfl, rfl, rfl, rfl, rfl, rfl, rfl⟩⟩
  · obtain ⟨g, hu, hrect, hbatt⟩ := enterSource_spec .down none s
    rw [testLoss_toDown hl hs ho, hu]
    exact ⟨rfl, rfl, rfl, rfl, rfl, rfl, rfl, rfl, fun n => congrArg Rect.walkIn (hrect n),
      fun n => congrArg Batt.discharge (hbatt n), rfl, ⟨rfl, rfl⟩,
      ⟨rfl, rfl, rfl, rfl, rfl, rfl, rfl, rfl, rfl, rfl⟩⟩

end Sys2Proof.Machine
end

section
/-! RIDE SET and CHARGE SET (R113, R118, R128, R129). -/

namespace Sys2Proof.Machine

section
variable (l : LineId) (i : Instr) (s : State)

/-! ### What a line leaves alone of the source record -/

@[simp] theorem found_source_chargeFirst : (found l i s).source.chargeFirst = s.source.chargeFirst := by
  obtain ⟨x, r, k, h⟩ := found_spec l i s; rw [h]
@[simp] theorem found_source_stage : (found l i s).source.stage = s.source.stage := by
  obtain ⟨x, r, k, h⟩ := found_spec l i s; rw [h]
@[simp] theorem found_source_policy : (found l i s).source.policy = s.source.policy := by
  obtain ⟨x, r, k, h⟩ := found_spec l i s; rw [h]

end

/-! ### Answers -/

/-- An accepted setting command answers OK, or ADJUSTED when a value is clamped (R185). -/
theorem setReply_status_cases (b : Bool) (fs : List Field) :
    ((setReply b fs).status = .ok ∨ (setReply b fs).status = .adjusted) ∧
      ((setReply b fs).status = .adjusted ↔ b = true) := by
  cases b <;> simp [setReply]

/-- The final reserve is lowered when the target less 1 is below the one asked for (R113). -/
theorem rideAdjusts_iff (a : RideArgs) (old : RideCfg) :
    rideAdjusts a old = true ↔ clamps 10 3600 a.target = true ∨ clamps 0 600 a.reserve = true ∨
      clamps 700 1000 a.eff = true ∨ clamps 0 60000 a.cap = true ∨ clamps 0 2 a.thr = true ∨
      clamps 0 50 a.deb = true ∨ clamps 0 120000 a.qual = true ∨ clamps 0 60000 a.walk = true ∨
      clamps 100 1000 a.round = true ∨
      numArg 10 3600 a.target old.target - 1 < numArg 0 600 a.reserve old.reserve := by
  simp only [rideAdjusts, applyRide, reserveAsked, Bool.or_eq_true, or_assoc, decide_eq_true_eq, inf_lt_left, not_le]

theorem chargeAdjusts_iff (a : ChargeArgs) :
    chargeAdjusts a = true ↔
      clamps 0 20000 a.floor = true ∨ clamps 0 40000 a.limit = true ∨ clamps 0 600 a.silence = true := by
  simp only [chargeAdjusts, Bool.or_eq_true, or_assoc]

/-! ### Ride settings stored (R107, R113, R118) -/

/-- The charge-first test leaves the decision that it makes, and a changed one makes work (R118). -/
theorem chargeFirstTest_spec (s : State) :
    ∃ w, chargeFirstTest s = { s with source := { s.source with chargeFirst := chargeFirstNow s }, work := w } := by
  by_cases h : chargeFirstNow s = s.source.chargeFirst
  · exact ⟨s.work, by rw [chargeFirstTest, if_pos h, h]⟩
  · exact ⟨_, if_neg h⟩

/-- The charge-first decision after RIDE SET: tested again in GRID when the target or the efficiency has changed (R118). -/
def firstAfterRideSet (r : RideCfg) (s : State) : Bool :=
  if s.source.state = .grid ∧ (r.target ≠ s.cfg.ride.target ∨ r.eff ≠ s.cfg.ride.eff) then
    decide (holdTimeOf (energyTotal s) r.eff (loadNow s) < r.target)
  else s.source.chargeFirst

/-- The state with new ride settings in the working configuration. -/
def rideStored (r : RideCfg) (s : State) : State := s.modCfg fun w => { w with ride := r }

section
variable {r : RideCfg} {s : State}

theorem storeRide_tests (hg : s.source.state = .grid) (hr : r.target ≠ s.cfg.ride.target ∨ r.eff ≠ s.cfg.ride.eff) :
    storeRide r s = chargeFirstTest (rideStored r s) := by
  rw [storeRide, State.modCfg_source, hg]
  exact if_neg (not_and_or.mpr hr)

theorem storeRide_stores
    (h : ¬ (s.source.state = .grid ∧ (r.target ≠ s.cfg.ride.target ∨ r.eff ≠ s.cfg.ride.eff))) :
    storeRide r s = if s.source.state = .ride then markRide (rideStored r s) else rideStored r s := by
  rw [storeRide, State.modCfg_source]
  cases hs : s.source.state with
  | grid => exact if_pos (not_not.mp fun hr => h ⟨hs, not_and_or.mp hr⟩)
  | ride | qualify | handback | down => rfl

end

/-- Stored ride settings change the charge-first decision and the work that is due, and nothing else. -/
theorem storeRide_spec (r : RideCfg) (s : State) :
    ∃ w, storeRide r s = { s with
        cfg := { s.cfg with ride := r }
        source := { s.source with chargeFirst := firstAfterRideSet r s }
        work := w } ∧
      (s.source.state = .ride → w.ride = true) := by
  by_cases h : s.source.state = .grid ∧ (r.target ≠ s.cfg.ride.target ∨ r.eff ≠ s.cfg.ride.eff)
  · obtain ⟨w, hw⟩ := chargeFirstTest_spec (rideStored r s)
    have hfirst : chargeFirstNow (rideStored r s) = firstAfterRideSet r s := by
      rw [firstAfterRideSet, if_pos h, chargeFirstNow, rideStored, State.modCfg_source, h.1]
      rfl
    refine ⟨w, ?_, fun hs => absurd (h.1.symm.trans hs) nofun⟩
    rw [storeRide_tests h.1 h.2, hw, hfirst]
    rfl
  · have hfirst : firstAfterRideSet r s = s.source.chargeFirst := if_neg h
    rw [storeRide_stores h, hfirst]
    split
    · exact ⟨{ s.work with ride := true }, rfl, fun _ => rfl⟩
    · next hs => exact ⟨s.work, rfl, fun hr => absurd hr hs⟩

/-! ### Charge settings stored (R128, R129) -/

theorem setPolicy_spec (p : RestorePolicy) (s : State) :
    ∃ b, setPolicy p s =
      { s with source := { s.source with policy := p }, work := { s.work with restore := b } } := by
  by_cases h : s.source.policy = p
  · exact ⟨s.work.restore, by rw [setPolicy, if_pos h, ← h]⟩
  · exact ⟨true, if_neg h⟩

/-- The end of a silence: stage 0, the full window, and a policy (R127, R128). -/
theorem endSilence_spec (s : State) :
    ∃ p b, endSilence s = { s with
      source := { s.source with stage := 0, silence := silenceTimer s, policy := p }
      work := { s.work with restore := b } } := by
  by_cases h : s.source.stage = 0
  · exact ⟨s.source.policy, s.work.restore, by rw [endSilence, if_pos h, ← h]; rfl⟩
  · obtain ⟨b, hb⟩ := setPolicy_spec s.cfg.charge.policy (s.modSource fun x => { x with stage := 0 })
    exact ⟨_, b, by rw [endSilence, if_neg h, hb]; rfl⟩

/-- What CHARGE SET makes of the source record: a changed window ends a silence (R128, log 23), and the configured
policy becomes the effective one except at stage 2 (R129). -/
def sourceAfterChargeSet (g : ChargeCfg) (s : State) : Source :=
  let same := g.window = s.cfg.charge.window
  { s.source with
    stage := if same then s.source.stage else 0
    silence := if same then s.source.silence
      else if g.window = 0 then none else some ⟨s.now, g.window * 1000⟩
    policy := if same ∧ s.source.stage = 2 then s.source.policy else g.policy }

/-- Stored charge settings change the source record and the work that is due, an evaluation among it (R129). -/
theorem storeCharge_spec (g : ChargeCfg) (s : State) :
    ∃ b, storeCharge g s = { s with
      cfg := { s.cfg with charge := g }
      source := sourceAfterChargeSet g s
      work := { s.work with eval := true, restore := b } } := by
  let v := markEval (s.modCfg fun w => { w with charge := g })
  by_cases hw : g.window = s.cfg.charge.window
  · by_cases h2 : s.source.stage = 2
    · have hkeep : storeCharge g s = v := by
        simp only [storeCharge, if_pos hw]
        exact if_pos h2
      refine ⟨s.work.restore, ?_⟩
      rw [hkeep, sourceAfterChargeSet]
      simp only [hw, h2, and_self, if_true]
      rw [← h2]
      rfl
    · have hset : storeCharge g s = setPolicy g.policy v := by
        simp only [storeCharge, if_pos hw]
        exact if_neg h2
      obtain ⟨b, hb⟩ := setPolicy_spec g.policy v
      refine ⟨b, ?_⟩
      rw [hset, hb, sourceAfterChargeSet]
      simp only [hw, h2, and_false, if_true, if_false]
      rfl
  · obtain ⟨p, b, hv⟩ := endSilence_spec v
    have hset : storeCharge g s = setPolicy g.policy (endSilence v) := by
      simp only [storeCharge, if_neg hw]
      exact if_neg (by rw [hv]; exact nofun)
    obtain ⟨b', hb⟩ := setPolicy_spec g.policy (endSilence v)
    refine ⟨b', ?_⟩
    rw [hset, hb, hv, sourceAfterChargeSet]
    simp only [hw, false_and, if_false]
    rfl

/-! ### The two commands -/

/-- Settles O44: for each command the refusal without a setting, and the settings stored. -/
theorem rideSetAndChargeSet : Obligations.RideSetAndChargeSet := by
  refine ⟨fun l a s h => ⟨fun h0 => .of_runCommand rfl h (if_pos h0), fun h0 => ?_⟩,
    fun l a s h => ⟨fun h0 => .of_runCommand rfl h (if_pos h0), fun h0 => ?_⟩⟩
  · let f := found l (.rideSet l a) s
    let r := applyRide a f.cfg.ride
    obtain ⟨w, hu, hride⟩ := storeRide_spec r f
    have hrun : doRideSet a f = (storeRide r f, setReply (rideAdjusts a f.cfg.ride) (rideFields r)) := if_neg h0
    obtain ⟨hstatus, hadjusted⟩ := setReply_status_cases (rideAdjusts a f.cfg.ride) (rideFields r)
    have hold : f.cfg.ride = s.cfg.ride := by rw [found_cfg]
    rw [hu] at hrun
    refine ⟨_, _, .of_runCommand rfl h hrun, hstatus, ?_, ?_, rfl, ?_, ?_, found_chans ..,
      found_budget .., found_run .., found_shelf .., (found_sameRest ..).store⟩
    · rw [hadjusted, rideAdjusts_iff, hold]
    · simp only [f, r, found_cfg]
      rfl
    · exact fun hs => hride ((found_source_state ..).trans hs)
    · simp only [f, firstAfterRideSet, found_source_state, found_source_chargeFirst, found_cfg]
      rfl
  · let f := found l (.chargeSet l a) s
    let g := applyCharge a f.cfg.charge
    obtain ⟨b, hu⟩ := storeCharge_spec g f
    have hrun : doChargeSet a f =
        (storeCharge g f, setReply (chargeAdjusts a) (chargeFields (storeCharge g f))) := if_neg h0
    obtain ⟨hstatus, hadjusted⟩ := setReply_status_cases (chargeAdjusts a) (chargeFields (storeCharge g f))
    have hg : g = applyCharge a s.cfg.charge := by simp only [g, f, found_cfg]
    rw [hu] at hrun hstatus hadjusted
    refine ⟨_, _, .of_runCommand rfl h hrun, hstatus, hadjusted.trans (chargeAdjusts_iff a), ?_, rfl, ?_, ?_, ?_, ?_,
      ?_, ?_, found_chans .., found_budget .., found_run .., found_shelf .., (found_sameRest ..).store⟩
    · simp only [f, g, found_cfg]
      rfl
    · simp only [f, g, sourceAfterChargeSet, found_cfg, found_source_stage, found_source_policy, found_now]
      rfl
    all_goals simp [setReply, chargeFields, hg, applyCharge]

end Sys2Proof.Machine
end

section
/-! A permitted line is taken at once by the block that owns its verb (R127, R156, R172, R173). -/

namespace Sys2Proof.Machine

/-! ### The arrival of a verb's line -/

/-- Every verb row is the arrival of its line at its port (log 6). -/
theorem exec_of_line {l : LineId} {i : Instr} (h : i.line? = some l) (s : State) :
    exec i s = .next (receive l.port l.tag (.cmd i) s) := by
  cases i <;> cases h <;> rfl

section
variable (l : LineId) (i : Instr) (s : State)

/-- The state in which a line has been heard and stands in the buffer of its port (R127, R173). -/
def buffered (l : LineId) (i : Instr) (s : State) : State :=
  (lineHeard l.port s).modPort l.port fun c => { c with buffer := [⟨l.tag, .cmd i, false, 0⟩] }

/-- A line in its buffer then changes the Leak Response Unit's records alone (R156). -/
theorem found_eq_buffered : ∃ r, found l i s = { buffered l i s with resp := r } := lineAtOverride_spec ..

@[simp] theorem found_tally : (found l i s).tally = s.tally := by
  obtain ⟨x, r, k, h⟩ := found_spec l i s; rw [h]

/-- A line on the manager port restarts the silence timer, and nothing else of the source record changes (R127). -/
theorem found_source : (found l i s).source = { s.source with
    silence := match l.port with
      | .service => s.source.silence
      | .manager => silenceTimer s } := by
  obtain ⟨r, h⟩ := found_eq_buffered l i s
  rw [h, buffered]
  cases l.port <;> rfl

theorem found_link : (found l i s).link = (buffered l i s).link := by
  obtain ⟨r, h⟩ := found_eq_buffered l i s
  rw [h]

theorem found_flags : (found l i s).link.flags = s.link.flags := by
  rw [found_link, buffered]
  cases l.port <;> rfl

theorem found_port (q : Port) : (found l i s).port q = (buffered l i s).port q := by
  simp only [State.port, found_link]

theorem lineHeard_port (p q : Port) : (lineHeard p s).port q = s.port q := by cases p <;> rfl

theorem found_port_same :
    (found l i s).port l.port = { s.port l.port with buffer := [⟨l.tag, .cmd i, false, 0⟩] } := by
  rw [found_port, buffered, State.modPort_port_same, lineHeard_port]

theorem found_port_other {q : Port} (hq : q ≠ l.port) : (found l i s).port q = s.port q := by
  rw [found_port, buffered, State.modPort_port_other _ _ hq, lineHeard_port]

end

/-- Settles O28: the command's block acts on the state the line found, and what differs there from the state before. -/
theorem permittedLineIsTakenAtOnce : Obligations.PermittedLineIsTakenAtOnce := by
  intro l i s hi h
  exact ⟨.of_runCommand (exec_of_line hi s) h rfl, found_chans .., found_budget .., found_run .., found_shelf ..,
    found_tally .., found_work .., found_sameRest .., found_source .., found_valve .., found_capture ..,
    found_lockout .., fun q hq => found_port_other l i s hq, found_flags .., found_port_same ..⟩

end Sys2Proof.Machine
end

section
/-! RESTORE (R36, R122, R125). -/

namespace Sys2Proof.Machine

/-! ### Channels are placed (R36, R122) -/

section
variable {s : State}

/-- The eligible channels of one tier, in their order (R122). -/
theorem eligibleOfTier_restoreOrder (s : State) (n : Nat) :
    RestoreOrder s (fun c => (s.chCfg c).tier.val = n) (eligibleOfTier s n) := by
  refine ⟨?_, fun c => ?_⟩
  · refine List.Pairwise.imp_of_mem (fun ha hb hab => .inr ⟨Fin.ext ?_, hab⟩)
      ((List.sortedLT_finRange 24).pairwise.filter _ : (eligibleOfTier s n).Pairwise (· < ·))
    exact (mem_eligibleOfTier.mp ha).1.trans (mem_eligibleOfTier.mp hb).1.symm
  · rw [mem_eligibleOfTier]
    simp only [eligibleForRestore, Bool.and_eq_true, beq_iff_eq, List.isEmpty_iff]
    tauto

/-- The eligible channels of all tiers, in their order (R122). -/
theorem eligibleInOrder_restoreOrder (s : State) : RestoreOrder s (fun _ => True) (eligibleInOrder s) := by
  have h := restoreOrder_filter (s := s) (more := fun _ => True) (p := fun _ => true) fun _ => iff_of_true rfl trivial
  rwa [List.filter_true] at h

theorem RestoreOrder.nodup {more : Ch → Prop} {js : List Ch} (h : RestoreOrder s more js) : js.Nodup :=
  h.1.imp fun {a b} hab e => by
    subst e
    rcases hab with hlt | ⟨-, hlt⟩ <;> exact absurd hlt (lt_irrefl _)

/-- One channel that is placed: its entry at the tail, an evaluation and an examination due (R36, R122). -/
theorem placeRestore_spec (c : Ch) (hg : s.source.state = .grid) :
    ∃ v i x w, placeRestore c s = { s with
        chans := v
        budget := { s.budget with queue := s.budget.queue ++ [restoreEntry s c], inflight := i, late := x }
        work := w } ∧
      w.exam = true ∧ w.eval = true := by
  obtain ⟨v, i, w, h, he⟩ := join_spec (.single c) .restore hg (List.cons_ne_nil c [])
  exact ⟨v, i, _, { w with exam := true }, h, rfl, he⟩

/-- Channels placed one after the other: their entries at the tail in the same order (R122). -/
theorem forEach_placeRestore_spec (js : List Ch) (hg : s.source.state = .grid) :
    ∃ v i x w, forEach js placeRestore s = { s with
        chans := v
        budget := { s.budget with queue := s.budget.queue ++ js.map (restoreEntry s), inflight := i, late := x }
        work := w } ∧
      (js ≠ [] → w.exam = true ∧ w.eval = true) := by
  induction js using List.reverseRecOn with
  | nil =>
    refine ⟨s.chans, s.budget.inflight, s.budget.late, s.work, ?_, fun h => absurd rfl h⟩
    rw [List.map_nil, List.append_nil]
    rfl
  | append_singleton js c ih =>
    obtain ⟨v, i, x, w, hjs, -⟩ := ih
    obtain ⟨v', i', x', w', hc, hmarks⟩ := placeRestore_spec (s := forEach js placeRestore s) c
      (by rw [hjs]; exact hg)
    refine ⟨v', i', x', w', ?_, fun _ => hmarks⟩
    have hlast : forEach (js ++ [c]) placeRestore s = placeRestore c (forEach js placeRestore s) :=
      List.foldl_append
    rw [hlast, hc, hjs]
    simp only [List.map_append, List.append_assoc]
    rfl

/-- The record of each channel after the placing: PENDING where it is placed (R36). -/
theorem forEach_placeRestore_ch {js : List Ch} (hn : js.Nodup) (hg : s.source.state = .grid) (d : Ch) :
    (forEach js placeRestore s).ch d =
      if d ∈ js then { s.ch d with state := .pending, since := s.now } else s.ch d := by
  have h := forEach_ch placeRestore
    (fun now _ st _ r => if st = .grid then { r with state := .pending, since := now } else r)
    (fun c t => ⟨congrArg Fixed.now (join_fixed (.single c) .restore t),
      congrArg Fixed.cfg (join_fixed (.single c) .restore t), autoPlace_source_state c t⟩) autoPlace_ch js hn s d
  rw [h, if_pos hg]

/-! ### RESTORE by its argument (R125) -/

/-- The state after RESTORE has placed a list of channels, with its reply. -/
def restored (js : List Ch) (s : State) : State × Reply := (forEach js placeRestore s, okWith [fSet "joined" js])

theorem doRestore_absent {x : Option TierArg} (hx : x = none) : doRestore x s = (s, errReply .syntaxError) := by
  rw [hx]
  rfl

theorem doRestore_range {x : Option TierArg} {n : Int} (hx : x = some (.tier n)) (h : n < 0 ∨ 3 < n) :
    doRestore x s = (s, errReply .range) := by
  have hn : index? 4 n = none := index?_none (h.imp_right fun _ => by omega)
  simp only [hx, doRestore, hn, refuse]

theorem doRestore_tier (t : Tier) :
    doRestore (some (.tier t.val)) s =
      if s.source.state = .grid then restored (eligibleOfTier s t.val) s else (s, errReply .source) := by
  simp only [doRestore, index?_val, refuse, restored]

theorem doRestore_all :
    doRestore (some .all) s =
      if s.source.state = .grid then restored (eligibleInOrder s) s else (s, errReply .source) := rfl

/-- Outside GRID a RESTORE with a good argument is refused (R125). -/
theorem doRestore_source {x : Option TierArg} (hx : x = some .all ∨ ∃ t : Tier, x = some (.tier t.val))
    (hg : s.source.state ≠ .grid) : doRestore x s = (s, errReply .source) := by
  rcases hx with rfl | ⟨t, rfl⟩
  · rw [doRestore_all, if_neg hg]
  · rw [doRestore_tier, if_neg hg]

/-- In GRID it places the eligible channels that its argument asks for, in their order (R122, R125). -/
theorem doRestore_places {x : Option TierArg} (hx : x = some .all ∨ ∃ t : Tier, x = some (.tier t.val))
    (hg : s.source.state = .grid) : ∃ js, doRestore x s = restored js s ∧
      RestoreOrder s (fun c => x = some .all ∨ x = some (.tier (s.chCfg c).tier.val)) js := by
  rcases hx with rfl | ⟨t, rfl⟩
  · refine ⟨_, doRestore_all.trans (if_pos hg), ?_⟩
    simpa using eligibleInOrder_restoreOrder s
  · refine ⟨_, (doRestore_tier t).trans (if_pos hg), ?_⟩
    simpa [eq_comm] using eligibleOfTier_restoreOrder s t.val

end

/-- The entries joined now carry the same stamp in the state that the line found (R36). -/
theorem found_restoreEntry (l : LineId) (i : Instr) (s : State) : restoreEntry (found l i s) = restoreEntry s :=
  funext fun c => by rw [restoreEntry, restoreEntry, found_now]

/-- Settles O45: the refusals, and in GRID the channels that are placed, in their order. -/
theorem restorePlacesTheEligible : Obligations.RestorePlacesTheEligible := by
  intro l x s i tier h
  refine ⟨fun hx => .of_runCommand rfl h (doRestore_absent hx),
    fun n hx hn => .of_runCommand rfl h (doRestore_range hx hn),
    fun hx hg => .of_runCommand rfl h (doRestore_source hx (by rwa [found_source_state])), fun hx hg => ?_⟩
  have hgrid : (found l i s).source.state = .grid := (found_source_state ..).trans hg
  obtain ⟨js, hrun, horder, hmem⟩ := doRestore_places hx hgrid
  have hch := fun c => forEach_placeRestore_ch (RestoreOrder.nodup ⟨horder, hmem⟩) hgrid c
  obtain ⟨v, f, y, w, hspec, hmarks⟩ := forEach_placeRestore_spec js hgrid
  rw [restored, hspec] at hrun
  rw [hspec] at hch
  simp only [found_chCfg, found_ch, found_now] at horder hmem hch
  refine ⟨js, _, .of_runCommand rfl h hrun, horder, hmem, hch, ?_, rfl, rfl, found_run .., found_shelf .., ⟨rfl, rfl⟩,
    hmarks, (found_sameRest l i s).trans ⟨rfl, rfl, rfl, rfl, rfl, rfl, rfl, rfl, rfl, rfl⟩⟩
  show (found l i s).budget.queue ++ js.map (restoreEntry (found l i s)) = _
  rw [found_budget, found_restoreEntry]
  rfl

end Sys2Proof.Machine
end

section
/-! The stages of host silence and its end (R127, R128). -/

namespace Sys2Proof.Machine

/-- The state without its silence: stage 0, and the configured restore policy effective (R128). -/
def unsilenced (s : State) : State :=
  { s with source := { s.source with stage := 0, policy := s.cfg.charge.policy } }

section
variable {s : State}

/-! ### The end of a silence (R128) -/

/-- A restore pass that waits alone, with its conditions not met, leaves nothing but the mark taken (R124). -/
theorem settle_restore_idle (hw : s.work = { Work.none with restore := true }) (h : autoRestoreHolds s = false) :
    settle s = { s with work := .none } := by
  have hover : handOver s = { s with work := .none } := by
    have hpass : handOver s = autoRestore { s with work := .none } := by
      simp only [handOver, hw, Work.none, State.modWork]
      rfl
    rw [hpass, autoRestore, if_neg (by simpa [autoRestoreHolds] using h)]
  have hstep : settle s = settleN (Config.settleFuel - 1) (handOver s) :=
    if_neg (by rw [hw]; decide)
  rw [hstep, hover]
  exact if_pos rfl

theorem endSilence_stage_zero (h : s.source.stage = 0) :
    endSilence s = s.modSource fun x => { x with silence := silenceTimer s } := by
  rw [endSilence, if_pos h]

/-- The configured policy becomes the effective one at stage 0; a restore pass is due where that is a change (R124). -/
theorem setPolicy_configured (s : State) :
    setPolicy s.cfg.charge.policy (s.modSource fun x => { x with stage := 0 }) =
      if s.source.policy = s.cfg.charge.policy then unsilenced s else markRestore (unsilenced s) := by
  by_cases hp : s.source.policy = s.cfg.charge.policy
  · rw [if_pos hp, unsilenced, ← hp]
    exact if_pos rfl
  · rw [if_neg hp]
    exact if_neg hp

/-- A silence ends like none at all, but for a restore pass where the effective policy changes (R124, R128). -/
theorem endSilence_unsilenced (h : s.source.stage ≠ 0) : endSilence s =
    if s.source.policy = s.cfg.charge.policy then endSilence (unsilenced s)
    else markRestore (endSilence (unsilenced s)) := by
  rw [endSilence_stage_zero (s := unsilenced s) rfl, endSilence, if_neg h, setPolicy_configured]
  split <;> rfl

/-- A policy that the end of a silence changes goes from AUTO to HOST, with which no restore pass is taken (R124). -/
theorem PolicyLaw.host_of_ne (h : PolicyLaw s) (hp : s.source.policy ≠ s.cfg.charge.policy) :
    s.cfg.charge.policy = .host := by
  rw [h.2] at hp
  split at hp
  · cases hc : s.cfg.charge.policy with
    | host => rfl
    | auto => exact absurd hc.symm hp
  · exact absurd rfl hp

/-- The heard line ends the silence within its step (R128). -/
theorem heard_unsilenced (hw : s.work = .none) (hs : s.source.stage ≠ 0) (h : PolicyLaw s) :
    heard .manager s = heard .manager (unsilenced s) := by
  let t := endSilence (unsilenced s)
  have ht : t = (unsilenced s).modSource fun x => { x with silence := silenceTimer s } := endSilence_stage_zero rfl
  have hquiet : t.work = .none := by rw [ht]; exact hw
  show settle (endSilence s) = settle t
  rw [endSilence_unsilenced hs]
  by_cases hp : s.source.policy = s.cfg.charge.policy
  · rw [if_pos hp]
  · have hmark : (markRestore t).work = { Work.none with restore := true } := by rw [← hquiet]; rfl
    have hidle : autoRestoreHolds (markRestore t) = false := by
      have hhost : (markRestore t).source.policy = .host := by rw [ht]; exact h.host_of_ne hp
      rw [autoRestoreHolds, hhost]
      rfl
    rw [if_neg hp, settle_restore_idle hmark hidle, settle_quiet t hquiet, ← hquiet]
    rfl

/-! ### A line that is received (R171, R173) -/

theorem receive_unsilenced (hp : s.power = .running) (hw : s.work = .none) (hs : s.source.stage ≠ 0) (h : PolicyLaw s)
    (tag : List Char) (body : LineBody) :
    receive .manager tag body s = receive .manager tag body (unsilenced s) := by
  have hp' : (unsilenced s).power = .running := hp
  simp only [receive, hp, hp', heard_unsilenced hw hs h]

/-- A text that is not overlong and has a tag and a good check is received; the receive text is empty then (R171). -/
theorem lineEnds_received {p : Port} {x tag body : List Char} (ho : (s.port p).overlong = false)
    (h : receivedLine ((s.port p).rx ++ x) = some (tag, body)) :
    lineEnds p x s = receive p tag (.text body) (s.modPort p fun c => { c with rx := [], overlong := false }) := by
  have hne : ((s.port p).rx ++ x).isEmpty = false := by
    cases ht : (s.port p).rx ++ x with
    | nil => rw [ht] at h; exact nomatch h
    | cons c t => rfl
  simp only [lineEnds, ho, hne, h, Bool.false_eq_true, if_false]

theorem lineEnds_unsilenced (hp : s.power = .running) (hw : s.work = .none) (hs : s.source.stage ≠ 0) (h : PolicyLaw s)
    {x : List Char} (ho : (s.port .manager).overlong = false)
    (hx : (receivedLine ((s.port .manager).rx ++ x)).isSome) :
    lineEnds .manager x s = lineEnds .manager x (unsilenced s) := by
  obtain ⟨⟨tag, body⟩, hline⟩ := Option.isSome_iff_exists.mp hx
  let t := s.modPort .manager fun c => { c with rx := [], overlong := false }
  calc lineEnds .manager x s
    _ = receive .manager tag (.text body) t := lineEnds_received ho hline
    _ = receive .manager tag (.text body) (unsilenced t) := receive_unsilenced (s := t) hp hw hs h tag _
    _ = lineEnds .manager x (unsilenced s) := (lineEnds_received (s := unsilenced s) (p := .manager) ho hline).symm

/-! ### The silence timer expires (R127) -/

theorem takeSilenceExpiry_stopped (h : s.source.silence = none) : takeSilenceExpiry s = s := if_neg (by simp [h])

theorem takeSilenceExpiry_stage_zero (h : s.source.silence.isSome) (hs : s.source.stage = 0) :
    takeSilenceExpiry s = raise .hostSilent none (some 1) (some s.cfg.charge.window)
      (s.modSource fun x => { x with stage := 1, silence := silenceTimer s }) :=
  (if_pos h).trans (if_pos hs)

theorem takeSilenceExpiry_stage_one (h : s.source.silence.isSome) (hs : s.source.stage = 1) :
    takeSilenceExpiry s = raise .hostSilent none (some 2) (some s.cfg.charge.window)
      (setPolicy .auto (s.modSource fun x => { x with stage := 2, silence := none })) :=
  (if_pos h).trans ((if_neg (by simp [hs])).trans (if_pos hs))

/-- A change of the effective policy makes a restore pass due (R124). -/
theorem setPolicy_changes {p : RestorePolicy} (h : s.source.policy ≠ p) : (setPolicy p s).work.restore = true := by
  rw [setPolicy, if_neg h]
  rfl

end

/-- Settles O21: the line that ends a silence, and the expiry of the silence timer by stage. -/
theorem silenceStagesAndTheirEnd : Obligations.SilenceStagesAndTheirEnd := by
  refine ⟨fun s hp hw hs hlaw => ⟨fun l i hl hi => ?_, fun x ho hx => ?_⟩, fun s hp =>
    ⟨fun h => .of_event_eq rfl hp (takeSilenceExpiry_stopped h), fun h hs => ?_, fun h hs => ?_⟩⟩
  · rw [exec_of_line hi, exec_of_line hi, hl]
    exact congrArg _ (receive_unsilenced hp hw hs hlaw l.tag (.cmd i))
  · have hon : s.power ≠ .off := by simp [hp]
    show Host.Outcome.next (if s.power = .off then _ else _) = Host.Outcome.next (if s.power = .off then _ else _)
    rw [if_neg hon, if_neg hon]
    exact congrArg _ (lineEnds_unsilenced hp hw hs hlaw ho hx)
  · refine ⟨_, .of_event_eq rfl hp (takeSilenceExpiry_stage_zero h hs), ?_,
      raise_congr _ _ _ _ rfl rfl rfl rfl, ?_⟩
    · rw [raise_source]
      rfl
    · rw [raise_spec]
      exact ⟨rfl, rfl, rfl, rfl, rfl, rfl, ⟨rfl, rfl, rfl, rfl, rfl, rfl, rfl, rfl, rfl, rfl⟩⟩
  · let v := s.modSource fun x => { x with stage := 2, silence := none }
    obtain ⟨b, hv⟩ := setPolicy_spec .auto v
    obtain ⟨hnow, hcfg, hlink, htally⟩ : (setPolicy .auto v).now = s.now ∧ (setPolicy .auto v).cfg = s.cfg ∧
        (setPolicy .auto v).link = s.link ∧ (setPolicy .auto v).tally = s.tally := by
      rw [hv]
      exact ⟨rfl, rfl, rfl, rfl⟩
    have hrestore : s.source.policy = .host → (setPolicy .auto v).work.restore = true := fun hh =>
      setPolicy_changes (by show s.source.policy ≠ _; rw [hh]; decide)
    refine ⟨_, .of_event_eq rfl hp (takeSilenceExpiry_stage_one h hs), ?_,
      raise_congr _ _ _ _ hnow hcfg hlink htally, fun hh => (raise_work ..).symm ▸ hrestore hh, ?_⟩
    · rw [raise_source, hv]
      rfl
    · rw [raise_spec, hv]
      exact ⟨rfl, rfl, rfl, rfl, rfl, ⟨rfl, rfl, rfl, rfl, rfl, rfl, rfl, rfl, rfl, rfl⟩⟩

end Sys2Proof.Machine
end

section
/-! The readings of a leak scan (R133 to R141): a zone's record after its reading, and what it hands over. -/

namespace Sys2Proof.Machine

/-! ### Patterns and classes (R134, R137) -/

theorem matching_eq (s : State) (z : Zone) : matching s z = matchingOf s.cfg z s.zones[z].history := by
  have hpos : ∀ (h : List Wetness) (q : Fin 16 × Wetness),
      (decide (q.1.val < h.length) && (h[q.1.val]? == some q.2)) = positionHolds h q := fun h q => by
    by_cases hq : q.1.val < h.length <;> simp [positionHolds, hq]
  refine List.filter_congr fun p _ => ?_
  simp only [Pattern.holds, hpos]
  rw [← Bool.and_assoc, ← Bool.and_assoc, ← Bool.and_assoc, Bool.and_comm (s.cfg.zone[z].pats.contains p)]

section
variable {g : ZoneCfg} {x : Nat}

theorem classify_eq :
    (if g.openLevel ≤ x then LoopClass.cable else if x ≤ g.wet then .wet else .dry) = classify g x := rfl

theorem classify_cable (h : g.openLevel ≤ x) : classify g x = .cable := if_pos h

theorem classify_wet (h : g.wet < g.openLevel) (hx : x ≤ g.wet) : classify g x = .wet :=
  (if_neg (by omega)).trans (if_pos hx)

theorem classify_dry (hw : g.wet < x) (ho : x < g.openLevel) : classify g x = .dry :=
  (if_neg (by omega)).trans (if_neg (by omega))

end

/-! ### A WATCH zone is judged (R138, R139) -/

/-- A WATCH zone's record after its judgement: WET by a pattern, CABLE FAULT by its count, or WATCH. -/
def ZoneRec.judged (w : WorkCfg) (now : Stamp) (z : Zone) (r : ZoneRec) : ZoneRec :=
  if (matchingOf w z r.history).isEmpty then
    if r.cls = some .cable ∧ w.zone[z].cnt ≤ r.cable then { r with state := .cableFault, wetSince := some now } else r
  else { r with
    state := .wet, matched := matchingOf w z r.history, wetSince := some now
    esc := if w.zone[z].esc = 0 then none else some ⟨now, w.zone[z].esc⟩ }

/-- What a zone hands over at a scan, by its record before and its state after (R138, R139, R150). -/
def latchCause (w : WorkCfg) (z : Zone) (r : ZoneRec) (after : ZoneState) : Option LeakCause :=
  if r.state ≠ .wet ∧ r.state ≠ .escalated ∧ after = .wet then some .wet
  else if w.zone[z].cpol = .treatWet ∧ r.state = .watch ∧ after = .cableFault then some .cable
  else none

section
variable {w : WorkCfg} {z : Zone} {r : ZoneRec} {a : ZoneState}

theorem latchCause_eq_none (h : a ≠ .wet) (h' : a ≠ .cableFault) : latchCause w z r a = none := by
  simp [latchCause, h, h']

theorem latchCause_of_latched (h : r.state = .wet ∨ r.state = .escalated) : latchCause w z r a = none := by
  rcases h with h | h <;> simp [latchCause, h]

theorem latchCause_wet (h : r.state ≠ .wet) (h' : r.state ≠ .escalated) : latchCause w z r .wet = some .wet :=
  if_pos ⟨h, h', rfl⟩

theorem latchCause_of_cableFault (h : r.state = .cableFault) : latchCause w z r .cableFault = none := by
  simp [latchCause, h]

theorem latchCause_cable (h : r.state = .watch) : latchCause w z r .cableFault =
    match w.zone[z].cpol with
    | .report => none
    | .treatWet => some .cable := by
  generalize hp : w.zone[z].cpol = p
  cases p <;> simp only [latchCause, h, hp] <;> decide

end

section
variable {w : WorkCfg} {now : Stamp} {z : Zone} {r r' : ZoneRec}

/-- A zone without a CABLE sample does not enter CABLE FAULT (R139). -/
theorem ZoneRec.judged_state_ne_cableFault (hs : r.state = .watch) (hc : r.cls ≠ some .cable) :
    (r.judged w now z).state ≠ .cableFault := by
  simp only [judged, hc, false_and, if_false]
  split
  · rw [hs]; decide
  · exact nofun

/-- A zone that leaves CABLE FAULT hands over what a WATCH zone would (R139). -/
theorem latchCause_left_cableFault {a : ZoneState} (h : r.state = .watch) (h' : r'.state = .cableFault)
    (ha : a ≠ .cableFault) : latchCause w z r a = latchCause w z r' a := by
  simp [latchCause, h, h', ha]

theorem latchCause_congr {a : ZoneState} (h : r.state = r'.state) : latchCause w z r a = latchCause w z r' a := by
  simp only [latchCause, h]

end

/-- A state in which one zone has the record `r`, and the ports and the tallies may differ. -/
def zoneTaken (z : Zone) (r : ZoneRec) (k : Link) (t : Tally) (s : State) : State :=
  { s with zones := s.zones.set z r, link := k, tally := t }

theorem judgeWatch_spec (z : Zone) {s : State} (hs : s.zones[z].state = .watch) :
    ∃ k t, judgeWatch z s = (zoneTaken z (s.zones[z].judged s.cfg s.now z) k t s,
        latchCause s.cfg z s.zones[z] (s.zones[z].judged s.cfg s.now z).state) ∧
      (s.zones[z].cls ≠ some .cable → t = s.tally) := by
  have hn : s.zones[z].state ≠ .wet ∧ s.zones[z].state ≠ .escalated := by rw [hs]; decide
  simp only [judgeWatch, matching_eq, ZoneRec.judged]
  split
  · split
    · next hc =>
      refine ⟨_, _, Prod.ext (raise_spec ..) (latchCause_cable hs).symm, fun h => absurd hc.1 h⟩
    · refine ⟨s.link, s.tally, Prod.ext ?_ (latchCause_eq_none ?_ ?_).symm, fun _ => rfl⟩
      · simp [zoneTaken]
      · exact hn.1
      · rw [hs]; decide
  · refine ⟨s.link, s.tally, Prod.ext ?_ (latchCause_wet hn.1 hn.2).symm, fun _ => rfl⟩
    simp only [enterWet, matching_eq]
    rfl

/-! ### A zone's record after its reading, by its state before (R134, R135, R138 to R141) -/

/-- A zone's record once its reading is stored and classified (R134, R135). -/
def ZoneRec.classified (w : WorkCfg) (z : Zone) (x : Nat) (r : ZoneRec) : ZoneRec :=
  takeClass { r with reading := some x } (classify w.zone[z] x)

section
variable {w : WorkCfg} {now : Stamp} {z : Zone} {x : Nat} {r : ZoneRec}

theorem ZoneRec.classified_state : (r.classified w z x).state = r.state := by
  simp only [classified, takeClass]
  split <;> rfl

theorem ZoneRec.classified_cls : (r.classified w z x).cls = some (classify w.zone[z] x) := by
  simp only [classified, takeClass]
  split <;> rfl

theorem ZoneRec.judged_cls : (r.judged w now z).cls = r.cls := by
  simp only [judged]
  split
  · split <;> rfl
  · rfl

theorem zoneAfterScan_off (h : r.state = .off) : zoneAfterScan w now z x r = { r with reading := some x } := by
  simp only [zoneAfterScan, h]

theorem zoneAfterScan_latched (h : r.state = .wet ∨ r.state = .escalated) :
    zoneAfterScan w now z x r = r.classified w z x := by
  rcases h with h | h <;> cases hc : classify w.zone[z] x <;>
    simp only [zoneAfterScan, h, ZoneRec.classified, classify_eq, hc] <;> simp [takeClass, pushHistory, satInc]

theorem zoneAfterScan_watch (h : r.state = .watch) :
    zoneAfterScan w now z x r = (r.classified w z x).judged w now z := by
  cases hc : classify w.zone[z] x <;> simp only [zoneAfterScan, h, ZoneRec.classified, classify_eq, hc] <;>
    simp [takeClass, pushHistory, satInc, ZoneRec.judged]

theorem zoneAfterScan_cableFault_stays (h : r.state = .cableFault)
    (hs : w.zone[z].cpol = .treatWet ∨ classify w.zone[z] x = .cable) :
    zoneAfterScan w now z x r = r.classified w z x := by
  simp only [zoneAfterScan, h, classify_eq, if_pos hs]
  cases hc : classify w.zone[z] x <;> simp only [ZoneRec.classified, hc] <;> simp [takeClass, h, pushHistory, satInc]

theorem zoneAfterScan_cableFault_judged (h : r.state = .cableFault) (hp : w.zone[z].cpol ≠ .treatWet)
    (hn : classify w.zone[z] x ≠ .cable) : zoneAfterScan w now z x r =
      ({ r.classified w z x with state := .watch, wetSince := none } : ZoneRec).judged w now z := by
  simp only [zoneAfterScan, h, classify_eq, if_neg (not_or.mpr ⟨hp, hn⟩)]
  cases hc : classify w.zone[z] x with
  | cable => exact absurd hc hn
  | wet | dry =>
    simp only [ZoneRec.classified, hc]
    simp [takeClass, h, pushHistory, ZoneRec.judged]

/-- An enabled zone stores the class of its reading (R134). -/
theorem zoneAfterScan_cls (h : r.state ≠ .off) :
    (zoneAfterScan w now z x r).cls = some (classify w.zone[z] x) := by
  cases hs : r.state with
  | off => exact absurd hs h
  | wet => rw [zoneAfterScan_latched (.inl hs), ZoneRec.classified_cls]
  | escalated => rw [zoneAfterScan_latched (.inr hs), ZoneRec.classified_cls]
  | watch => rw [zoneAfterScan_watch hs, ZoneRec.judged_cls, ZoneRec.classified_cls]
  | cableFault =>
    by_cases hc : w.zone[z].cpol = .treatWet ∨ classify w.zone[z] x = .cable
    · rw [zoneAfterScan_cableFault_stays hs hc, ZoneRec.classified_cls]
    · obtain ⟨hp, hn⟩ := not_or.mp hc
      rw [zoneAfterScan_cableFault_judged hs hp hn, ZoneRec.judged_cls]
      exact ZoneRec.classified_cls

end

/-! ### A zone takes its reading (R133 to R141) -/

theorem zoneTaken_zone (z : Zone) (r : ZoneRec) (k : Link) (t : Tally) (s : State) :
    (zoneTaken z r k t s).zones[z] = r := State.modZone_zone_same s z fun _ => r

theorem zoneTaken_zoneTaken (z : Zone) (r r' : ZoneRec) (k k' : Link) (t t' : Tally) (s : State) :
    zoneTaken z r' k' t' (zoneTaken z r k t s) = zoneTaken z r' k' t' s := by simp [zoneTaken]

/-- A state in which a zone has stored and classified a reading, and a WET sample is counted (R134, R135). -/
def readingStored (z : Zone) (x : Nat) (s : State) : State :=
  zoneTaken z (s.zones[z].classified s.cfg z x) s.link
    (if classify s.cfg.zone[z] x = .wet then s.tally.take .leakWetSamples else s.tally) s

theorem readingStored_zone (z : Zone) (x : Nat) (s : State) :
    (readingStored z x s).zones[z] = s.zones[z].classified s.cfg z x := zoneTaken_zone ..

/-- The updates of R134 and R135, one after the other. -/
theorem store_classify_count (z : Zone) (x : Nat) (s : State) :
    (if classify s.cfg.zone[z] x = .wet then
        count .leakWetSamples ((s.modZone z fun r => { r with reading := some x }).modZone z fun r =>
          takeClass r (classify s.cfg.zone[z] x))
      else (s.modZone z fun r => { r with reading := some x }).modZone z fun r =>
        takeClass r (classify s.cfg.zone[z] x)) = readingStored z x s := by
  have hz : ((s.modZone z fun r => { r with reading := some x }).modZone z fun r =>
      takeClass r (classify s.cfg.zone[z] x)) = zoneTaken z (s.zones[z].classified s.cfg z x) s.link s.tally s := by
    simp [State.modZone, zoneTaken, ZoneRec.classified]
  rw [hz, readingStored]
  split <;> rfl

theorem sampleZone_off {z : Zone} {x : Nat} {s : State} (h : s.zones[z].state = .off) :
    sampleZone z x s = (zoneTaken z { s.zones[z] with reading := some x } s.link s.tally s, none) := by
  rw [sampleZone, if_pos (by rw [State.modZone_zone_same]; exact h)]
  rfl

theorem sampleZone_enabled {z : Zone} {x : Nat} {s : State} (h : s.zones[z].state ≠ .off) :
    sampleZone z x s =
      match s.zones[z].state with
      | .watch => judgeWatch z (readingStored z x s)
      | .cableFault =>
        if s.cfg.zone[z].cpol = .treatWet ∨ classify s.cfg.zone[z] x = .cable then (readingStored z x s, none)
        else judgeWatch z
          ((readingStored z x s).modZone z fun r => { r with state := .watch, wetSince := none })
      | .wet | .escalated | .off => (readingStored z x s, none) := by
  rw [sampleZone, if_neg (by rw [State.modZone_zone_same]; exact h)]
  rw [State.modZone_cfg]
  dsimp only
  rw [store_classify_count, readingStored_zone, ZoneRec.classified_state]
  cases hs : s.zones[z].state with
  | watch | wet | escalated | off => rfl
  | cableFault =>
    have hcfg : (readingStored z x s).cfg = s.cfg := rfl
    cases hp : s.cfg.zone[z].cpol <;> simp only [hcfg, hp, reduceCtorEq, true_or, false_or, if_true]

/-- A zone that takes its reading has the record of R133 to R141, and hands over what it enters; the tallies count a WET
sample and, apart from a CABLE sample, nothing else. -/
theorem sampleZone_spec (z : Zone) (x : Nat) (s : State) :
    ∃ k t, sampleZone z x s = (zoneTaken z (zoneAfterScan s.cfg s.now z x s.zones[z]) k t s,
        latchCause s.cfg z s.zones[z] (zoneAfterScan s.cfg s.now z x s.zones[z]).state) ∧
      (s.zones[z].state ≠ .off → classify s.cfg.zone[z] x ≠ .cable →
        t = if classify s.cfg.zone[z] x = .wet then s.tally.take .leakWetSamples else s.tally) := by
  have hrec := readingStored_zone z x s
  have hstate : (readingStored z x s).zones[z].state = s.zones[z].state := by rw [hrec, ZoneRec.classified_state]
  have hcls : (readingStored z x s).zones[z].cls = some (classify s.cfg.zone[z] x) := by
    rw [hrec, ZoneRec.classified_cls]
  have hstays : zoneAfterScan s.cfg s.now z x s.zones[z] = s.zones[z].classified s.cfg z x →
      latchCause s.cfg z s.zones[z] s.zones[z].state = none →
      (readingStored z x s, none) = (zoneTaken z (zoneAfterScan s.cfg s.now z x s.zones[z]) s.link
        (if classify s.cfg.zone[z] x = .wet then s.tally.take .leakWetSamples else s.tally) s,
        latchCause s.cfg z s.zones[z] (zoneAfterScan s.cfg s.now z x s.zones[z]).state) := fun ha hl => by
    rw [ha, ZoneRec.classified_state, hl]
    rfl
  by_cases hoff : s.zones[z].state = .off
  · refine ⟨s.link, s.tally, ?_, fun h => absurd hoff h⟩
    rw [sampleZone_off hoff, zoneAfterScan_off hoff]
    refine Prod.ext rfl (latchCause_eq_none ?_ ?_).symm <;>
    · show s.zones[z].state ≠ _
      rw [hoff]; decide
  rw [sampleZone_enabled hoff]
  cases hs : s.zones[z].state with
  | off => exact absurd hs hoff
  | wet => exact ⟨_, _, hstays (zoneAfterScan_latched (.inl hs)) (latchCause_of_latched (.inl hs)), fun _ _ => rfl⟩
  | escalated =>
    exact ⟨_, _, hstays (zoneAfterScan_latched (.inr hs)) (latchCause_of_latched (.inr hs)), fun _ _ => rfl⟩
  | watch =>
    obtain ⟨k, t, hj, ht⟩ := judgeWatch_spec z (hstate.trans hs)
    rw [hrec] at hj
    refine ⟨k, t, hj.trans ?_, fun _ hc => ht (by rwa [hcls, ne_eq, Option.some_inj])⟩
    rw [zoneAfterScan_watch hs, readingStored, zoneTaken_zoneTaken]
    exact Prod.ext rfl (latchCause_congr ZoneRec.classified_state)
  | cableFault =>
    by_cases hc : s.cfg.zone[z].cpol = .treatWet ∨ classify s.cfg.zone[z] x = .cable
    · refine ⟨_, _, (if_pos hc).trans (hstays (zoneAfterScan_cableFault_stays hs hc) ?_), fun _ _ => rfl⟩
      rw [hs]
      exact latchCause_of_cableFault hs
    · obtain ⟨hp, hn⟩ := not_or.mp hc
      let u := (readingStored z x s).modZone z fun r => { r with state := .watch, wetSince := none }
      let r : ZoneRec := { s.zones[z].classified s.cfg z x with state := .watch, wetSince := none }
      have hu : u.zones[z] = r := (State.modZone_zone_same ..).trans (by rw [hrec])
      have hcable : r.cls ≠ some .cable := by
        show (s.zones[z].classified s.cfg z x).cls ≠ _
        rwa [ZoneRec.classified_cls, ne_eq, Option.some_inj]
      obtain ⟨k, t, hj, ht⟩ := judgeWatch_spec z (s := u) (by rw [hu])
      rw [hu] at hj
      refine ⟨k, t, (if_neg hc).trans (hj.trans ?_), fun _ _ => ht (by rwa [hu])⟩
      rw [zoneAfterScan_cableFault_judged hs hp hn]
      refine Prod.ext ?_ (latchCause_left_cableFault rfl hs (ZoneRec.judged_state_ne_cableFault rfl hcable))
      show zoneTaken z (r.judged s.cfg s.now z) k t u = _
      simp [u, zoneTaken, readingStored, State.modZone, r]

/-- Settles O23: the class by the levels, and what each class leaves in the tallies. -/
theorem readingsAreClassified : Obligations.ReadingsAreClassified := by
  intro z x s hs hlev u
  obtain ⟨k, t, hu, ht⟩ := sampleZone_spec z x s
  have hcls : u.zones[z].cls = some (classify s.cfg.zone[z] x) := by
    rw [show u = _ from congrArg Prod.fst hu, zoneTaken_zone, zoneAfterScan_cls hs]
  have htally : u.tally = t := congrArg (State.tally ∘ Prod.fst) hu
  refine ⟨fun hx => ?_, fun hx => ?_, fun hw ho => ?_⟩
  · rw [hcls, classify_cable hx]
  · have hc := classify_wet hlev hx
    rw [hcls, htally, ht hs (by rw [hc]; decide), hc]
    exact ⟨rfl, if_pos rfl⟩
  · have hc := classify_dry hw ho
    rw [hcls, htally, ht hs (by rw [hc]; decide), hc]
    exact ⟨rfl, if_neg (by decide)⟩

/-! ### All zones take their readings (R133) -/

/-- One zone of a scan: its reading is taken, and what it hands over joins the list. -/
def takeNext (x : Vector Nat 16) (y : State × List (Zone × LeakCause)) (z : Zone) : State × List (Zone × LeakCause) :=
  ((sampleZone z x[z] y.1).1, y.2 ++ ((sampleZone z x[z] y.1).2.map (Prod.mk z)).toList)

theorem sampleAll_eq (x : Vector Nat 16) (s : State) : sampleAll x s = allZones.foldl (takeNext x) (s, []) := by
  have hstep : ∀ (y : State × List (Zone × LeakCause)) (z : Zone),
      (let y' := sampleZone z x[z] y.1
       match y'.2 with
       | some c => (y'.1, y.2 ++ [(z, c)])
       | none => (y'.1, y.2)) = takeNext x y z := fun y z => by
    simp only [takeNext]
    generalize sampleZone z x[z] y.1 = o
    obtain ⟨u, c⟩ := o
    cases c with
    | none => exact Prod.ext rfl (List.append_nil _).symm
    | some c => rfl
  exact congrArg (fun f => allZones.foldl f (s, [])) (funext fun y => funext fun z => hstep y z)

/-- The record of a zone after a scan (R133 to R141). -/
def zoneScanned (x : Vector Nat 16) (s : State) (z : Zone) : ZoneRec := zoneAfterScan s.cfg s.now z x[z] s.zones[z]

/-- What a zone hands over at a scan. -/
def scanCause (x : Vector Nat 16) (s : State) (z : Zone) : Option LeakCause :=
  latchCause s.cfg z s.zones[z] (zoneScanned x s z).state

/-- A part of the zones takes its readings: each zone reads its own record only. -/
theorem foldl_takeNext_spec (x : Vector Nat 16) (l : List Zone) (hl : l.Nodup) (s : State)
    (m : List (Zone × LeakCause)) :
    ∃ v k t m', l.foldl (takeNext x) (s, m) = ({ s with zones := v, link := k, tally := t }, m') ∧
      (∀ z : Zone, v[z] = if z ∈ l then zoneScanned x s z else s.zones[z]) ∧
      ∀ y, y ∈ m' ↔ y ∈ m ∨ y.1 ∈ l ∧ scanCause x s y.1 = some y.2 := by
  induction l generalizing s m with
  | nil => exact ⟨s.zones, s.link, s.tally, m, rfl, fun z => rfl, fun y => by simp⟩
  | cons a l ih =>
    obtain ⟨hn, hl'⟩ := List.nodup_cons.mp hl
    obtain ⟨k, t, ha, -⟩ := sampleZone_spec a x[a] s
    let u := zoneTaken a (zoneScanned x s a) k t s
    have hsame : ∀ z, z ≠ a → u.zones[z] = s.zones[z] := fun z hz =>
      State.modZone_zone_other s (fun _ => zoneScanned x s a) hz
    have hscan : ∀ z ∈ l, zoneScanned x u z = zoneScanned x s z ∧ scanCause x u z = scanCause x s z := fun z hz => by
      have hz' := hsame z fun e => hn (e ▸ hz)
      have h : zoneScanned x u z = zoneScanned x s z := by
        simp only [zoneScanned]
        rw [hz']
        rfl
      refine ⟨h, ?_⟩
      rw [scanCause, h, hz']
      rfl
    obtain ⟨v, k', t', m', hf, hv, hm⟩ := ih hl' u (m ++ ((scanCause x s a).map (Prod.mk a)).toList)
    refine ⟨v, k', t', m', ?_, fun z => ?_, fun y => ?_⟩
    · rw [List.foldl_cons, takeNext, ha]
      exact hf
    · rw [hv]
      by_cases hz : z = a
      · subst hz
        rw [if_neg hn, if_pos List.mem_cons_self]
        exact zoneTaken_zone ..
      · by_cases hzl : z ∈ l
        · rw [if_pos hzl, if_pos (List.mem_cons_of_mem a hzl), (hscan z hzl).1]
        · rw [if_neg hzl, if_neg (by simp [hz, hzl]), hsame z hz]
    · obtain ⟨z, c⟩ := y
      have hmem : z ∈ l ∧ scanCause x u z = some c ↔ z ∈ l ∧ scanCause x s z = some c :=
        and_congr_right fun hz => by rw [(hscan z hz).2]
      have hnew : (z, c) ∈ ((scanCause x s a).map (Prod.mk a)).toList ↔ z = a ∧ scanCause x s z = some c := by
        simp only [Option.mem_toList, Option.map_eq_some_iff, Prod.mk.injEq]
        exact ⟨fun ⟨b, hb, hza, hbc⟩ => ⟨hza.symm, by rw [← hza, hb, hbc]⟩,
          fun ⟨hza, hb⟩ => ⟨c, hza ▸ hb, hza.symm, rfl⟩⟩
      simp only [hm, List.mem_append, hmem, hnew, List.mem_cons]
      tauto

/-- A scan leaves each zone's record as R133 to R141 say, and collects what the zones hand over. -/
theorem sampleAll_spec (x : Vector Nat 16) (s : State) :
    ∃ v k t l, sampleAll x s = ({ s with zones := v, link := k, tally := t }, l) ∧
      (∀ z : Zone, v[z] = zoneScanned x s z) ∧ ∀ y, y ∈ l ↔ scanCause x s y.1 = some y.2 := by
  obtain ⟨v, k, t, l, hf, hv, hl⟩ := foldl_takeNext_spec x allZones (List.nodup_finRange 16) s []
  refine ⟨v, k, t, l, (sampleAll_eq x s).trans hf, fun z => (hv z).trans (if_pos (List.mem_finRange z)), fun y => ?_⟩
  rw [hl]
  simp [allZones]

/-- The order in which latched zones are taken loses none and adds none (log 12). -/
theorem mem_latchOrder (n : Nat) (l : List (Zone × LeakCause)) (y : Zone × LeakCause) : y ∈ latchOrder n l ↔ y ∈ l := by
  unfold latchOrder
  split
  · exact Iff.rfl
  · exact Iff.rfl
  · exact (List.perm_insertionSort _ l).mem_iff

/-- A leak scan is the readings taken, and then the latched zones handed over one after the other (R133, R150). -/
theorem takeLeakScan_spec (x : Vector Nat 16) (s : State) :
    ∃ v k t n l, takeLeakScan x s = forEach l latchZone
        { s with zones := v, link := k, tally := t, scan := some ⟨s.now, s.cfg.scanPeriod⟩, orders := n } ∧
      (∀ z : Zone, v[z] = zoneScanned x s z) ∧ ∀ y, y ∈ l ↔ scanCause x s y.1 = some y.2 := by
  obtain ⟨v, k, t, l, hs, hv, hl⟩ := sampleAll_spec x (s.setScan (some (s.timer s.cfg.scanPeriod)))
  let n := if 2 ≤ l.length then s.orders + 1 else s.orders
  refine ⟨v, k, t, n, latchOrder s.orders l, ?_, hv, fun y => (mem_latchOrder ..).trans (hl y)⟩
  rw [takeLeakScan, hs]
  dsimp only [n]
  split <;> rfl

end Sys2Proof.Machine
end

section
/-! What the Leak Response Unit does to channels, valves and the capture (R150 to R152, R161, R165), one operation at a
time and over a list. -/

namespace Sys2Proof.Machine

/-! ### Loops -/

/-- A property that each turn of a loop keeps for the elements of the list, the loop keeps. -/
theorem forEach_keeps_of_mem {α : Type} {P : State → Prop} {f : α → State → State} {l : List α}
    (h : ∀ a ∈ l, ∀ s, P s → P (f a s)) {s : State} (hs : P s) : P (forEach l f s) := by
  induction l generalizing s with
  | nil => exact hs
  | cons a l ih => exact ih (fun b hb => h b (List.mem_cons_of_mem a hb)) (h a List.mem_cons_self s hs)

/-- What one turn of a loop makes of a kept property, and each turn keeps, holds after the loop. -/
theorem forEach_establishes {α : Type} {P Q : State → Prop} {f : α → State → State} {l : List α} {a : α} (ha : a ∈ l)
    (hP : ∀ b s, P s → P (f b s)) (hPQ : ∀ s, P s → Q (f a s)) (hQ : ∀ b s, Q s → Q (f b s)) {s : State} (hs : P s) :
    Q (forEach l f s) := by
  obtain ⟨l₁, l₂, rfl⟩ := List.append_of_mem ha
  have hsplit : forEach (l₁ ++ a :: l₂) f s = forEach l₂ f (f a (forEach l₁ f s)) := by simp [forEach]
  rw [hsplit]
  exact forEach_keeps Q f hQ l₂ _ (hPQ _ (forEach_keeps P f hP l₁ s hs))

/-- `forEach_ch` for a list that may name a channel more than once, where a second turn on a record changes nothing. -/
theorem forEach_ch_of_idem (f : Ch → State → State) (g : Stamp → WorkCfg → SrcState → Ch → Channel → Channel)
    (hk : ∀ c s, (f c s).now = s.now ∧ (f c s).cfg = s.cfg ∧ (f c s).source.state = s.source.state)
    (hf : ∀ c d s, (f c s).ch d = if d = c then g s.now s.cfg s.source.state c (s.ch c) else s.ch d)
    (hg : ∀ t w st c r, g t w st c (g t w st c r) = g t w st c r) (l : List Ch) (s : State) (d : Ch) :
    (forEach l f s).ch d = if d ∈ l then g s.now s.cfg s.source.state d (s.ch d) else s.ch d := by
  induction l generalizing s with
  | nil => rfl
  | cons a l ih =>
    obtain ⟨hnow, hcfg, hsrc⟩ := hk a s
    show (forEach l f (f a s)).ch d = _
    rw [ih, hnow, hcfg, hsrc, hf]
    by_cases hd : d = a
    · subst hd
      simp [hg]
    · simp [hd]

theorem mem_allCh (c : Ch) : c ∈ allCh := List.mem_finRange c

theorem mem_allValves (v : ValveIx) : v ∈ allValves := List.mem_finRange v

/-! ### The records left alone -/

/-- The records that the Leak Response Unit leaves alone, the slots and the source state among them. -/
structure LeakFrame (s u : State) : Prop where
  rest : SameRest s u
  shelf : u.shelf = s.shelf
  srcState : u.source.state = s.source.state

theorem LeakFrame.refl (s : State) : LeakFrame s s :=
  ⟨⟨rfl, rfl, rfl, rfl, rfl, rfl, rfl, rfl, rfl, rfl⟩, rfl, rfl⟩

theorem LeakFrame.trans {s t u : State} (h : LeakFrame s t) (k : LeakFrame t u) : LeakFrame s u :=
  ⟨h.rest.trans k.rest, k.shelf.trans h.shelf, k.srcState.trans h.srcState⟩

theorem LeakFrame.forEach {α : Type} {f : α → State → State} (h : ∀ a s, LeakFrame s (f a s)) (l : List α) (s : State) :
    LeakFrame s (Machine.forEach l f s) :=
  forEach_keeps (LeakFrame s) f (fun a t ht => ht.trans (h a t)) l s (.refl s)

/-- What the loops over channels need of a turn. -/
theorem LeakFrame.keeps {s u : State} (h : LeakFrame s u) :
    u.now = s.now ∧ u.cfg = s.cfg ∧ u.source.state = s.source.state := ⟨h.rest.now, h.rest.cfg, h.srcState⟩

theorem LeakFrame.warningTime {s u : State} (h : LeakFrame s u) (c : Ch) : warningTime u c = warningTime s c :=
  warningTime_congr c h.rest.cfg h.srcState

theorem LeakFrame.of_fixed {s u : State} (h : u.fixed = s.fixed) (ha : aside u = aside s)
    (hs : u.source.state = s.source.state) : LeakFrame s u := ⟨.of_fixed h ha, congrArg Prod.fst ha, hs⟩

theorem gracefulStop_leakFrame (w : StopCause) (c : Ch) (s : State) : LeakFrame s (gracefulStop w c s) :=
  .of_fixed (gracefulStop_fixed w c s) (gracefulStop_aside w c s) (gracefulStop_keeps w c s).2.2

theorem cut_leakFrame (w : StopCause) (c : Ch) (s : State) : LeakFrame s (cut w c s) :=
  .of_fixed (cut_fixed w c s) (cut_aside w c s) (cut_keeps w c s).2.2

theorem leakStop_leakFrame {stop : Ch → State → State} (h : ∀ c s, LeakFrame s (stop c s)) (c : Ch) (s : State) :
    LeakFrame s (leakStop stop c s) := by
  rw [leakStop]
  split
  · exact .refl s
  · exact h c s

theorem modCh_leakFrame (c : Ch) (f : Channel → Channel) (s : State) : LeakFrame s (s.modCh c f) :=
  ⟨modCh_sameRest c f s, rfl, rfl⟩

theorem joinHold_leakFrame (z : Zone) (c : Ch) (s : State) : LeakFrame s (joinHold z c s) := by
  rw [joinHold]
  split
  · exact .refl s
  · exact modCh_leakFrame ..

/-! ### One channel's record -/

/-- A channel's record with a zone in its hold set; a join clears the override mark (R151). -/
def Channel.heldBy (z : Zone) (r : Channel) : Channel :=
  if z ∈ r.holds then r else { r with holds := setInsert z r.holds, override := false }

/-- A record that a leak stop reaches, `w` the warning time: an override mark keeps it off (R150, R152). -/
def Channel.leakStopped (now : Stamp) (w : Nat) (r : Channel) : Channel :=
  if r.override then r else { r with shed := false }.stopped now w

/-- A record that a leak cut reaches: an override mark keeps it off (R150, R152). -/
def Channel.leakCut (now : Stamp) (r : Channel) : Channel :=
  if r.override then r else { r with shed := false }.wasCut now

/-- A record that a leak stop or cut has reached: no mark is left, and the channel is WARNING or not up. -/
structure Channel.Quelled (r : Channel) : Prop where
  shed : r.shed = false
  override : r.override = false
  state : r.state = .off ∨ r.state = .warning ∨ r.state = .faulted

section
variable {z y : Zone} {r : Channel} {now : Stamp} {w : Nat}

theorem Channel.mem_heldBy : y ∈ (r.heldBy z).holds ↔ y = z ∨ y ∈ r.holds := by
  rw [heldBy]
  split
  · next h => exact ⟨.inr, fun hy => hy.elim (fun e => e ▸ h) id⟩
  · exact mem_setInsert z y r.holds

theorem Channel.heldBy_heldBy : (r.heldBy z).heldBy z = r.heldBy z := if_pos (mem_heldBy.mpr (.inl rfl))

theorem Channel.heldBy_state : (r.heldBy z).state = r.state := by
  rw [heldBy]
  split <;> rfl

theorem Channel.heldBy_shed : (r.heldBy z).shed = r.shed := by
  rw [heldBy]
  split <;> rfl

theorem Channel.heldBy_override (h : z ∉ r.holds ∨ r.override = false) : (r.heldBy z).override = false := by
  rw [heldBy]
  split
  · next hz => exact h.resolve_left (not_not.mpr hz)
  · rfl

theorem Channel.stopped_spec (h : r.override = false) :
    (r.stopped now w).shed = r.shed ∧ (r.stopped now w).override = false ∧ (r.stopped now w).holds = r.holds ∧
      ((r.stopped now w).state = .off ∨ (r.stopped now w).state = .warning ∨ (r.stopped now w).state = .faulted) := by
  cases hs : r.state with
  | on =>
    simp only [stopped, hs]
    split <;> simp [switchedOff, h]
  | ramping | pending | warning | off | faulted => simp [stopped, hs, switchedOff, withdrawn, h]

theorem Channel.wasCut_spec (h : r.override = false) :
    (r.wasCut now).shed = r.shed ∧ (r.wasCut now).override = false ∧ (r.wasCut now).holds = r.holds ∧
      ((r.wasCut now).state = .off ∨ (r.wasCut now).state = .faulted) := by
  cases hs : r.state <;> simp [wasCut, hs, switchedOff, withdrawn, h]

theorem Channel.Quelled.state_ne (h : r.Quelled) {st : ChState} (h1 : st ≠ .off) (h2 : st ≠ .warning)
    (h3 : st ≠ .faulted) : r.state ≠ st := fun e => (e ▸ h.state).elim h1 fun h => h.elim h2 h3

/-- A stop leaves a record alone that a stop or cut has reached. -/
theorem Channel.Quelled.leakStopped_eq (h : r.Quelled) : r.leakStopped now w = r := by
  have hr : ({ r with shed := false } : Channel) = r := by rw [← h.shed]
  rw [leakStopped, if_neg (by simp [h.override]), hr, stopped]
  rcases h.state with e | e | e <;> rw [e]

theorem Channel.leakStopped_quelled (h : r.override = false) : (r.leakStopped now w).Quelled := by
  rw [leakStopped, if_neg (by simp [h])]
  obtain ⟨hshed, hover, -, hstate⟩ := stopped_spec (r := { r with shed := false }) (now := now) (w := w) h
  exact ⟨hshed, hover, hstate⟩

theorem Channel.leakCut_down (h : r.override = false) :
    (r.leakCut now).state = .off ∨ (r.leakCut now).state = .faulted := by
  rw [leakCut, if_neg (by simp [h])]
  exact (wasCut_spec (r := { r with shed := false }) h).2.2.2

theorem Channel.leakCut_quelled (h : r.override = false) : (r.leakCut now).Quelled := by
  have hdown := leakCut_down (now := now) h
  rw [leakCut, if_neg (by simp [h])] at hdown ⊢
  obtain ⟨hshed, hover, -, -⟩ := wasCut_spec (r := { r with shed := false }) (now := now) h
  exact ⟨hshed, hover, hdown.imp_right .inr⟩

/-- A cut leaves a record alone that is down with no mark. -/
theorem Channel.Quelled.leakCut_eq (h : r.Quelled) (hd : r.state = .off ∨ r.state = .faulted) : r.leakCut now = r := by
  have hr : ({ r with shed := false } : Channel) = r := by rw [← h.shed]
  rw [leakCut, if_neg (by simp [h.override]), hr, wasCut]
  rcases hd with e | e <;> rw [e]

theorem Channel.leakStopped_leakStopped : (r.leakStopped now w).leakStopped now w = r.leakStopped now w := by
  cases h : r.override with
  | true => simp [leakStopped, h]
  | false => exact (leakStopped_quelled h).leakStopped_eq

theorem Channel.leakCut_leakCut : (r.leakCut now).leakCut now = r.leakCut now := by
  cases h : r.override with
  | true => simp [leakCut, h]
  | false => exact (leakCut_quelled h).leakCut_eq (leakCut_down h)

theorem Channel.leakStopped_holds : (r.leakStopped now w).holds = r.holds := by
  cases h : r.override with
  | true => simp [leakStopped, h]
  | false =>
    rw [leakStopped, if_neg (by simp [h])]
    exact (stopped_spec (r := { r with shed := false }) h).2.2.1

theorem Channel.leakCut_holds : (r.leakCut now).holds = r.holds := by
  cases h : r.override with
  | true => simp [leakCut, h]
  | false =>
    rw [leakCut, if_neg (by simp [h])]
    exact (wasCut_spec (r := { r with shed := false }) h).2.2.1

end

/-! ### Holds, stops and cuts over a list (R150, R152) -/

theorem joinHold_ch (z : Zone) (c d : Ch) (s : State) :
    (joinHold z c s).ch d = if d = c then (s.ch c).heldBy z else s.ch d := by
  by_cases h : z ∈ (s.ch c).holds
  · rw [joinHold, if_pos (by simpa using h), Channel.heldBy, if_pos h]
    split
    · next hd => rw [hd]
    · rfl
  · rw [joinHold, if_neg (by simpa using h), Channel.heldBy, if_neg h, State.modCh_ch]

theorem leakStop_gracefulStop_ch (c d : Ch) (s : State) : (leakStop (gracefulStop .leak) c s).ch d =
    if d = c then (s.ch c).leakStopped s.now (warningTime s c) else s.ch d := by
  by_cases h : (s.ch c).override = true
  · rw [leakStop, if_pos h, Channel.leakStopped, if_pos h]
    split
    · next hd => rw [hd]
    · rfl
  · rw [leakStop, if_neg h, Channel.leakStopped, if_neg h, gracefulStop_ch]
    rfl

theorem leakStop_cut_ch (c d : Ch) (s : State) : (leakStop (cut .leak) c s).ch d =
    if d = c then (s.ch c).leakCut s.now else s.ch d := by
  by_cases h : (s.ch c).override = true
  · rw [leakStop, if_pos h, Channel.leakCut, if_pos h]
    split
    · next hd => rw [hd]
    · rfl
  · rw [leakStop, if_neg h, Channel.leakCut, if_neg h, cut_ch]
    rfl

section
variable (z : Zone) (l : List Ch) (s : State) (d : Ch)

theorem forEach_joinHold_ch : (forEach l (joinHold z) s).ch d = if d ∈ l then (s.ch d).heldBy z else s.ch d :=
  forEach_ch_of_idem (joinHold z) (fun _ _ _ _ r => r.heldBy z) (fun c t => (joinHold_leakFrame z c t).keeps)
    (joinHold_ch z) (fun _ _ _ _ _ => Channel.heldBy_heldBy) l s d

theorem forEach_joinHold_leakFrame : LeakFrame s (forEach l (joinHold z) s) := .forEach (joinHold_leakFrame z) l s

/-- The holds of a response or an escalation, and then its graceful stops. -/
theorem hold_and_stop_ch : (forEach l (leakStop (gracefulStop .leak)) (forEach l (joinHold z) s)).ch d =
    if d ∈ l then ((s.ch d).heldBy z).leakStopped s.now (warningTime s d) else s.ch d := by
  have hframe := forEach_joinHold_leakFrame z l s
  have hstop := forEach_ch_of_idem (leakStop (gracefulStop .leak))
    (fun now w st c r => r.leakStopped now (if st = .ride then min w.chan[c].warn w.ride.cap else w.chan[c].warn))
    (fun c t => (leakStop_leakFrame (gracefulStop_leakFrame .leak) c t).keeps) leakStop_gracefulStop_ch
    (fun _ _ _ _ _ => Channel.leakStopped_leakStopped) l (forEach l (joinHold z) s) d
  rw [hstop, hframe.rest.now, hframe.rest.cfg, hframe.srcState, forEach_joinHold_ch]
  split <;> rfl

/-- The holds of a response, and then its cuts. -/
theorem hold_and_cut_ch : (forEach l (leakStop (cut .leak)) (forEach l (joinHold z) s)).ch d =
    if d ∈ l then ((s.ch d).heldBy z).leakCut s.now else s.ch d := by
  have hstop := forEach_ch_of_idem (leakStop (cut .leak)) (fun now _ _ _ r => r.leakCut now)
    (fun c t => (leakStop_leakFrame (cut_leakFrame .leak) c t).keeps) leakStop_cut_ch
    (fun _ _ _ _ _ => Channel.leakCut_leakCut) l (forEach l (joinHold z) s) d
  rw [hstop, (forEach_joinHold_leakFrame z l s).rest.now, forEach_joinHold_ch]
  split <;> rfl

end

/-! ### Valves (R160, R161) -/

/-- Valves may have moved, with their reports; the demand sets and the capture are as before. -/
structure MovesValves (s u : State) : Prop where
  only : u = { s with resp := u.resp, link := u.link, tally := u.tally }
  zones : ∀ v : ValveIx, u.resp.valve[v].zones = s.resp.valve[v].zones
  capture : u.resp.capture = s.resp.capture

theorem MovesValves.refl (s : State) : MovesValves s s := ⟨rfl, fun _ => rfl, rfl⟩

theorem MovesValves.trans {s t u : State} (h : MovesValves s t) (k : MovesValves t u) : MovesValves s u :=
  ⟨k.only.trans (by rw [h.only]), fun v => (k.zones v).trans (h.zones v), k.capture.trans h.capture⟩

/-- A valve's record after one valve is changed. -/
theorem modValve_valve (n v : ValveIx) (f : Valve → Valve) (s : State) :
    (s.modValve n f).resp.valve[v] = if v = n then f s.resp.valve[n] else s.resp.valve[v] := by
  split
  · next h => rw [h, State.modValve_same]
  · next h => exact State.modValve_other s f h

theorem moveValve_moves (n : ValveIx) (st : ValveState) (t : Option Timer) (s : State) :
    MovesValves s (moveValve n st t s) := by
  refine ⟨(raise_spec ..).trans ?_, fun v => ?_, by rw [moveValve, raise_resp]; rfl⟩
  · rw [moveValve, raise_resp]
    rfl
  · rw [moveValve, raise_resp, modValve_valve]
    split
    · next h => rw [h]
    · rfl

theorem driveClosed_moves (n : ValveIx) (s : State) : MovesValves s (driveClosed n s) := by
  have h := moveValve_moves n .closing (some (s.timer s.cfg.travel)) s
  simp only [driveClosed]
  split
  · exact h.trans (moveValve_moves ..)
  · exact h

/-- A zone joins a valve's demand set: the ports, the tallies and the valves alone may change, and of the demand sets
only that one (R161). -/
structure JoinsDemand (z : Zone) (n : ValveIx) (s u : State) : Prop where
  only : u = { s with resp := u.resp, link := u.link, tally := u.tally }
  zones : ∀ (v : ValveIx) y, y ∈ u.resp.valve[v].zones ↔ (v = n ∧ y = z) ∨ y ∈ s.resp.valve[v].zones
  capture : u.resp.capture = s.resp.capture

theorem joinDemand_spec (z : Zone) (n : ValveIx) (s : State) : JoinsDemand z n s (joinDemand z n s) := by
  by_cases hz : z ∈ s.resp.valve[n].zones
  · rw [joinDemand, if_pos (by simpa using hz)]
    refine ⟨rfl, fun v y => ⟨.inr, fun h => h.elim ?_ id⟩, rfl⟩
    rintro ⟨rfl, rfl⟩
    exact hz
  · let t := s.modValve n fun v => { v with zones := setInsert z v.zones }
    have ht : ∀ (v : ValveIx) y,
        y ∈ t.resp.valve[v].zones ↔ (v = n ∧ y = z) ∨ y ∈ s.resp.valve[v].zones := fun v y => by
      simp only [t, modValve_valve]
      by_cases hv : v = n
      · simp [hv, mem_setInsert]
      · simp [hv]
    have hmoves : MovesValves t (joinDemand z n s) := by
      rw [joinDemand, if_neg (by simpa using hz)]
      cases s.resp.valve[n].state with
      | opened | opening => exact driveClosed_moves n t
      | closing | closed | fault => exact .refl t
    exact ⟨hmoves.only, fun v y => by rw [hmoves.zones, ht], hmoves.capture⟩

theorem JoinsDemand.leakFrame {z : Zone} {n : ValveIx} {s u : State} (h : JoinsDemand z n s u) : LeakFrame s u := by
  rw [h.only]
  exact ⟨⟨rfl, rfl, rfl, rfl, rfl, rfl, rfl, rfl, rfl, rfl⟩, rfl, rfl⟩

theorem JoinsDemand.chans {z : Zone} {n : ValveIx} {s u : State} (h : JoinsDemand z n s u) : u.chans = s.chans := by
  rw [h.only]

/-- A zone that joins every demand set is in each of them (R152). -/
theorem forEach_joinDemand_mem (z : Zone) (v : ValveIx) (s : State) :
    z ∈ (forEach allValves (joinDemand z) s).resp.valve[v].zones :=
  forEach_establishes (P := fun _ => True) (Q := fun t => z ∈ t.resp.valve[v].zones) (mem_allValves v)
    (fun _ _ _ => trivial) (fun t _ => ((joinDemand_spec z v t).zones v z).mpr (.inl ⟨rfl, rfl⟩))
    (fun n t ht => ((joinDemand_spec z n t).zones v z).mpr (.inr ht)) trivial

/-! ### The capture (R165) -/

theorem captureEntry_spec (z : Zone) (k : LeakCause) (s : State) :
    ∃ x, captureEntry z k s = { s with resp := { s.resp with capture := some x } } := by
  rw [captureEntry]
  split <;> exact ⟨_, rfl⟩

/-! ### The response of a zone (R150, R151, R161) -/

/-- A channel's record after the response of a zone whose entry names it, `w` the warning time (R150, R151). -/
def Channel.responded (z : Zone) (a : LeakAction) (now : Stamp) (w : Nat) (r : Channel) : Channel :=
  match a with
  | .report => r
  | .isolate => (r.heldBy z).leakStopped now w
  | .cut => (r.heldBy z).leakCut now

section
variable {z y : Zone} {a : LeakAction} {r : Channel} {now : Stamp} {w : Nat}

theorem Channel.responded_holds (h : y ∈ r.holds) : y ∈ (r.responded z a now w).holds := by
  cases a with
  | report => exact h
  | isolate => exact leakStopped_holds.symm ▸ mem_heldBy.mpr (.inr h)
  | cut => exact leakCut_holds.symm ▸ mem_heldBy.mpr (.inr h)

theorem Channel.mem_responded_holds (ha : a ≠ .report) : z ∈ (r.responded z a now w).holds := by
  cases a with
  | report => exact absurd rfl ha
  | isolate => exact leakStopped_holds.symm ▸ mem_heldBy.mpr (.inl rfl)
  | cut => exact leakCut_holds.symm ▸ mem_heldBy.mpr (.inl rfl)

theorem Channel.responded_quelled (ha : a ≠ .report) (h : z ∉ r.holds ∨ r.override = false) :
    (r.responded z a now w).Quelled := by
  cases a with
  | report => exact absurd rfl ha
  | isolate => exact leakStopped_quelled (heldBy_override h)
  | cut => exact leakCut_quelled (heldBy_override h)

theorem Channel.Quelled.after_response (h : r.Quelled) : (r.responded z a now w).Quelled := by
  by_cases ha : a = .report
  · subst ha
    exact h
  · exact responded_quelled ha (.inr h.override)

theorem Channel.responded_down (ha : a = .cut) (h : z ∉ r.holds ∨ r.override = false) :
    (r.responded z a now w).state = .off ∨ (r.responded z a now w).state = .faulted := by
  subst ha
  exact leakCut_down (heldBy_override h)

/-- A record that is down with no mark stays down through any response. -/
theorem Channel.Quelled.responded_down (h : r.Quelled) (hd : r.state = .off ∨ r.state = .faulted) :
    (r.responded z a now w).state = .off ∨ (r.responded z a now w).state = .faulted := by
  have hheld : (r.heldBy z).Quelled :=
    ⟨heldBy_shed.trans h.shed, heldBy_override (.inr h.override), heldBy_state.symm ▸ h.state⟩
  cases a with
  | report => exact hd
  | isolate =>
    rw [responded, hheld.leakStopped_eq, heldBy_state]
    exact hd
  | cut => exact leakCut_down hheld.override

/-- A record that a zone's response can reach stays so through the responses of other zones (R151). -/
theorem Channel.responded_reachable (h : y ∉ r.holds ∨ r.override = false) :
    y ∉ (r.responded z a now w).holds ∨ (r.responded z a now w).override = false := by
  by_cases ha : a = .report
  · subst ha
    exact h
  · by_cases hq : z ∉ r.holds ∨ r.override = false
    · exact .inr (responded_quelled ha hq).override
    · obtain ⟨hz, ho⟩ := not_or.mp hq
      have hheld : r.heldBy z = r := if_pos (not_not.mp hz)
      have hmarked : r.override = true := Bool.not_eq_false _ ▸ ho
      cases a with
      | report => exact absurd rfl ha
      | isolate => rwa [responded, hheld, leakStopped, if_pos hmarked]
      | cut => rwa [responded, hheld, leakCut, if_pos hmarked]

end

/-- The response of a zone before its valve: the capture, the holds, and the stops or cuts (R150, R165). -/
def respondChannels (z : Zone) (k : LeakCause) (s : State) : State :=
  let e := s.cfg.resp[z]
  match e.action with
  | .report => captureEntry z k s
  | .isolate => forEach e.chans (leakStop (gracefulStop .leak)) (forEach e.chans (joinHold z) (captureEntry z k s))
  | .cut => forEach e.chans (leakStop (cut .leak)) (forEach e.chans (joinHold z) (captureEntry z k s))

theorem applyResponse_eq (z : Zone) (k : LeakCause) (s : State) : applyResponse z k s =
    match s.cfg.resp[z].valve with
    | some v => joinDemand z v (respondChannels z k s)
    | none => respondChannels z k s := by
  cases ha : s.cfg.resp[z].action <;> cases hv : s.cfg.resp[z].valve <;>
    simp only [applyResponse, respondChannels, ha, hv]

theorem captureEntry_leakFrame (z : Zone) (k : LeakCause) (s : State) : LeakFrame s (captureEntry z k s) := by
  obtain ⟨x, h⟩ := captureEntry_spec z k s
  rw [h]
  exact ⟨⟨rfl, rfl, rfl, rfl, rfl, rfl, rfl, rfl, rfl, rfl⟩, rfl, rfl⟩

/-- A stop or cut that leaves the fixed part alone leaves the Leak Response Unit's records alone. -/
theorem leakStop_resp {stop : Ch → State → State} (h : ∀ c s, (stop c s).fixed = s.fixed) (c : Ch) (s : State) :
    (leakStop stop c s).resp = s.resp := by
  rw [leakStop]
  split
  · rfl
  · exact congrArg Fixed.resp (h c s)

theorem joinHold_resp (z : Zone) (c : Ch) (s : State) : (joinHold z c s).resp = s.resp := by
  rw [joinHold]
  split <;> rfl

/-- What a response does before its valve (R150, R151, R165). -/
structure Responds (z : Zone) (s u : State) : Prop where
  frame : LeakFrame s u
  capture : u.resp.capture.isSome
  valve : u.resp.valve = s.resp.valve
  ch : ∀ d, u.ch d =
    if d ∈ s.cfg.resp[z].chans then (s.ch d).responded z s.cfg.resp[z].action s.now (warningTime s d) else s.ch d

theorem respondChannels_spec (z : Zone) (k : LeakCause) (s : State) : Responds z s (respondChannels z k s) := by
  let t := captureEntry z k s
  have hframe : LeakFrame s t := captureEntry_leakFrame z k s
  obtain ⟨x, ht⟩ : ∃ x, t = { s with resp := { s.resp with capture := some x } } := captureEntry_spec z k s
  have hcap : t.resp.capture.isSome := by rw [ht]; rfl
  have hvalve : t.resp.valve = s.resp.valve := by rw [ht]
  have hch : ∀ d, t.ch d = s.ch d := fun d => by rw [ht]; rfl
  have hold : ∀ l, (forEach l (joinHold z) t).resp = t.resp := fun l => forEach_same State.resp _ (joinHold_resp z) l t
  rw [respondChannels]
  cases ha : s.cfg.resp[z].action with
  | report => exact ⟨hframe, hcap, hvalve, fun d => by rw [hch, ha]; exact (ite_self _).symm⟩
  | isolate =>
    have hresp := (forEach_same State.resp _ (leakStop_resp (gracefulStop_fixed .leak)) s.cfg.resp[z].chans _).trans
      (hold s.cfg.resp[z].chans)
    refine ⟨(hframe.trans (.forEach (joinHold_leakFrame z) _ _)).trans
      (.forEach (leakStop_leakFrame (gracefulStop_leakFrame .leak)) _ _), ?_, ?_, fun d => ?_⟩
    · rw [hresp]; exact hcap
    · rw [hresp]; exact hvalve
    · rw [hold_and_stop_ch, hframe.warningTime, hframe.rest.now, hch, ha]
      rfl
  | cut =>
    have hresp := (forEach_same State.resp _ (leakStop_resp (cut_fixed .leak)) s.cfg.resp[z].chans _).trans
      (hold s.cfg.resp[z].chans)
    refine ⟨(hframe.trans (.forEach (joinHold_leakFrame z) _ _)).trans
      (.forEach (leakStop_leakFrame (cut_leakFrame .leak)) _ _), ?_, ?_, fun d => ?_⟩
    · rw [hresp]; exact hcap
    · rw [hresp]; exact hvalve
    · rw [hold_and_cut_ch, hframe.rest.now, hch, ha]
      rfl

theorem applyResponse_leakFrame (z : Zone) (k : LeakCause) (s : State) : LeakFrame s (applyResponse z k s) := by
  rw [applyResponse_eq]
  split
  · exact (respondChannels_spec z k s).frame.trans (joinDemand_spec ..).leakFrame
  · exact (respondChannels_spec z k s).frame

/-- The record of each channel after the response of a zone (R150, R151). -/
theorem applyResponse_ch (z : Zone) (k : LeakCause) (s : State) (d : Ch) : (applyResponse z k s).ch d =
    if d ∈ s.cfg.resp[z].chans then (s.ch d).responded z s.cfg.resp[z].action s.now (warningTime s d) else s.ch d := by
  rw [← (respondChannels_spec z k s).ch, applyResponse_eq]
  split
  · rw [State.ch, (joinDemand_spec ..).chans, State.ch]
  · rfl

/-- A response leaves the capture valid (R165). -/
theorem applyResponse_capture (z : Zone) (k : LeakCause) (s : State) : (applyResponse z k s).resp.capture.isSome := by
  rw [applyResponse_eq]
  split
  · rw [(joinDemand_spec ..).capture]
    exact (respondChannels_spec z k s).capture
  · exact (respondChannels_spec z k s).capture

/-- A response adds its zone to the demand set of its valve, and changes no other (R150, R161). -/
theorem applyResponse_zones (z : Zone) (k : LeakCause) (s : State) (v : ValveIx) (y : Zone) :
    y ∈ (applyResponse z k s).resp.valve[v].zones ↔
      (s.cfg.resp[z].valve = some v ∧ y = z) ∨ y ∈ s.resp.valve[v].zones := by
  rw [applyResponse_eq, ← (respondChannels_spec z k s).valve]
  cases s.cfg.resp[z].valve with
  | none => simp only [reduceCtorEq, false_and, false_or]
  | some n => simp only [(joinDemand_spec ..).zones, Option.some_inj, eq_comm]

end Sys2Proof.Machine
end

section
/-! A leak scan (R133 to R141, R150, R151, R165). -/

namespace Sys2Proof.Machine

/-! ### Withdrawals from the queue (R42) -/

/-- A channel is PENDING or out of the admission queue. -/
def PendingOrOut (c : Ch) (s : State) : Prop := (s.ch c).state = .pending ∨ c ∉ queuedChans s.budget.queue

section
variable {c : Ch} {s t : State}

theorem PendingOrOut.of_view (hv : queueView t = queueView s) (h : PendingOrOut c s) : PendingOrOut c t := by
  have hpend : ((t.ch c).state = .pending) = ((s.ch c).state = .pending) := congrFun (congrArg Prod.fst hv) c
  have hlists : t.budget.queue.map Entry.chans = s.budget.queue.map Entry.chans := congrArg Prod.snd hv
  rwa [PendingOrOut, hpend, queuedChans_eq, hlists, ← queuedChans_eq]

/-- A request that withdraws its channel when it is PENDING, and touches no other record, keeps the others' entries. -/
theorem PendingOrOut.of_withdraws {f : Ch → State → State} (hch : ∀ a d s, d ≠ a → (f a s).ch d = s.ch d)
    (hq : ∀ a s, queuedChans (f a s).budget.queue =
      if (s.ch a).state = .pending then (queuedChans s.budget.queue).filter (· ≠ a) else queuedChans s.budget.queue)
    (a : Ch) (h : PendingOrOut c s) : PendingOrOut c (f a s) := by
  by_cases hc : c = a
  · subst hc
    right
    rw [hq]
    split
    · simp
    · next hp => exact h.resolve_left hp
  · refine h.imp (fun hp => by rwa [hch a c s hc]) fun hn => ?_
    rw [hq]
    split
    · exact fun hm => hn (List.mem_of_mem_filter hm)
    · exact hn

theorem leakStop_pendingOrOut {stop : Ch → State → State}
    (hstop : ∀ a s, PendingOrOut c s → PendingOrOut c (stop a s)) (a : Ch) (s : State) (h : PendingOrOut c s) :
    PendingOrOut c (leakStop stop a s) := by
  rw [leakStop]
  split
  · exact h
  · exact hstop a s h

theorem gracefulStop_pendingOrOut (w : StopCause) (a : Ch) (s : State) (h : PendingOrOut c s) :
    PendingOrOut c (gracefulStop w a s) :=
  h.of_withdraws (fun a d s hd => by rw [gracefulStop_ch, if_neg hd]) (gracefulStop_queued w) a

theorem cut_pendingOrOut (w : StopCause) (a : Ch) (s : State) (h : PendingOrOut c s) : PendingOrOut c (cut w a s) :=
  h.of_withdraws (fun a d s hd => by rw [cut_ch, if_neg hd]) (cut_queued w) a

theorem applyResponse_pendingOrOut (z : Zone) (k : LeakCause) (h : PendingOrOut c s) :
    PendingOrOut c (applyResponse z k s) := by
  have hheld : ∀ l : List Ch, PendingOrOut c (forEach l (joinHold z) (captureEntry z k s)) := fun l =>
    h.of_view ((forEach_same queueView _ (joinHold_view z) l _).trans (captureEntry_view z k s))
  have hchans : PendingOrOut c (respondChannels z k s) := by
    rw [respondChannels]
    cases s.cfg.resp[z].action with
    | report => exact h.of_view (captureEntry_view z k s)
    | isolate =>
      exact forEach_keeps _ _ (leakStop_pendingOrOut (gracefulStop_pendingOrOut .leak)) _ _ (hheld _)
    | cut => exact forEach_keeps _ _ (leakStop_pendingOrOut (cut_pendingOrOut .leak)) _ _ (hheld _)
  rw [applyResponse_eq]
  split
  · exact hchans.of_view (joinDemand_view ..)
  · exact hchans

end

/-! ### One latched zone is handed over (R138, R139, R150) -/

/-- What a latched zone does beyond its response shows in the ports and the tallies alone. -/
theorem latchZone_spec (y : Zone × LeakCause) (s : State) :
    ∃ k t, latchZone y s = { applyResponse y.1 y.2 s with link := k, tally := t } := by
  rw [latchZone]
  cases y.2 with
  | wet => exact ⟨_, _, raise_spec ..⟩
  | cable => exact ⟨_, _, rfl⟩

section
variable (y : Zone × LeakCause) (s : State)

theorem latchZone_leakFrame : LeakFrame s (latchZone y s) := by
  obtain ⟨k, t, h⟩ := latchZone_spec y s
  rw [h]
  exact (applyResponse_leakFrame y.1 y.2 s).trans ⟨⟨rfl, rfl, rfl, rfl, rfl, rfl, rfl, rfl, rfl, rfl⟩, rfl, rfl⟩

theorem latchZone_ch (d : Ch) : (latchZone y s).ch d =
    if d ∈ s.cfg.resp[y.1].chans then (s.ch d).responded y.1 s.cfg.resp[y.1].action s.now (warningTime s d)
    else s.ch d := by
  obtain ⟨k, t, h⟩ := latchZone_spec y s
  rw [h]
  exact applyResponse_ch y.1 y.2 s d

theorem latchZone_resp : (latchZone y s).resp = (applyResponse y.1 y.2 s).resp := by
  obtain ⟨k, t, h⟩ := latchZone_spec y s
  rw [h]

theorem latchZone_pendingOrOut {c : Ch} (h : PendingOrOut c s) : PendingOrOut c (latchZone y s) := by
  obtain ⟨k, t, hl⟩ := latchZone_spec y s
  rw [hl]
  exact applyResponse_pendingOrOut y.1 y.2 h

end

/-! ### The latched zones, one after the other -/

/-- What the response of a zone makes of its own channels' records stands when each response keeps it. -/
theorem forEach_latchZone_ch {l : List (Zone × LeakCause)} {y : Zone × LeakCause} {c : Ch} {s : State}
    {P Q : Channel → Prop} (hy : y ∈ l) (hc : c ∈ s.cfg.resp[y.1].chans)
    (hP : ∀ (z : Zone) a now w r, P r → P (Channel.responded z a now w r))
    (hPQ : ∀ now w r, P r → Q (Channel.responded y.1 s.cfg.resp[y.1].action now w r))
    (hQ : ∀ (z : Zone) a now w r, Q r → Q (Channel.responded z a now w r)) (h : P (s.ch c)) :
    Q ((forEach l latchZone s).ch c) := by
  have keeps : ∀ R : Channel → Prop, (∀ (z : Zone) a now w r, R r → R (Channel.responded z a now w r)) →
      ∀ b t, R (t.ch c) → R ((latchZone b t).ch c) := fun R hR b t ht => by
    rw [latchZone_ch]
    split
    · exact hR _ _ _ _ _ ht
    · exact ht
  refine forEach_establishes (P := fun t => t.cfg = s.cfg ∧ P (t.ch c)) (Q := fun t => Q (t.ch c)) hy
    (fun b t ht => ⟨(latchZone_leakFrame b t).rest.cfg.trans ht.1, keeps P hP b t ht.2⟩) (fun t ht => ?_) (keeps Q hQ)
    ⟨rfl, h⟩
  obtain ⟨hcfg, hp⟩ := ht
  rw [latchZone_ch, hcfg, if_pos hc]
  exact hPQ _ _ _ hp

section
variable {l : List (Zone × LeakCause)} {y : Zone × LeakCause} {s : State}

/-- A channel that no latched zone's response reaches is as before. -/
theorem forEach_latchZone_ch_of_not_reached {c : Ch}
    (h : ∀ y ∈ l, s.cfg.resp[y.1].action = .report ∨ c ∉ s.cfg.resp[y.1].chans) :
    (forEach l latchZone s).ch c = s.ch c := by
  refine (forEach_keeps_of_mem (P := fun t => t.cfg = s.cfg ∧ t.ch c = s.ch c) (fun y hy t ht => ?_) ⟨rfl, rfl⟩).2
  obtain ⟨hcfg, hch⟩ := ht
  refine ⟨(latchZone_leakFrame y t).rest.cfg.trans hcfg, ?_⟩
  rw [latchZone_ch, hcfg, ← hch]
  split
  · next hc =>
    rw [(h y hy).resolve_right (not_not.mpr hc)]
    rfl
  · rfl

section
variable {c : Ch} (hy : y ∈ l) (hc : c ∈ s.cfg.resp[y.1].chans) (ho : y.1 ∉ (s.ch c).holds ∨ (s.ch c).override = false)
include hy hc ho

/-- The stop or cut of a latched zone has reached a channel that carries no override mark by then (R150, R151). -/
theorem forEach_latchZone_quelled (ha : s.cfg.resp[y.1].action ≠ .report) :
    ((forEach l latchZone s).ch c).Quelled :=
  forEach_latchZone_ch (P := fun r => y.1 ∉ r.holds ∨ r.override = false) hy hc
    (fun _ _ _ _ _ => Channel.responded_reachable) (fun _ _ _ => Channel.responded_quelled ha)
    (fun _ _ _ _ _ => Channel.Quelled.after_response) ho

theorem forEach_latchZone_down (ha : s.cfg.resp[y.1].action = .cut) :
    ((forEach l latchZone s).ch c).state = .off ∨ ((forEach l latchZone s).ch c).state = .faulted :=
  (forEach_latchZone_ch (P := fun r => y.1 ∉ r.holds ∨ r.override = false)
    (Q := fun r => r.Quelled ∧ (r.state = .off ∨ r.state = .faulted)) hy hc
    (fun _ _ _ _ _ => Channel.responded_reachable)
    (fun _ _ _ h => ⟨Channel.responded_quelled (ha ▸ nofun) h, Channel.responded_down ha h⟩)
    (fun _ _ _ _ _ h => ⟨h.1.after_response, h.1.responded_down h.2⟩) ho).2

end

/-- A PENDING channel that a stop or cut has reached is out of the queue (R42). -/
theorem forEach_latchZone_unqueued {c : Ch} (hp : (s.ch c).state = .pending)
    (hq : ((forEach l latchZone s).ch c).Quelled) : c ∉ queuedChans (forEach l latchZone s).budget.queue :=
  (forEach_keeps (PendingOrOut c) latchZone (fun y t => latchZone_pendingOrOut y t) l s (.inl hp)).resolve_left
    (hq.state_ne nofun nofun nofun)

theorem forEach_latchZone_capture (hy : y ∈ l) : (forEach l latchZone s).resp.capture.isSome :=
  have hlatch : ∀ y t, (latchZone y t).resp.capture.isSome := fun y t => by
    rw [latchZone_resp]
    exact applyResponse_capture ..
  forEach_establishes (P := fun _ => True) hy (fun _ _ _ => trivial) (fun t _ => hlatch y t)
    (Q := fun t => t.resp.capture.isSome) (fun b t _ => hlatch b t) trivial

theorem forEach_latchZone_zones {v : ValveIx} (hy : y ∈ l) (hv : s.cfg.resp[y.1].valve = some v) :
    y.1 ∈ (forEach l latchZone s).resp.valve[v].zones := by
  refine forEach_establishes (P := fun t => t.cfg = s.cfg) (Q := fun t => y.1 ∈ t.resp.valve[v].zones) hy
    (fun b t ht => (latchZone_leakFrame b t).rest.cfg.trans ht) (fun t ht => ?_) (fun b t ht => ?_) rfl
  · rw [latchZone_resp, applyResponse_zones, ht]
    exact .inl ⟨hv, rfl⟩
  · rw [latchZone_resp, applyResponse_zones]
    exact .inr ht

end

/-! ### The zones that latch at a scan (R138, R139, R150) -/

theorem latchCause_isSome {w : WorkCfg} {z : Zone} {r : ZoneRec} {a : ZoneState} :
    (∃ k, latchCause w z r a = some k) ↔ (r.state ≠ .wet ∧ r.state ≠ .escalated ∧ a = .wet) ∨
      (w.zone[z].cpol = .treatWet ∧ r.state = .watch ∧ a = .cableFault) := by
  by_cases h : r.state ≠ .wet ∧ r.state ≠ .escalated ∧ a = .wet
  · exact iff_of_true ⟨.wet, if_pos h⟩ (.inl h)
  · by_cases h' : w.zone[z].cpol = .treatWet ∧ r.state = .watch ∧ a = .cableFault
    · exact iff_of_true ⟨.cable, (if_neg h).trans (if_pos h')⟩ (.inr h')
    · refine iff_of_false (fun ⟨k, hk⟩ => ?_) (not_or.mpr ⟨h, h'⟩)
      rw [latchCause, if_neg h, if_neg h'] at hk
      exact nomatch hk

/-- What a leak scan leaves, before the hand-overs that follow. -/
theorem takeLeakScan_leaves (x : Vector Nat 16) (s : State) :
    ∃ v l, takeLeakScan x s = forEach l latchZone v ∧ LeakFrame v (takeLeakScan x s) ∧
      (∀ z : Zone, v.zones[z] = zoneScanned x s z) ∧ (∀ y, y ∈ l ↔ scanCause x s y.1 = some y.2) ∧
      v.scan = some ⟨s.now, s.cfg.scanPeriod⟩ ∧ v.cfg = s.cfg ∧ v.store = s.store ∧ v.now = s.now ∧
      v.chans = s.chans ∧ v.budget = s.budget := by
  obtain ⟨v, k, t, n, l, hu, hv, hl⟩ := takeLeakScan_spec x s
  refine ⟨_, l, hu, ?_, hv, hl, rfl, rfl, rfl, rfl, rfl, rfl⟩
  rw [hu]
  exact .forEach latchZone_leakFrame l _

/-- The records of the leak blocks, the settings and the store stand in the fixed part of a state. -/
theorem leakRecords_of_fixed {t u : State} (h : t.fixed = u.fixed) :
    t.zones = u.zones ∧ t.scan = u.scan ∧ t.cfg = u.cfg ∧ t.store = u.store ∧ t.now = u.now ∧ t.resp = u.resp ∧
      ∀ c, (t.ch c).holds = (u.ch c).holds :=
  ⟨congrArg Fixed.zones h, congrArg Fixed.scan h, congrArg Fixed.cfg h, congrArg Fixed.store h, congrArg Fixed.now h,
    congrArg Fixed.resp h, fun c => congrArg ChanFixed.holds (level_of_fixed h c)⟩

/-- Settles O22: the zones' records and what stands after the whole step; the channels that the latched zones reach, one
after the other; the response of one zone by its action. -/
theorem leakScanJudgesEveryZone : Obligations.LeakScanJudgesEveryZone := by
  refine ⟨fun x s hp => ?_, fun x s hp => ?_, fun z k s c => ?_⟩
  · obtain ⟨v, l, hu, hframe, hzones, hl, hscan, hcfg, hstore, hnow, -⟩ := takeLeakScan_leaves x s
    have hfix := settle_fixed (takeLeakScan x s)
    refine ⟨settle (takeLeakScan x s), Acts.of_event rfl hp, ?_⟩
    generalize settle (takeLeakScan x s) = t at hfix ⊢
    obtain ⟨tzones, tscan, tcfg, tstore, tnow, tresp, tholds⟩ := leakRecords_of_fixed hfix
    have hz : ∀ z : Zone, t.zones[z] = zoneScanned x s z := fun z => by rw [tzones, hframe.rest.zones, hzones]
    refine ⟨hz, tscan.trans (hframe.rest.scan.trans hscan), tcfg.trans (hframe.rest.cfg.trans hcfg),
      tstore.trans (hframe.rest.store.trans hstore), tnow.trans (hframe.rest.now.trans hnow), fun z hlatch => ?_⟩
    rw [hz] at hlatch
    obtain ⟨k, hk⟩ := latchCause_isSome.mpr hlatch
    have hmem : (z, k) ∈ l := (hl (z, k)).mpr hk
    rw [tresp, hu]
    refine ⟨forEach_latchZone_capture hmem, fun ha c hc => ?_, fun n hn => ?_⟩
    · rw [tholds, hu]
      exact forEach_latchZone_ch (P := fun _ => True) (Q := fun r => z ∈ r.holds) hmem (by rwa [hcfg])
        (fun _ _ _ _ _ _ => trivial) (fun _ _ _ _ => Channel.mem_responded_holds (by rwa [hcfg]))
        (fun _ _ _ _ _ => Channel.responded_holds) trivial
    · exact forEach_latchZone_zones hmem (by rwa [hcfg])
  · obtain ⟨v, l, hu, hframe, -, hl, -, hcfg, -, -, hchans, hbudget⟩ := takeLeakScan_leaves x s
    have hch : ∀ c, v.ch c = s.ch c := fun c => by rw [State.ch, hchans, State.ch]
    refine ⟨takeLeakScan x s, .of_event rfl hp, ?_⟩
    intro after latches reaches
    have hlatch : ∀ z, latches z ↔ ∃ k, (z, k) ∈ l := fun z =>
      latchCause_isSome.symm.trans (exists_congr fun k => (hl (z, k)).symm)
    rw [hu]
    refine ⟨fun c hnone => ?_, fun z c hreach hopen => ?_⟩
    · rw [← hch]
      refine forEach_latchZone_ch_of_not_reached fun y hy => ?_
      rw [hcfg]
      by_contra hcon
      obtain ⟨ha, hc⟩ := not_or.mp hcon
      exact hnone y.1 ⟨(hlatch y.1).mpr ⟨y.2, hy⟩, ha, not_not.mp hc⟩
    · obtain ⟨hz, ha, hc⟩ := hreach
      obtain ⟨k, hmem⟩ := (hlatch z).mp hz
      rw [← hcfg] at ha hc
      rw [← hch] at hopen
      have hquelled := forEach_latchZone_quelled hmem hc hopen ha
      refine ⟨hquelled.shed, hquelled.override, hquelled.state_ne nofun nofun nofun,
        hquelled.state_ne nofun nofun nofun, hquelled.state_ne nofun nofun nofun, fun hpend => ?_, fun hcut => ?_⟩
      · exact forEach_latchZone_unqueued (by rw [hch, hpend]) hquelled
      · exact forEach_latchZone_down hmem hc hopen (by rwa [hcfg])
  · intro e u held cleared
    have hch : u.ch c = if c ∈ e.chans then (s.ch c).responded z e.action s.now (warningTime s c) else s.ch c :=
      applyResponse_ch z k s c
    refine ⟨fun h => ?_, fun ha hc ho => ?_, fun ha hc ho => ?_, fun ha hc ho => ?_⟩
    · rw [hch]
      split
      · next hc =>
        rw [h.resolve_right (not_not.mpr hc)]
        rfl
      · rfl
    · rw [hch, if_pos hc]
      cases hact : e.action with
      | report => exact absurd hact ha
      | isolate | cut => exact if_pos ho
    · rw [hch, if_pos hc, ha]
      exact if_neg fun h => Bool.false_ne_true (ho.symm.trans h)
    · rw [hch, if_pos hc, ha]
      exact if_neg fun h => Bool.false_ne_true (ho.symm.trans h)

end Sys2Proof.Machine
end

section
/-! The escalation of a WET zone (R140, R152). -/

namespace Sys2Proof.Machine

/-- A channel's record that an escalation with CUT ALL has cut: held, its override mark cleared first (R152). -/
def Channel.cutByEscalation (z : Zone) (now : Stamp) (r : Channel) : Channel :=
  { r.heldBy z with override := false, shed := false }.wasCut now

section
variable {z : Zone} {r : Channel} {now : Stamp}

theorem Channel.mem_cutByEscalation_holds : z ∈ (r.cutByEscalation z now).holds := by
  rw [cutByEscalation, (wasCut_spec rfl).2.2.1]
  exact mem_heldBy.mpr (.inl rfl)

theorem Channel.cutByEscalation_quelled : (r.cutByEscalation z now).Quelled := by
  obtain ⟨hshed, hover, -, hstate⟩ :=
    wasCut_spec (r := { r.heldBy z with override := false, shed := false }) (now := now) rfl
  exact ⟨hshed, hover, hstate.imp_right .inr⟩

theorem Channel.cutByEscalation_down :
    (r.cutByEscalation z now).state = .off ∨ (r.cutByEscalation z now).state = .faulted :=
  (wasCut_spec (r := { r.heldBy z with override := false, shed := false }) rfl).2.2.2

end

theorem clearOverride_ch (c d : Ch) (s : State) :
    (clearOverride c s).ch d = if d = c then { s.ch c with override := false } else s.ch d := State.modCh_ch ..

theorem forEach_clearOverride_ch (s : State) (d : Ch) :
    (forEach allCh clearOverride s).ch d = { s.ch d with override := false } :=
  (forEach_ch clearOverride (fun _ _ _ _ r => { r with override := false }) (fun _ _ => ⟨rfl, rfl, rfl⟩)
    clearOverride_ch allCh (List.nodup_finRange 24) s d).trans (if_pos (mem_allCh d))

/-- What an escalation does before the valves (R152, R165). -/
structure Escalates (z : Zone) (s u : State) : Prop where
  frame : LeakFrame s u
  valve : u.resp.valve = s.resp.valve
  nothing : s.cfg.resp[z].esc = .nothing → u.chans = s.chans
  isolate : s.cfg.resp[z].esc = .isolateNoncritical → ∀ c, u.ch c =
    if (s.chCfg c).tier ≠ 0 then ((s.ch c).heldBy z).leakStopped s.now (warningTime s c) else s.ch c
  cutAll : s.cfg.resp[z].esc = .cutAll → ∀ c, u.ch c = (s.ch c).cutByEscalation z s.now

/-- The escalation of a zone before the valves: the capture, the holds, and the stops or cuts (R152, R165). -/
def escalateChannels (z : Zone) (s : State) : State :=
  let t := countLaterAlarm s
  match s.cfg.resp[z].esc with
  | .nothing => t
  | .isolateNoncritical =>
    let l := allCh.filter fun c => decide ((s.chCfg c).tier ≠ 0)
    forEach l (leakStop (gracefulStop .leak)) (forEach l (joinHold z) t)
  | .cutAll => forEach allCh (cut .leak) (forEach allCh clearOverride (forEach allCh (joinHold z) t))

theorem applyEscalation_eq (z : Zone) (s : State) : applyEscalation z s =
    if s.cfg.resp[z].closeAll then forEach allValves (joinDemand z) (escalateChannels z s)
    else escalateChannels z s := by
  cases he : s.cfg.resp[z].esc with
  | nothing | cutAll => simp only [applyEscalation, escalateChannels, he]
  | isolateNoncritical =>
    simp only [applyEscalation, escalateChannels, he]
    rfl

section
variable {z : Zone} {s : State}

theorem escalateChannels_nothing (h : s.cfg.resp[z].esc = .nothing) : escalateChannels z s = countLaterAlarm s := by
  simp only [escalateChannels, h]

theorem escalateChannels_isolate (h : s.cfg.resp[z].esc = .isolateNoncritical) : escalateChannels z s =
    forEach (allCh.filter fun c => decide ((s.chCfg c).tier ≠ 0)) (leakStop (gracefulStop .leak))
      (forEach (allCh.filter fun c => decide ((s.chCfg c).tier ≠ 0)) (joinHold z) (countLaterAlarm s)) := by
  simp only [escalateChannels, h]

theorem escalateChannels_cutAll (h : s.cfg.resp[z].esc = .cutAll) : escalateChannels z s =
    forEach allCh (cut .leak) (forEach allCh clearOverride (forEach allCh (joinHold z) (countLaterAlarm s))) := by
  simp only [escalateChannels, h]

end

theorem escalateChannels_spec (z : Zone) (s : State) : Escalates z s (escalateChannels z s) := by
  let t := countLaterAlarm s
  have hframe : LeakFrame s t := ⟨⟨rfl, rfl, rfl, rfl, rfl, rfl, rfl, rfl, rfl, rfl⟩, rfl, rfl⟩
  have hvalve : t.resp.valve = s.resp.valve := rfl
  have hold : ∀ l, (forEach l (joinHold z) t).resp = t.resp := fun l => forEach_same State.resp _ (joinHold_resp z) l t
  cases he : s.cfg.resp[z].esc with
  | nothing =>
    rw [escalateChannels_nothing he]
    exact ⟨hframe, rfl, fun _ => rfl, fun h => absurd (he.symm.trans h) nofun,
      fun h => absurd (he.symm.trans h) nofun⟩
  | isolateNoncritical =>
    let l := allCh.filter fun c => decide ((s.chCfg c).tier ≠ 0)
    have hl : ∀ c, c ∈ l ↔ (s.chCfg c).tier ≠ 0 := fun c => by simp [l, allCh]
    rw [escalateChannels_isolate he]
    refine ⟨(hframe.trans (.forEach (joinHold_leakFrame z) l t)).trans
      (.forEach (leakStop_leakFrame (gracefulStop_leakFrame .leak)) l _), ?_, fun h => absurd (he.symm.trans h) nofun,
      fun _ c => ?_, fun h => absurd (he.symm.trans h) nofun⟩
    · have hresp : (forEach l (leakStop (gracefulStop .leak)) (forEach l (joinHold z) t)).resp = t.resp :=
        (forEach_same State.resp _ (leakStop_resp (gracefulStop_fixed .leak)) l _).trans (hold l)
      exact (congrArg Response.valve hresp).trans hvalve
    · refine (hold_and_stop_ch z l t c).trans ?_
      simp only [hl]
      rfl
  | cutAll =>
    let v := forEach allCh clearOverride (forEach allCh (joinHold z) t)
    have hv : LeakFrame s v :=
      (hframe.trans (.forEach (joinHold_leakFrame z) allCh t)).trans (.forEach (fun c => modCh_leakFrame c _) allCh _)
    have hvresp : v.resp = t.resp := (forEach_same State.resp clearOverride (fun _ _ => rfl) allCh _).trans (hold allCh)
    rw [escalateChannels_cutAll he]
    refine ⟨hv.trans (.forEach (cut_leakFrame .leak) allCh v), ?_, fun h => absurd (he.symm.trans h) nofun,
      fun h => absurd (he.symm.trans h) nofun, fun _ c => ?_⟩
    · have hresp : (forEach allCh (cut .leak) v).resp = v.resp :=
        forEach_same State.resp _ (fun c u => congrArg Fixed.resp (cut_fixed .leak c u)) allCh v
      rw [hresp, hvresp, hvalve]
    · have hc := mem_allCh c
      refine (forEach_cut_ch .leak allCh (List.nodup_finRange 24) v c).trans ?_
      rw [if_pos hc, hv.rest.now, forEach_clearOverride_ch, forEach_joinHold_ch, if_pos hc]
      rfl

section
variable (z : Zone) (s : State)

theorem forEach_joinDemand_leakFrame : LeakFrame s (forEach allValves (joinDemand z) s) :=
  .forEach (fun n t => (joinDemand_spec z n t).leakFrame) allValves s

theorem applyEscalation_leakFrame : LeakFrame s (applyEscalation z s) := by
  rw [applyEscalation_eq]
  split
  · exact (escalateChannels_spec z s).frame.trans (forEach_joinDemand_leakFrame z _)
  · exact (escalateChannels_spec z s).frame

/-- The valves leave the channels as the stops and cuts have made them. -/
theorem applyEscalation_chans : (applyEscalation z s).chans = (escalateChannels z s).chans := by
  rw [applyEscalation_eq]
  split
  · exact forEach_same State.chans _ (fun n t => (joinDemand_spec z n t).chans) allValves _
  · rfl

end

/-! ### The expiry (R140) -/

/-- The state in which a zone has become ESCALATED, its timer stopped (R140). -/
def escalated (z : Zone) (s : State) : State := s.modZone z fun r => { r with state := .escalated, esc := none }

section
variable {z : Zone} {s : State}

theorem takeEscalation_idle (h : s.zones[z].esc = none ∨ s.zones[z].state ≠ .wet) : takeEscalation z s = s := by
  refine if_neg fun ⟨he, hs⟩ => h.elim (fun hn => ?_) fun hn => hn hs
  rw [hn] at he
  exact nomatch he

theorem takeEscalation_wet (h : s.zones[z].esc.isSome) (hs : s.zones[z].state = .wet) :
    ∃ a b, takeEscalation z s = raise .leakEscalated (some z.val) a b (applyEscalation z (escalated z s)) :=
  ⟨_, _, if_pos ⟨h, hs⟩⟩

end

/-- Settles O24: an expiry without effect, and the escalation with its action on channels and valves. -/
theorem escalationExpiryAppliesTheAction : Obligations.EscalationExpiryAppliesTheAction := by
  refine fun z s hp => ⟨fun h => .of_event_eq rfl hp (takeEscalation_idle h), fun h hs => ?_⟩
  let v := escalated z s
  obtain ⟨a, b, hu⟩ := takeEscalation_wet h hs
  obtain ⟨-, hvalve, hnothing, hisolate, hcut⟩ := escalateChannels_spec z v
  have hframe := applyEscalation_leakFrame z v
  have hch : ∀ c, (raise .leakEscalated (some z.val) a b (applyEscalation z v)).ch c = (escalateChannels z v).ch c :=
    fun c => by rw [raise_ch, State.ch, applyEscalation_chans, State.ch]
  refine ⟨_, .of_event_eq rfl hp hu, (raise_zones ..).trans hframe.rest.zones, ?_, fun he => ?_, fun he c => ?_,
    fun he c => ?_, fun hall n => ?_, fun hall => ?_, (raise_cfg ..).trans hframe.rest.cfg,
    (raise_store ..).trans hframe.rest.store, (raise_now ..).trans hframe.rest.now,
    (raise_shelf ..).trans hframe.shelf⟩
  · rw [raise_flags]
    rfl
  · rw [raise_chans, applyEscalation_chans]
    exact hnothing he
  · have hrec : (escalateChannels z v).ch c =
        if (s.chCfg c).tier ≠ 0 then ((s.ch c).heldBy z).leakStopped s.now (warningTime v c)
        else s.ch c := hisolate he c
    rw [hch, hrec]
    refine ⟨fun ht => if_neg (not_not.mpr ht), fun ht => ?_⟩
    rw [if_pos ht]
    refine ⟨Channel.leakStopped_holds.symm ▸ Channel.mem_heldBy.mpr (.inl rfl), fun ho => ?_⟩
    have hq : (((s.ch c).heldBy z).leakStopped s.now (warningTime v c)).Quelled :=
      Channel.leakStopped_quelled (Channel.heldBy_override ho)
    exact ⟨hq.state_ne nofun nofun nofun, hq.state_ne nofun nofun nofun, hq.shed⟩
  · rw [hch, hcut he]
    have hq : ((v.ch c).cutByEscalation z v.now).Quelled := Channel.cutByEscalation_quelled
    exact ⟨Channel.mem_cutByEscalation_holds, Channel.cutByEscalation_down, hq.override, hq.shed⟩
  · have hcfg : (escalated z s).cfg.resp[z].closeAll = true := hall
    rw [raise_resp, applyEscalation_eq, if_pos hcfg]
    exact forEach_joinDemand_mem z n _
  · have hcfg : ¬ (escalated z s).cfg.resp[z].closeAll = true := ne_true_of_eq_false hall
    rw [raise_resp, applyEscalation_eq, if_neg hcfg]
    exact hvalve

end Sys2Proof.Machine
end

section
/-! ZONE SET and PATTERN SET (R143 to R145). -/

namespace Sys2Proof.Machine

/-! ### Lists of indices -/

theorem indices?_vals {n : Nat} (l : List (Fin n)) : indices? n (l.map fun i => (i.val : Int)) = some l := by
  induction l with
  | nil => rfl
  | cons i l ih =>
    rw [indices?] at ih
    rw [indices?, List.map_cons, List.mapM_cons, index?_val, ih]
    rfl

theorem nodup_vals {n : Nat} {l : List (Fin n)} (h : l.Nodup) : (l.map fun i => (i.val : Int)).Nodup :=
  h.map fun _ _ e => Fin.ext (Int.ofNat_inj.mp e)

/-! ### The form of ZONE SET (R144) -/

section
variable {a : ZoneArgs} {s : State}

theorem noZoneArgs_iff (h : a.zone = none) : noZoneArgs a = true ↔ a = { scan := a.scan } := by
  obtain ⟨zone, en, wet, openLevel, pats, cpol, esc, cnt, scan⟩ := a
  subst h
  simp [noZoneArgs, Option.isNone_iff_eq_none, and_assoc]

theorem doZoneSet_malformed (h : zoneSetMalformed a = true) : doZoneSet a s = (s, errReply .syntaxError) := if_pos h

theorem zoneSetMalformed_no_zone (h : a.zone = none) (h' : a ≠ { scan := a.scan } ∨ a.scan = none) :
    zoneSetMalformed a = true := by
  have hargs : noZoneArgs a = false ∨ a.scan = none :=
    h'.imp_left fun hne => Bool.eq_false_iff.mpr fun hno => hne ((noZoneArgs_iff h).mp hno)
  rcases hargs with hargs | hargs <;> simp [zoneSetMalformed, h, hargs]

theorem zoneSetMalformed_pats {ps : List Int} (h : a.pats = some ps) (hd : ¬ ps.Nodup) : zoneSetMalformed a = true := by
  simp [zoneSetMalformed, h, hd]

theorem zoneSetMalformed_zone {z : Int} {ps : Option (List PatIx)} (h : a.zone = some z)
    (hp : a.pats = ps.map (·.map fun p => (p.val : Int))) (hn : ∀ x ∈ ps, x.Nodup) : zoneSetMalformed a = false := by
  cases ps with
  | none => simp [zoneSetMalformed, h, hp]
  | some l => simp [zoneSetMalformed, h, hp, nodup_vals (hn l rfl)]

end

/-! ### The tests of ZONE SET (R143, R144) -/

theorem zoneLatched_iff (s : State) (z : Zone) : zoneLatched s z = true ↔
    s.zones[z].state = .wet ∨ s.zones[z].state = .escalated ∨
      (s.zones[z].state = .cableFault ∧ s.cfg.zone[z].cpol = .treatWet) := by
  rw [zoneLatched]
  cases s.zones[z].state <;> simp

theorem cablePolicyLocked_iff (s : State) (z : Zone) (p : Option CablePolicy) :
    cablePolicyLocked s z p = true ↔
      s.zones[z].state = .cableFault ∧ p.getD s.cfg.zone[z].cpol ≠ s.cfg.zone[z].cpol := by
  cases p <;> simp [cablePolicyLocked]

/-! ### The settings stored (R143, R144) -/

/-- What en= does to a zone that it may be applied to (R143). -/
def ZoneRec.switched (en : Option Bool) (r : ZoneRec) : ZoneRec :=
  match en, r.state with
  | some true, .off => { r with state := .watch, history := [], cable := 0, cls := none }
  | some false, .watch => { r with state := .off }
  | some false, .cableFault => { r with state := .off, wetSince := none }
  | _, _ => r

theorem enableZone_eq (z : Zone) (s : State) : enableZone z s = s.modZone z (ZoneRec.switched (some true)) := by
  rw [enableZone]
  cases hs : s.zones[z].state with
  | off =>
    rw [if_pos rfl]
    simp only [State.modZone, ZoneRec.switched, hs]
  | watch | wet | escalated | cableFault =>
    rw [if_neg nofun]
    simp only [State.modZone, ZoneRec.switched, hs]
    simp

theorem disableZone_eq (z : Zone) (s : State) : disableZone z s = s.modZone z (ZoneRec.switched (some false)) := by
  rw [disableZone]
  cases hs : s.zones[z].state <;> simp only [State.modZone, ZoneRec.switched, hs] <;> simp

theorem storeZone_storeScan (z : Zone) (g : ZoneCfg) (en : Option Bool) (scan : Option Int) (s : State) :
    storeZone z g en (storeScan scan s) = { s with
      cfg := { s.cfg with zone := s.cfg.zone.set z g, scanPeriod := numArg 20 1000 scan s.cfg.scanPeriod }
      zones := s.zones.set z (s.zones[z].switched en) } := by
  rcases en with _ | _ | _
  · simp [storeZone, ZoneRec.switched, State.modCfg, storeScan]
  · exact disableZone_eq ..
  · exact enableZone_eq ..

theorem zoneAdjusts_iff (a : ZoneArgs) : zoneAdjusts a = true ↔ clamps 0 4095 a.wet = true ∨
    clamps 0 4095 a.openLevel = true ∨ clamps 0 600000 a.esc = true ∨ clamps 1 16 a.cnt = true ∨
      clamps 20 1000 a.scan = true := by
  simp only [zoneAdjusts, Bool.or_eq_true, or_assoc]

/-- A zone's settings after ZONE SET with these patterns (R144). -/
def zoneWritten (a : ZoneArgs) (ps : Option (List PatIx)) (old : ZoneCfg) : ZoneCfg :=
  ⟨a.en.getD old.enabled, numArg 0 4095 a.wet old.wet, numArg 0 4095 a.openLevel old.openLevel,
    (ps.map toSet).getD old.pats, a.cpol.getD old.cpol, numArg 0 600000 a.esc old.esc, numArg 1 16 a.cnt old.cnt⟩

theorem applyZone_eq {a : ZoneArgs} {ps : Option (List PatIx)} (hp : a.pats = ps.map (·.map fun p => (p.val : Int)))
    (old : ZoneCfg) : applyZone a (toSet (ps.getD [])) old = zoneWritten a ps old := by
  cases ps <;> simp [applyZone, zoneWritten, hp]

/-- ZONE SET on a zone in its good form: the tests in their order, and the settings stored (R144). -/
theorem doZoneSet_zone {a : ZoneArgs} {z : Zone} {ps : Option (List PatIx)} (s : State)
    (hz : a.zone = some (z.val : Int)) (hp : a.pats = ps.map (·.map fun p => (p.val : Int))) (hn : ∀ x ∈ ps, x.Nodup) :
    doZoneSet a s =
      let g := zoneWritten a ps s.cfg.zone[z]
      if g.openLevel ≤ g.wet then (s, errReply .range)
      else if a.en = some false ∧ zoneLatched s z = true then (s, errReply .state)
      else if cablePolicyLocked s z a.cpol then (s, errReply .state)
      else (storeZone z g a.en (storeScan a.scan s), setReply (zoneAdjusts a)
        (zoneCfgFields g ++ [fNum "scan" (storeZone z g a.en (storeScan a.scan s)).cfg.scanPeriod])) := by
  have hpats : indices? 4 (a.pats.getD []) = some (ps.getD []) := by
    rw [hp]
    cases ps with
    | none => rfl
    | some l => exact indices?_vals l
  rw [doZoneSet, if_neg (by rw [zoneSetMalformed_zone hz hp hn]; decide), hz, hpats]
  simp only [withIndex_val, applyZone_eq hp, refuse]

/-! ### PATTERN SET (R145) -/

section
variable {a : PatternArgs} {s : State}

theorem doPatternSet_malformed (h : patternSetMalformed a = true) : doPatternSet a s = (s, errReply .syntaxError) :=
  if_pos h

theorem noPatternArgs_iff :
    (a.en.isNone && a.sel.isNone && a.min.isNone) = true ↔ a = { pat := a.pat } := by
  obtain ⟨pat, en, sel, min⟩ := a
  simp [Option.isNone_iff_eq_none, and_assoc]

theorem patternSetMalformed_no_args (h : a.pat = none ∨ a = { pat := a.pat }) : patternSetMalformed a = true := by
  rcases h with h | h
  · simp [patternSetMalformed, h]
  · rw [patternSetMalformed, noPatternArgs_iff.mpr h, Bool.or_true, Bool.true_or]

/-- A selection as PATTERN SET writes it: positions as numbers. -/
def selArg (l : List (Fin 16 × Wetness)) : List (Int × Wetness) := l.map fun p => ((p.1.val : Int), p.2)

theorem selArg_positions (l : List (Fin 16 × Wetness)) :
    (selArg l).map Prod.fst = (l.map Prod.fst).map fun i => (i.val : Int) := by simp [selArg]

theorem selArg_nodup (l : List (Fin 16 × Wetness)) : ((selArg l).map Prod.fst).Nodup ↔ (l.map Prod.fst).Nodup := by
  rw [selArg_positions]
  exact ⟨fun h => h.of_map _, nodup_vals⟩

theorem selection?_selArg (l : List (Fin 16 × Wetness)) : selection? (selArg l) = some l := by
  induction l with
  | nil => rfl
  | cons p l ih =>
    rw [selection?] at ih
    rw [selection?, selArg, List.map_cons, List.mapM_cons, index?_val]
    rw [← selArg, ih]
    rfl

theorem patternSetMalformed_iff {n : Int} {sel : Option (List (Fin 16 × Wetness))} (h : a.pat = some n)
    (ha : a ≠ { pat := a.pat }) (hs : a.sel = sel.map selArg) :
    patternSetMalformed a = true ↔ ∃ x ∈ sel, ¬ (x.map Prod.fst).Nodup := by
  rw [patternSetMalformed, Bool.eq_false_iff.mpr fun hno => ha (noPatternArgs_iff.mp hno), h, hs]
  cases sel with
  | none => simp
  | some l => simp [selArg_nodup]

/-- A pattern after PATTERN SET with this selection (R145). -/
def patternWritten (a : PatternArgs) (sel : Option (List (Fin 16 × Wetness))) (old : Pattern) : Pattern :=
  ⟨a.en.getD old.enabled, sel.getD old.sel, numArg 1 16 a.min old.min⟩

theorem doPatternSet_stores {n : PatIx} {sel : Option (List (Fin 16 × Wetness))} (h : a.pat = some (n.val : Int))
    (ha : a ≠ { pat := a.pat }) (hs : a.sel = sel.map selArg) (hn : ∀ x ∈ sel, (x.map Prod.fst).Nodup) :
    doPatternSet a s =
      let p := patternWritten a sel s.cfg.pats[n]
      (s.modCfg fun w => { w with pats := w.pats.set n p }, setReply (clamps 1 16 a.min) (patternFields p)) := by
  have hform : ¬ patternSetMalformed a = true := fun hm => by
    obtain ⟨x, hx, hd⟩ := (patternSetMalformed_iff h ha hs).mp hm
    exact hd (hn x hx)
  have hsel : selection? (a.sel.getD []) = some (sel.getD []) := by
    rw [hs]
    cases sel with
    | none => rfl
    | some l => exact selection?_selArg l
  have hp : applyPattern a (sel.getD []) s.cfg.pats[n] = patternWritten a sel s.cfg.pats[n] := by
    cases sel <;> simp [applyPattern, patternWritten, hs]
  rw [doPatternSet, if_neg hform, hsel]
  simp only [h, withIndex_val, hp]

end

/-- Settles O46: ZONE SET by its form, the period alone, and a zone's settings test by test; PATTERN SET by its form. -/
theorem zoneSetAndPatternSet : Obligations.ZoneSetAndPatternSet := by
  refine ⟨fun l a s h => ⟨fun hz hargs => ?_, fun ps hps hd => ?_, fun x ha => ?_, fun z ps hz hn hp => ?_⟩,
    fun l a s h => ⟨fun hargs => ?_, fun n sel hpat hargs hs => ⟨fun hd => ?_, fun hn => ?_⟩⟩⟩
  · exact .of_runCommand rfl h (doZoneSet_malformed (zoneSetMalformed_no_zone hz hargs))
  · exact .of_runCommand rfl h (doZoneSet_malformed (zoneSetMalformed_pats hps hd))
  · subst ha
    refine .of_runCommand rfl h ?_
    rw [← found_cfg l _ s]
    rfl
  · intro old r g latched locked
    have hrun := doZoneSet_zone (found l (.zoneSet l a) s) hz hp hn
    simp only [zoneLatched_iff, cablePolicyLocked_iff, storeZone_storeScan, found_cfg, found_zones] at hrun
    refine ⟨fun hg => ?_, fun hg ht => ?_, fun hg hl hk => ?_⟩
    · exact .of_runCommand rfl h (hrun.trans (if_pos hg))
    · refine .of_runCommand rfl h (hrun.trans ((if_neg (not_le.mpr hg)).trans ?_))
      by_cases hl : a.en = some false ∧ latched
      · exact if_pos hl
      · exact (if_neg hl).trans (if_pos (ht.resolve_left hl))
    · have hstore := hrun.trans ((if_neg (not_le.mpr hg)).trans ((if_neg hl).trans (if_neg hk)))
      obtain ⟨hstatus, hadjusted⟩ := setReply_status_cases (zoneAdjusts a)
        (zoneCfgFields g ++ [fNum "scan" (numArg 20 1000 a.scan s.cfg.scanPeriod)])
      refine ⟨_, .of_runCommand rfl h hstore, hstatus, hadjusted.trans (zoneAdjusts_iff a), ?_⟩
      simp [setReply, zoneCfgFields, g, zoneWritten, old]
  · exact .of_runCommand rfl h (doPatternSet_malformed (patternSetMalformed_no_args hargs))
  · exact .of_runCommand rfl h (doPatternSet_malformed ((patternSetMalformed_iff hpat hargs hs).mpr hd))
  · have hrun := doPatternSet_stores (s := found l (.patternSet l a) s) hpat hargs hs hn
    simp only [State.modCfg, found_cfg] at hrun
    exact ⟨_, .of_runCommand rfl h hrun, rfl⟩

end Sys2Proof.Machine
end

section
/-! LEAK CLEAR, RESPONSE SET and CAPTURE CLEAR (R142, R153, R154, R166). -/

namespace Sys2Proof.Machine

/-! ### A zone leaves the hold sets and the demand sets (R153, R161) -/

theorem setErase_of_not_mem {n : Nat} {a : Fin n} {l : List (Fin n)} (h : a ∉ l) : setErase a l = l :=
  List.filter_eq_self.mpr fun b hb => by
    have hne : b ≠ a := fun e => h (e ▸ hb)
    simpa using hne

/-- A channel loses a zone from its hold set, and auto-restore may be let look (R153, R124). -/
theorem leaveHold_spec (z : Zone) (c : Ch) (s : State) :
    ∃ w, leaveHold z c s = { (s.modCh c fun r => { r with holds := setErase z r.holds }) with work := w } ∧
      (s.work.restore = true → w.restore = true) ∧
      ((s.ch c).holds = [z] → (s.ch c).state = .off → (s.ch c).shed = true → w.restore = true) := by
  by_cases hz : z ∈ (s.ch c).holds
  · rw [leaveHold, if_pos (by simpa using hz)]
    dsimp only
    split
    · exact ⟨_, rfl, fun _ => rfl, fun _ _ _ => rfl⟩
    · next hn =>
      refine ⟨s.work, rfl, id, fun h1 h2 h3 => absurd ?_ hn⟩
      rw [State.modCh_ch_same, h1]
      exact ⟨by simp [setErase], h2, h3⟩
  · refine ⟨s.work, ?_, id, fun h1 => absurd (h1 ▸ List.mem_singleton_self z) hz⟩
    have hsame : (s.modCh c fun r => { r with holds := setErase z r.holds }) = s := by
      have hr : ({ s.chans[c] with holds := setErase z s.chans[c].holds } : Channel) = s.chans[c] := by
        rw [show setErase z s.chans[c].holds = s.chans[c].holds from setErase_of_not_mem hz]
      simp only [State.modCh, hr]
      simp
    rw [leaveHold, if_neg (by simpa using hz), hsame]

section
variable (z : Zone) (s : State)

theorem leaveHold_leakFrame (c : Ch) : LeakFrame s (leaveHold z c s) := by
  obtain ⟨w, h, -⟩ := leaveHold_spec z c s
  rw [h]
  exact ⟨⟨rfl, rfl, rfl, rfl, rfl, rfl, rfl, rfl, rfl, rfl⟩, rfl, rfl⟩

theorem leaveHold_ch (c d : Ch) : (leaveHold z c s).ch d =
    if d = c then { s.ch c with holds := setErase z (s.ch c).holds } else s.ch d := by
  obtain ⟨w, h, -⟩ := leaveHold_spec z c s
  rw [h]
  exact State.modCh_ch s c d fun r => { r with holds := setErase z r.holds }

theorem forEach_leaveHold_ch (d : Ch) :
    (forEach allCh (leaveHold z) s).ch d = { s.ch d with holds := setErase z (s.ch d).holds } :=
  (forEach_ch (leaveHold z) (fun _ _ _ _ r => { r with holds := setErase z r.holds })
    (fun c t => (leaveHold_leakFrame z t c).keeps) (fun c d t => leaveHold_ch z t c d) allCh (List.nodup_finRange 24)
    s d).trans (if_pos (mem_allCh d))

/-- Releasing the holds changes the channels and the work that is due. -/
theorem forEach_leaveHold_spec : ∃ v w, forEach allCh (leaveHold z) s = { s with chans := v, work := w } :=
  forEach_keeps (fun t => ∃ v w, t = { s with chans := v, work := w }) (leaveHold z)
    (fun c t ⟨v, w, ht⟩ => by
      obtain ⟨w', h, -⟩ := leaveHold_spec z c t
      exact ⟨_, w', by rw [h, ht]; rfl⟩)
    allCh s ⟨s.chans, s.work, rfl⟩

/-- A channel that the release leaves OFF with a shed mark and no hold lets auto-restore look (R124, R153). -/
theorem forEach_leaveHold_restore {c : Ch} (h1 : (s.ch c).holds = [z]) (h2 : (s.ch c).state = .off)
    (h3 : (s.ch c).shed = true) : (forEach allCh (leaveHold z) s).work.restore = true := by
  have keeps : ∀ a t, t.work.restore = true → (leaveHold z a t).work.restore = true := fun a t ht => by
    obtain ⟨w, h, hw, -⟩ := leaveHold_spec z a t
    rw [h]
    exact hw ht
  have acts : ∀ t, t.ch c = s.ch c → (leaveHold z c t).work.restore = true := fun t ht => by
    obtain ⟨w, h, -, hw⟩ := leaveHold_spec z c t
    rw [ht] at hw
    rw [h]
    exact hw h1 h2 h3
  refine forEach_establishes (f := leaveHold z) (P := fun t => t.ch c = s.ch c ∨ t.work.restore = true)
    (Q := fun t => t.work.restore = true) (mem_allCh c) (fun a t ht => ?_)
    (fun t ht => ht.elim (acts t) (keeps c t)) keeps (.inl rfl)
  by_cases ha : c = a
  · subst ha
    exact .inr (ht.elim (acts t) (keeps c t))
  · exact ht.imp (fun h => by rw [leaveHold_ch, if_neg ha, h]) (keeps a t)

end

/-- A zone's demand is taken out of a valve's demand set (R161). -/
def Valve.released (z : Zone) (v : Valve) : Valve := { v with zones := setErase z v.zones }

/-- Releasing the demands changes the demand sets alone. -/
theorem forEach_leaveDemand_spec (z : Zone) (l : List ValveIx) (hl : l.Nodup) (s : State) :
    ∃ v, forEach l (leaveDemand z) s = { s with resp := { s.resp with valve := v } } ∧
      ∀ n : ValveIx, v[n] = if n ∈ l then s.resp.valve[n].released z else s.resp.valve[n] := by
  induction l generalizing s with
  | nil => exact ⟨s.resp.valve, rfl, fun _ => rfl⟩
  | cons a l ih =>
    obtain ⟨ha, hl'⟩ := List.nodup_cons.mp hl
    obtain ⟨v, hv, hn⟩ := ih hl' (leaveDemand z a s)
    have hturn : ∀ n : ValveIx, (leaveDemand z a s).resp.valve[n] =
        if n = a then s.resp.valve[a].released z else s.resp.valve[n] := fun n => modValve_valve a n _ s
    refine ⟨v, hv, fun n => ?_⟩
    rw [hn, hturn]
    by_cases h : n = a
    · subst h
      simp [ha]
    · simp [h]

/-! ### LEAK CLEAR by the zone's state, its last class and its patterns (R142) -/

section
variable {z : Zone} {s : State}

/-- A cleared zone is in WATCH, and out of every hold set and every demand set (R142, R153). -/
theorem clearZone_spec (z : Zone) (s : State) :
    ∃ r w v, clearZone z s = { s with
        zones := s.zones.set z { s.zones[z] with state := .watch, esc := none, matched := [], wetSince := none }
        chans := r, work := w, resp := { s.resp with valve := v } } ∧
      (∀ d : Ch, r[d] = { s.ch d with holds := (s.ch d).holds.filter (· ≠ z) }) ∧
      (∀ n : ValveIx, v[n] = { s.resp.valve[n] with zones := s.resp.valve[n].zones.filter (· ≠ z) }) ∧
      ((∃ d : Ch, (s.ch d).holds = [z] ∧ (s.ch d).state = .off ∧ (s.ch d).shed = true) → w.restore = true) := by
  let t := s.modZone z fun r => { r with state := .watch, esc := none, matched := [], wetSince := none }
  have hclear : clearZone z s = forEach allValves (leaveDemand z) (forEach allCh (leaveHold z) t) := rfl
  obtain ⟨r, w, hheld⟩ := forEach_leaveHold_spec z t
  obtain ⟨v, hdem, hv⟩ := forEach_leaveDemand_spec z allValves (List.nodup_finRange 4) (forEach allCh (leaveHold z) t)
  have hch := forEach_leaveHold_ch z t
  have hwork : ∀ d, (t.ch d).holds = [z] → (t.ch d).state = .off → (t.ch d).shed = true →
      (forEach allCh (leaveHold z) t).work.restore = true := fun d => forEach_leaveHold_restore z t
  rw [hdem, hheld] at hclear
  rw [hheld] at hv hch hwork
  refine ⟨r, w, v, hclear, fun d => hch d, fun n => (hv n).trans (if_pos (mem_allValves n)), ?_⟩
  rintro ⟨d, h1, h2, h3⟩
  exact hwork d h1 h2 h3

theorem doLeakClear_state (h : s.zones[z].state = .off ∨ s.zones[z].state = .watch) :
    doLeakClear (some (z.val : Int)) s =
      (s, { status := .err .state, fields := [fSet "mat" (matchingOf s.cfg z s.zones[z].history)] }) := by
  rw [doLeakClear, withIndex_val, ← matching_eq]
  exact if_pos h

section
variable (h1 : s.zones[z].state ≠ .off) (h2 : s.zones[z].state ≠ .watch)
include h1 h2

theorem doLeakClear_class (hc : s.zones[z].cls ≠ some .dry) : doLeakClear (some (z.val : Int)) s =
    (s, { status := .err .notDry, fields := [fNums "mat" []] }) := by
  rw [doLeakClear, withIndex_val]
  exact (if_neg (not_or.mpr ⟨h1, h2⟩)).trans (if_pos hc)

theorem doLeakClear_dry (hc : s.zones[z].cls = some .dry) : doLeakClear (some (z.val : Int)) s =
    if matchingOf s.cfg z s.zones[z].history = [] then (clearZone z s, okWith [fWord "state" "WATCH"])
    else (s, { status := .err .notDry, fields := [fSet "mat" (matchingOf s.cfg z s.zones[z].history)] }) := by
  rw [doLeakClear, withIndex_val, ← matching_eq]
  refine (if_neg (not_or.mpr ⟨h1, h2⟩)).trans ((if_neg (not_not.mpr hc)).trans ?_)
  cases matching s z <;> rfl

end

end

/-! ### RESPONSE SET (R154) -/

section
variable {a : ResponseArgs} {s : State}

theorem noEntryArgs_iff (h : a.zone = none) : noEntryArgs a = true ↔ a = { travel := a.travel } := by
  obtain ⟨zone, act, chs, valve, esc, vall, travel⟩ := a
  subst h
  simp [noEntryArgs, Option.isNone_iff_eq_none, and_assoc]

theorem doResponseSet_malformed (h : responseSetMalformed a = true) : doResponseSet a s = (s, errReply .syntaxError) :=
  if_pos h

theorem responseSetMalformed_no_zone (h : a.zone = none) (h' : a ≠ { travel := a.travel } ∨ a.travel = none) :
    responseSetMalformed a = true := by
  have hargs : noEntryArgs a = false ∨ a.travel = none :=
    h'.imp_left fun hne => Bool.eq_false_iff.mpr fun hno => hne ((noEntryArgs_iff h).mp hno)
  rcases hargs with hargs | hargs <;> simp [responseSetMalformed, h, hargs]

theorem responseSetMalformed_chs {cs : List Int} (h : a.chs = some cs) (hd : ¬ cs.Nodup) :
    responseSetMalformed a = true := by
  simp [responseSetMalformed, h, hd]

theorem responseSetMalformed_zone {z : Int} {cs : Option (List Ch)} (h : a.zone = some z)
    (hc : a.chs = cs.map (·.map fun c => (c.val : Int))) (hn : ∀ x ∈ cs, x.Nodup) : responseSetMalformed a = false := by
  cases cs with
  | none => simp [responseSetMalformed, h, hc]
  | some l => simp [responseSetMalformed, h, hc, nodup_vals (hn l rfl)]

/-- valve= as RESPONSE SET writes it: the stored valve, none, or one by its index (R154). -/
theorem valveOr_written {x : Option IndexArg} {old new : Option ValveIx}
    (h : x = none ∧ new = old ∨ x = some .absent ∧ new = none ∨ ∃ n : ValveIx, x = some (.index n.val) ∧ new = some n) :
    valveOr x old = some new := by
  rcases h with ⟨rfl, rfl⟩ | ⟨rfl, rfl⟩ | ⟨n, rfl, rfl⟩
  · rfl
  · rfl
  · simp only [valveOr, index?_val, Option.map_some]

/-- A zone's response entry after RESPONSE SET with these channels and this valve (R154). -/
def entryWritten (a : ResponseArgs) (cs : Option (List Ch)) (v : Option ValveIx) (old : RespEntry) : RespEntry :=
  ⟨a.act.getD old.action, (cs.map toSet).getD old.chans, v, a.esc.getD old.esc, a.vall.getD old.closeAll⟩

theorem doResponseSet_zone {z : Zone} {cs : Option (List Ch)} {v : Option ValveIx} (hz : a.zone = some (z.val : Int))
    (hc : a.chs = cs.map (·.map fun c => (c.val : Int))) (hn : ∀ x ∈ cs, x.Nodup)
    (hv : valveOr a.valve s.cfg.resp[z].valve = some v) :
    doResponseSet a s =
      let e := entryWritten a cs v s.cfg.resp[z]
      let travel := numArg 1000 60000 a.travel s.cfg.travel
      (s.modCfg fun w => { w with travel := travel, resp := w.resp.set z e },
        setReply (clamps 1000 60000 a.travel) (respFields e ++ [fNum "travel" travel])) := by
  have hchs : indices? 24 (a.chs.getD []) = some (cs.getD []) := by
    rw [hc]
    cases cs with
    | none => rfl
    | some l => exact indices?_vals l
  have he : applyResp a (toSet (cs.getD [])) v s.cfg.resp[z] = entryWritten a cs v s.cfg.resp[z] := by
    cases cs <;> simp [applyResp, entryWritten, hc]
  rw [doResponseSet, if_neg (by rw [responseSetMalformed_zone hz hc hn]; decide), hz, hchs]
  simp only [withIndex_val, hv, he]
  rfl

end

/-- Settles O47: LEAK CLEAR test by test, and the release; RESPONSE SET by its form; CAPTURE CLEAR. -/
theorem leakClearResponseSetAndCaptureClear : Obligations.LeakClearResponseSetAndCaptureClear := by
  refine ⟨fun l z s h => ?_, fun l a s h => ⟨fun hz hargs => ?_, fun cs hcs hd => ?_, fun x ha => ?_,
    fun z cs v hz hn hc hv => ?_⟩, fun l s h => .of_runCommand rfl h rfl⟩
  · let f := found l (.leakClear l (some (z.val : Int))) s
    have hcfg : f.cfg = s.cfg := found_cfg ..
    have hzones : f.zones = s.zones := found_zones ..
    refine ⟨fun hs => ?_, fun h1 h2 hc => ?_, fun h1 h2 hc hm => ?_, fun h1 h2 hc hm => ?_⟩
    · have hrun := doLeakClear_state (z := z) (s := f) (by rwa [hzones])
      rw [hcfg, hzones] at hrun
      exact .of_runCommand rfl h hrun
    · exact .of_runCommand rfl h (doLeakClear_class (by rwa [hzones]) (by rwa [hzones]) (by rwa [hzones]))
    · have hrun := doLeakClear_dry (z := z) (s := f) (by rwa [hzones]) (by rwa [hzones]) (by rwa [hzones])
      rw [hcfg, hzones, if_neg hm] at hrun
      exact .of_runCommand rfl h hrun
    · have hrun := doLeakClear_dry (z := z) (s := f) (by rwa [hzones]) (by rwa [hzones]) (by rwa [hzones])
      rw [hcfg, hzones, if_pos hm] at hrun
      obtain ⟨c, w, v, hu, hch, hvalve, hrestore⟩ := clearZone_spec z f
      rw [hu] at hrun
      simp only [f, found_ch, found_valve] at hch hvalve hrestore
      refine ⟨_, .of_runCommand rfl h hrun, by rw [hzones], hch, hvalve, found_capture .., found_lockout .., hrestore,
        hcfg, (found_sameRest ..).store, found_now .., found_budget .., found_run .., found_shelf .., rfl, rfl, rfl⟩
  · exact .of_runCommand rfl h (doResponseSet_malformed (responseSetMalformed_no_zone hz hargs))
  · exact .of_runCommand rfl h (doResponseSet_malformed (responseSetMalformed_chs hcs hd))
  · subst ha
    refine .of_runCommand rfl h ?_
    rw [← found_cfg l _ s]
    rfl
  · have hvalve := valveOr_written hv
    rw [← found_cfg l (.responseSet l a) s] at hvalve
    have hrun := doResponseSet_zone hz hc hn hvalve
    simp only [State.modCfg, found_cfg] at hrun
    exact ⟨_, .of_runCommand rfl h hrun, rfl, by simp [setReply]⟩

end Sys2Proof.Machine
end

section
/-! The movements of a valve (R160 to R163): what each of them makes of the valve's record, its report, and the records it
leaves alone. -/

namespace Sys2Proof.Machine

/-! ### One valve changed -/

theorem modValve_modValve (n : ValveIx) (f g : Valve → Valve) (s : State) :
    (s.modValve n f).modValve n g = s.modValve n fun x => g (f x) := by
  simp [State.modValve, State.modResp]

/-- One valve's record has changed, with reports; nothing but the ports and the tallies has changed with it. -/
structure ValveChanged (n : ValveIx) (f : Valve → Valve) (s u : State) : Prop where
  only : u = { s with resp := u.resp, link := u.link, tally := u.tally }
  resp : u.resp = (s.modValve n f).resp

section
variable {n : ValveIx} {f g : Valve → Valve} {s t u : State}

theorem ValveChanged.modValve (n : ValveIx) (f : Valve → Valve) (s : State) : ValveChanged n f s (s.modValve n f) :=
  ⟨rfl, rfl⟩

theorem ValveChanged.trans (h : ValveChanged n f s t) (k : ValveChanged n g t u) :
    ValveChanged n (fun x => g (f x)) s u := by
  refine ⟨k.only.trans (by rw [h.only]), k.resp.trans ?_⟩
  calc (t.modValve n g).resp = ((s.modValve n f).modValve n g).resp :=
        congrArg (fun r : Response => { r with valve := r.valve.set n (g r.valve[n]) }) h.resp
    _ = (s.modValve n fun x => g (f x)).resp := congrArg State.resp (modValve_modValve ..)

theorem ValveChanged.valve (h : ValveChanged n f s u) : u.resp.valve[n] = f s.resp.valve[n] := by
  rw [h.resp, State.modValve_same]

/-- The change told of the record the valve had. -/
theorem ValveChanged.congr (h : ValveChanged n f s u) (he : f s.resp.valve[n] = g s.resp.valve[n]) :
    ValveChanged n g s u :=
  ⟨h.only, h.resp.trans (by simp only [State.modValve, State.modResp_resp, he])⟩

theorem ValveChanged.sameRest (h : ValveChanged n f s u) : SameRest s u := by
  rw [h.only]
  exact ⟨rfl, rfl, rfl, rfl, rfl, rfl, rfl, rfl, rfl, rfl⟩

theorem ValveChanged.chans (h : ValveChanged n f s u) : u.chans = s.chans := by rw [h.only]
theorem ValveChanged.budget (h : ValveChanged n f s u) : u.budget = s.budget := by rw [h.only]
theorem ValveChanged.run (h : ValveChanged n f s u) : u.run = s.run := by rw [h.only]
theorem ValveChanged.shelf (h : ValveChanged n f s u) : u.shelf = s.shelf := by rw [h.only]
theorem ValveChanged.source (h : ValveChanged n f s u) : u.source = s.source := by rw [h.only]
theorem ValveChanged.work (h : ValveChanged n f s u) : u.work = s.work := by rw [h.only]

/-- A valve's record is changed and a report raised. -/
theorem ValveChanged.raise (n : ValveIx) (f : Valve → Valve) (k : ReportKind) (a b c : Option Nat) (s : State) :
    ValveChanged n f s (raise k a b c (s.modValve n f)) :=
  ⟨(raise_spec ..).trans (by rw [raise_resp]; rfl), raise_resp ..⟩

end

/-- A report is told from an earlier state with the same time, settings, ports and tallies. -/
theorem Reports.of_same {k : ReportKind} {a b c : Option Nat} {s t u : State} (hn : t.now = s.now) (hc : t.cfg = s.cfg)
    (hl : t.link = s.link) (ht : t.tally = s.tally) (h : Reports k a b c t u) : Reports k a b c s u :=
  have ⟨hlink, htally⟩ := raise_congr k a b c hn hc hl ht
  ⟨h.1.trans hlink, h.2.trans htally⟩

/-- A report raised after a change of the valves alone stands as it would have before. -/
theorem reports_modValve (n : ValveIx) (f : Valve → Valve) (k : ReportKind) (a b c : Option Nat) (s : State) :
    Reports k a b c s (raise k a b c (s.modValve n f)) :=
  raise_congr k a b c rfl rfl rfl rfl

/-! ### Entering a state (R160, R162) -/

section
variable (n : ValveIx) (s : State)

theorem moveValve_changed (st : ValveState) (t : Option Timer) :
    ValveChanged n (fun x => { x with state := st, travel := t }) s (moveValve n st t s) := .raise ..

theorem moveValve_reports (st : ValveState) (t : Option Timer) :
    Reports .valveMoved (some n.val) (some st.code) (some s.resp.valve[n].state.code) s (moveValve n st t s) :=
  reports_modValve ..

theorem moveValve_flag (st : ValveState) (t : Option Timer) : (moveValve n st t s).link.flags.valve = true := by
  rw [moveValve, raise_flags]
  rfl

theorem faultValve_changed (k : Nat) :
    ValveChanged n (fun x => { x with state := .fault, travel := none }) s (faultValve n k s) := .raise ..

/-- The contact levels that VALVE FAULT shows are those of the valve's record (R162). -/
theorem faultValve_reports (k : Nat) :
    Reports .valveFault (some n.val) (some k) (some s.resp.valve[n].contacts) s (faultValve n k s) := by
  rw [faultValve, State.modValve_same]
  exact reports_modValve ..

/-! ### Driven closed and open (R161, R163) -/

/-- A valve's record after it is driven closed: CLOSING with a fresh travel timer, or CLOSED where the contact is already
present. -/
def Valve.drivenClosed (t : Timer) (x : Valve) : Valve :=
  { x with state := if x.closedContact then .closed else .closing, travel := if x.closedContact then none else some t }

/-- A valve's record after it is driven open. -/
def Valve.drivenOpen (t : Timer) (x : Valve) : Valve :=
  { x with state := if x.openContact then .opened else .opening, travel := if x.openContact then none else some t }

theorem driveClosed_changed : ValveChanged n (Valve.drivenClosed (s.timer s.cfg.travel)) s (driveClosed n s) := by
  have hmove := moveValve_changed n s .closing (some (s.timer s.cfg.travel))
  simp only [driveClosed, hmove.valve]
  split
  · next h => exact (hmove.trans (moveValve_changed ..)).congr (by simp only [Valve.drivenClosed, if_pos h])
  · next h => exact hmove.congr (by simp only [Valve.drivenClosed, if_neg h])

theorem driveOpen_changed : ValveChanged n (Valve.drivenOpen (s.timer s.cfg.travel)) s (driveOpen n s) := by
  have hmove := moveValve_changed n s .opening (some (s.timer s.cfg.travel))
  simp only [driveOpen, hmove.valve]
  split
  · next h => exact (hmove.trans (moveValve_changed ..)).congr (by simp only [Valve.drivenOpen, if_pos h])
  · next h => exact hmove.congr (by simp only [Valve.drivenOpen, if_neg h])

/-- Without the contact the one report is that of CLOSING. -/
theorem driveClosed_reports (h : s.resp.valve[n].closedContact = false) :
    Reports .valveMoved (some n.val) (some 1) (some s.resp.valve[n].state.code) s (driveClosed n s) := by
  simp only [driveClosed, (moveValve_changed n s .closing _).valve, h]
  exact moveValve_reports n s .closing _

theorem driveOpen_reports (h : s.resp.valve[n].openContact = false) :
    Reports .valveMoved (some n.val) (some 3) (some s.resp.valve[n].state.code) s (driveOpen n s) := by
  simp only [driveOpen, (moveValve_changed n s .opening _).valve, h]
  exact moveValve_reports n s .opening _

theorem driveClosed_flag : (driveClosed n s).link.flags.valve = true := by
  simp only [driveClosed]
  split <;> exact moveValve_flag ..

theorem driveOpen_flag : (driveOpen n s).link.flags.valve = true := by
  simp only [driveOpen]
  split <;> exact moveValve_flag ..

end

end Sys2Proof.Machine
end

section
/-! The override window, the valve contacts and the travel timer (R156, R162). -/

namespace Sys2Proof.Machine

/-! ### The contacts -/

section
variable {v : ValveIx} {s : State}

/-- A closed contact at a valve that is not CLOSING is recorded (R162). -/
theorem takeContact_closed_still (h : s.resp.valve[v].state ≠ .closing) :
    takeContact v .closed s = s.modValve v fun x => { x with closedContact := true } := by
  simp only [takeContact, State.modValve_same]
  exact if_neg h

theorem takeContact_closed_closing (h : s.resp.valve[v].state = .closing) :
    takeContact v .closed s = moveValve v .closed none (s.modValve v fun x => { x with closedContact := true }) := by
  simp only [takeContact, State.modValve_same]
  exact if_pos h

theorem takeContact_opened_still (h : s.resp.valve[v].state ≠ .opening) :
    takeContact v .opened s = s.modValve v fun x => { x with openContact := true } := by
  simp only [takeContact, State.modValve_same]
  exact if_neg h

theorem takeContact_opened_opening (h : s.resp.valve[v].state = .opening) :
    takeContact v .opened s = moveValve v .opened none (s.modValve v fun x => { x with openContact := true }) := by
  simp only [takeContact, State.modValve_same]
  exact if_pos h

/-- A move of a valve whose record has just been changed: the report names the state it had before. -/
theorem moveValve_modValve_reports (f : Valve → Valve) (st : ValveState) (t : Option Timer)
    (h : (f s.resp.valve[v]).state = s.resp.valve[v].state) :
    Reports .valveMoved (some v.val) (some st.code) (some s.resp.valve[v].state.code) s
      (moveValve v st t (s.modValve v f)) := by
  have hr := moveValve_reports v (s.modValve v f) st t
  rw [State.modValve_same, h] at hr
  exact Reports.of_same (t := s.modValve v f) rfl rfl rfl rfl hr

/-! ### The travel timer -/

theorem takeTravelExpiry_stopped (h : s.resp.valve[v].travel = none) : takeTravelExpiry v s = s := by
  rw [takeTravelExpiry, h]
  rfl

/-- The travel timer of a moving valve: FAULT with cause 1 from CLOSING and 2 from OPENING (R162). -/
theorem takeTravelExpiry_moving (h : s.resp.valve[v].travel.isSome)
    (hm : s.resp.valve[v].state = .closing ∨ s.resp.valve[v].state = .opening) :
    takeTravelExpiry v s = faultValve v (if s.resp.valve[v].state = .closing then 1 else 2) s := by
  rw [takeTravelExpiry, if_pos h]
  rcases hm with hm | hm <;> simp only [hm] <;> rfl

end

/-- Settles O25: the window's expiry, each contact by the valve's state, the contacts' absence, and the travel timer. -/
theorem windowContactsAndTravel : Obligations.WindowContactsAndTravel := by
  refine ⟨fun s hp => .of_event (f := takeWindowExpiry) rfl hp, fun v s hp => ⟨fun h => ?_, fun h => ?_⟩,
    fun v s hp => ⟨fun h => ?_, fun h => ?_⟩, fun v s hp => ⟨.of_event rfl hp, .of_event rfl hp⟩,
    fun v s hp => ⟨fun h => ?_, fun h hm => ?_⟩⟩
  · exact .of_event_eq rfl hp (takeContact_closed_still h)
  · refine ⟨_, .of_event_eq rfl hp (takeContact_closed_closing h), ?_, ?_⟩
    · exact ((ValveChanged.modValve ..).trans (moveValve_changed ..)).resp
    · have hr := moveValve_modValve_reports (v := v) (s := s) (fun x => { x with closedContact := true }) .closed none rfl
      rwa [h] at hr
  · exact .of_event_eq rfl hp (takeContact_opened_still h)
  · refine ⟨_, .of_event_eq rfl hp (takeContact_opened_opening h), ?_, ?_⟩
    · exact ((ValveChanged.modValve ..).trans (moveValve_changed ..)).resp
    · have hr := moveValve_modValve_reports (v := v) (s := s) (fun x => { x with openContact := true }) .opened none rfl
      rwa [h] at hr
  · exact .of_event_eq rfl hp (takeTravelExpiry_stopped h)
  · have hf := faultValve_changed v s (if s.resp.valve[v].state = .closing then 1 else 2)
    exact ⟨_, .of_event_eq rfl hp (takeTravelExpiry_moving h hm), hf.resp, faultValve_reports .., hf.chans, hf.budget,
      hf.run, hf.shelf, hf.source, hf.work, hf.sameRest⟩

end Sys2Proof.Machine
end

section
/-! VALVE CLOSE and VALVE OPEN (R161, R163). -/

namespace Sys2Proof.Machine

/-! ### The host's demand -/

section
variable {v : ValveIx} {s : State}

/-- The host demands a valve closed that already is, or is on its way (R163). -/
theorem closeByHost_still (h : s.resp.valve[v].state = .closing ∨ s.resp.valve[v].state = .closed) :
    closeByHost v s = s.modValve v fun x => { x with hostClose := true } := by
  simp only [closeByHost, State.modValve_same]
  rcases h with h | h <;> simp only [h]

theorem openByHost_still (h : s.resp.valve[v].state = .opening ∨ s.resp.valve[v].state = .opened) :
    openByHost v s = s.modValve v fun x => { x with hostClose := false } := by
  simp only [openByHost, State.modValve_same]
  rcases h with h | h <;> simp only [h]

/-! ### The two commands -/

/-- What the host's command makes of a valve that it drives, `f` being the change of its record and `code` that of the
state it enters: the valve alone is changed, the group's flag is set, and without the contact one report is raised. -/
structure HostDrives (v : ValveIx) (f : Valve → Valve) (contact : Valve → Bool) (code : Nat) (s u : State) : Prop where
  changed : ValveChanged v f s u
  reports : contact s.resp.valve[v] = false →
    Reports .valveMoved (some v.val) (some code) (some s.resp.valve[v].state.code) s u
  flag : u.link.flags.valve = true

theorem closeByHost_drives
    (h : s.resp.valve[v].state = .opened ∨ s.resp.valve[v].state = .opening ∨ s.resp.valve[v].state = .fault) :
    HostDrives v (fun x => { x with hostClose := true }.drivenClosed (s.timer s.cfg.travel)) Valve.closedContact 1 s
      (closeByHost v s) := by
  let t := s.modValve v fun x => { x with hostClose := true }
  have hdrive : closeByHost v s = driveClosed v t := by
    simp only [closeByHost, State.modValve_same]
    rcases h with h | h | h <;> simp only [h] <;> rfl
  rw [hdrive]
  refine ⟨(ValveChanged.modValve ..).trans (driveClosed_changed v t), fun hc => ?_, driveClosed_flag v t⟩
  have hr := driveClosed_reports v t (by simpa only [t, State.modValve_same] using hc)
  simp only [t, State.modValve_same] at hr
  exact Reports.of_same (t := t) rfl rfl rfl rfl hr

theorem openByHost_drives
    (h : s.resp.valve[v].state = .closed ∨ s.resp.valve[v].state = .closing ∨ s.resp.valve[v].state = .fault) :
    HostDrives v (fun x => { x with hostClose := false }.drivenOpen (s.timer s.cfg.travel)) Valve.openContact 3 s
      (openByHost v s) := by
  let t := s.modValve v fun x => { x with hostClose := false }
  have hdrive : openByHost v s = driveOpen v t := by
    simp only [openByHost, State.modValve_same]
    rcases h with h | h | h <;> simp only [h] <;> rfl
  rw [hdrive]
  refine ⟨(ValveChanged.modValve ..).trans (driveOpen_changed v t), fun hc => ?_, driveOpen_flag v t⟩
  have hr := driveOpen_reports v t (by simpa only [t, State.modValve_same] using hc)
  simp only [t, State.modValve_same] at hr
  exact Reports.of_same (t := t) rfl rfl rfl rfl hr

theorem doValveClose_val (v : ValveIx) (s : State) :
    doValveClose (some (v.val : Int)) s =
      (closeByHost v s, okWith [fWord "st" (closeByHost v s).resp.valve[v].state.word]) := withIndex_val ..

theorem doValveOpen_refused (h : s.resp.valve[v].zones ≠ []) :
    doValveOpen (some (v.val : Int)) s = (s, errReply .state) := by
  rw [doValveOpen, withIndex_val]
  exact if_neg (by simpa using h)

theorem doValveOpen_val (h : s.resp.valve[v].zones = []) :
    doValveOpen (some (v.val : Int)) s =
      (openByHost v s, okWith [fWord "st" (openByHost v s).resp.valve[v].state.word]) := by
  rw [doValveOpen, withIndex_val]
  exact if_pos (by simpa using h)

end

/-- What a change of one valve keeps of the state before the line (R163). -/
theorem ValveChanged.keeps {l : LineId} {i : Instr} {v : ValveIx} {f : Valve → Valve} {s u : State}
    (h : ValveChanged v f (found l i s) u) : u.cfg = s.cfg ∧ u.chans = s.chans ∧ u.budget = s.budget ∧ u.run = s.run ∧
      u.shelf = s.shelf ∧ u.source = (found l i s).source ∧ u.zones = s.zones ∧ u.work = s.work :=
  ⟨h.sameRest.cfg.trans (found_cfg ..), h.chans.trans (found_chans ..), h.budget.trans (found_budget ..),
    h.run.trans (found_run ..), h.shelf.trans (found_shelf ..), h.source, h.sameRest.zones.trans (found_zones ..),
    h.work.trans (found_work ..)⟩

theorem drivenClosed_word (t : Timer) (x : Valve) :
    (x.drivenClosed t).state.word = if x.closedContact then "CLOSED" else "CLOSING" := by
  simp only [Valve.drivenClosed]
  split <;> rfl

theorem drivenOpen_word (t : Timer) (x : Valve) :
    (x.drivenOpen t).state.word = if x.openContact then "OPEN" else "OPENING" := by
  simp only [Valve.drivenOpen]
  split <;> rfl

/-- Settles O49: each command at a valve that stays, and at one that is driven; VALVE OPEN under a demand. -/
theorem valveCommandsByState : Obligations.ValveCommandsByState := by
  intro l v s
  let f := found l (.valveClose l (some (v.val : Int))) s
  let g := found l (.valveOpen l (some (v.val : Int))) s
  refine ⟨fun h => ⟨fun hx => ?_, fun hx => ?_⟩, fun h => ⟨fun hz => ?_, fun hz hx => ?_, fun hz hx => ?_⟩⟩
  · have hrun := doValveClose_val v f
    rw [closeByHost_still (by rwa [found_valve]), State.modValve_same, found_valve] at hrun
    refine .of_runCommand rfl h (hrun.trans ?_)
    simp only [f, State.modValve, State.modResp, found_valve]
  · obtain ⟨hchanged, hreports, hflag⟩ := closeByHost_drives (v := v) (s := f) (by rwa [found_valve])
    have hrun := doValveClose_val v f
    rw [hchanged.valve, drivenClosed_word, found_valve] at hrun
    rw [found_valve] at hreports
    refine ⟨_, .of_runCommand rfl h hrun, hchanged.resp.trans ?_, hreports, hflag, hchanged.keeps⟩
    simp only [f, State.modValve, State.modResp, Valve.drivenClosed, State.timer, found_valve, found_now, found_cfg]
  · exact .of_runCommand rfl h (doValveOpen_refused (by rwa [found_valve]))
  · have hrun := doValveOpen_val (v := v) (s := g) (by rwa [found_valve])
    rw [openByHost_still (by rwa [found_valve]), State.modValve_same, found_valve] at hrun
    refine .of_runCommand rfl h (hrun.trans ?_)
    simp only [g, State.modValve, State.modResp, found_valve]
  · obtain ⟨hchanged, hreports, hflag⟩ := openByHost_drives (v := v) (s := g) (by rwa [found_valve])
    have hrun := doValveOpen_val (v := v) (s := g) (by rwa [found_valve])
    rw [hchanged.valve, drivenOpen_word, found_valve] at hrun
    rw [found_valve] at hreports
    refine ⟨_, .of_runCommand rfl h hrun, hchanged.resp.trans ?_, hreports, hflag, hchanged.keeps⟩
    simp only [g, State.modValve, State.modResp, Valve.drivenOpen, State.timer, found_valve, found_now, found_cfg]

end Sys2Proof.Machine
end

section
/-! The override of a leak hold (R155 to R159). -/

namespace Sys2Proof.Machine

/-! ### The tests (R155) -/

section
variable {c : Ch} {s : State}

/-- Tests 2 to 4 of R155: the channel is not OFF, is held by no zone, or is held by an ESCALATED one. -/
def OverrideUnfit (s : State) (c : Ch) : Prop :=
  (s.ch c).state ≠ .off ∨ (s.ch c).holds = [] ∨ ∃ z ∈ (s.ch c).holds, s.zones[z].state = .escalated

theorem overrideTest_locked (h : s.resp.lockout = true) : overrideTest s c = some .locked := if_pos h

theorem overrideTest_unfit (h : s.resp.lockout = false) (hu : OverrideUnfit s c) : overrideTest s c = some .state := by
  rw [overrideTest, if_neg (by simp [h])]
  rcases hu with hoff | hheld | ⟨z, hz, hesc⟩
  · rw [if_pos hoff]
  · rw [if_pos (by simp [hheld] : (s.ch c).holds.isEmpty = true), ite_self]
  · have hany : ((s.ch c).holds.any fun z => s.zones[z].state == .escalated) = true :=
      List.any_eq_true.mpr ⟨z, hz, by simpa using hesc⟩
    rw [if_pos hany, ite_self, ite_self]

theorem overrideTest_fit (h : s.resp.lockout = false) (hu : ¬ OverrideUnfit s c) : overrideTest s c = none := by
  simp only [OverrideUnfit, not_or, not_not, not_exists, not_and] at hu
  obtain ⟨hoff, hheld, hesc⟩ := hu
  have hany : ¬ ((s.ch c).holds.any fun z => s.zones[z].state == .escalated) = true := fun hany =>
    have ⟨z, hz, he⟩ := List.any_eq_true.mp hany
    hesc z hz (by simpa using he)
  rw [overrideTest, if_neg (by simp [h]), if_neg (not_not.mpr hoff), if_neg (by simpa using hheld), if_neg hany]

end

/-! ### OVERRIDE PREPARE -/

section
variable {p : Port} {c : Ch} {s : State} {k : Code}

theorem doOverridePrepare_refused (h : overrideTest s c = some k) :
    doOverridePrepare p (some (c.val : Int)) s = (s, errReply k) := by
  rw [doOverridePrepare, withIndex_val]
  simp only [h]
  rfl

theorem doOverridePrepare_opens (h : overrideTest s c = none) :
    doOverridePrepare p (some (c.val : Int)) s =
      ({ s with resp := { s.resp with seq := some ⟨p, c, ⟨s.now, 2000⟩⟩ } }, okWith [fNum "win" 2000]) := by
  rw [doOverridePrepare, withIndex_val]
  simp only [h]
  rfl

/-! ### OVERRIDE COMMIT -/

/-- The state in which no sequence is live (R156). -/
def overrideEnded (s : State) : State := { s with resp := { s.resp with seq := none } }

theorem overrideEnded_sameRest (s : State) : SameRest s (overrideEnded s) :=
  ⟨rfl, rfl, rfl, rfl, rfl, rfl, rfl, rfl, rfl, rfl⟩

theorem cancelOverride_live {q : OverrideSeq} (hq : s.resp.seq = some q) (hp : q.port = p) :
    cancelOverride p s = overrideEnded s := by
  simp only [cancelOverride, hq]
  exact if_pos hp

theorem doOverrideCommit_val (p : Port) (c : Ch) (s : State) :
    doOverrideCommit p (some (c.val : Int)) s = commitOverride p c s := by
  simp only [doOverrideCommit, index?_val]

/-- Without a live sequence on its port the commit is refused (R157). -/
theorem commitOverride_no_sequence (h : ∀ q, s.resp.seq = some q → q.port ≠ p) :
    commitOverride p c s = (s, errReply .sequence) := by
  simp only [commitOverride]
  split
  · rfl
  · next q hq => exact if_pos (h q hq)

section
variable {q : OverrideSeq} (hq : s.resp.seq = some q) (hp : q.port = p)
include hq hp

theorem commitOverride_other (hc : q.chan ≠ c) : commitOverride p c s = (overrideEnded s, errReply .sequence) := by
  simp only [commitOverride, hq, cancelOverride_live hq hp]
  rw [if_neg (not_not.mpr hp), if_pos hc]
  rfl

theorem commitOverride_refused (hc : q.chan = c) (ht : overrideTest (overrideEnded s) c = some k) :
    commitOverride p c s = (overrideEnded s, errReply k) := by
  simp only [commitOverride, hq, cancelOverride_live hq hp, ht]
  rw [if_neg (not_not.mpr hp), if_neg (not_not.mpr hc)]
  rfl

theorem commitOverride_applies (hc : q.chan = c) (ht : overrideTest (overrideEnded s) c = none) :
    commitOverride p c s = (applyOverride p c (overrideEnded s), okReply) := by
  simp only [commitOverride, hq, cancelOverride_live hq hp, ht]
  rw [if_neg (not_not.mpr hp), if_neg (not_not.mpr hc)]

end

/-- The override mark is set and reported with the number of zones that hold the channel (R157). -/
theorem applyOverride_reports (p : Port) (c : Ch) (s : State) :
    Reports .overrideApplied (some c.val) (some (s.ch c).holds.length)
      (some (match p with | .manager => 0 | .service => 1)) s (applyOverride p c s) := by
  simp only [applyOverride, State.modCh_ch_same]
  exact Reports.of_same (t := s.modCh c fun r => { r with override := true }) rfl rfl rfl rfl ⟨rfl, rfl⟩

theorem applyOverride_ch (p : Port) (c d : Ch) (s : State) :
    (applyOverride p c s).ch d = (s.modCh c fun r => { r with override := true }).ch d := raise_ch ..

theorem applyOverride_sameRest (p : Port) (c : Ch) (s : State) : SameRest s (applyOverride p c s) :=
  (modCh_sameRest c _ s).trans (raise_sameRest ..)

end

/-! ### The state the line finds -/

/-- An OVERRIDE COMMIT finds the sequence as it is (R156). -/
theorem found_overrideCommit_resp (l : LineId) (x : Option Int) (s : State) :
    (found l (.overrideCommit l x) s).resp = s.resp := by
  obtain ⟨y, h⟩ := lineHeard_spec l.port s
  show (lineHeard l.port s).resp = s.resp
  rw [h]

theorem overrideUnfit_found (l : LineId) (i : Instr) (s : State) (c : Ch) :
    OverrideUnfit (found l i s) c ↔ OverrideUnfit s c := by
  simp only [OverrideUnfit, found_ch, found_zones]

/-- Settles O48: PREPARE test by test; COMMIT by the sequence on its port, its channel and the tests; COMMIT without ch=;
LOCKOUT. -/
theorem overrideTakesTwoLines : Obligations.OverrideTakesTwoLines := by
  intro l c s
  let f := found l (.overridePrepare l (some (c.val : Int))) s
  let g := found l (.overrideCommit l (some (c.val : Int))) s
  have hended : overrideEnded g = { g with resp := { s.resp with seq := none } } := by
    rw [overrideEnded, found_overrideCommit_resp]
  have hseq : ∀ q, s.resp.seq = some q → g.resp.seq = some q := fun q hq => by rwa [found_overrideCommit_resp]
  refine ⟨fun h => ⟨fun hl => ?_, fun hl hu => ?_, fun hl hu => ?_⟩, fun h => ⟨fun hq => ?_, fun q hq hp =>
    ⟨fun hc => ?_, fun hc hl => ?_, fun hc hl hu => ?_, fun hc hl hu => ?_⟩⟩, fun q hq hp h => ?_,
    fun h => .of_runCommand rfl h rfl⟩
  · exact .of_runCommand rfl h (doOverridePrepare_refused (overrideTest_locked (by rwa [found_lockout])))
  · exact .of_runCommand rfl h (doOverridePrepare_refused
      (overrideTest_unfit (by rwa [found_lockout]) ((overrideUnfit_found ..).mpr hu)))
  · have hrun := doOverridePrepare_opens (p := l.port) (s := f)
      (overrideTest_fit (by rwa [found_lockout]) (mt (overrideUnfit_found ..).mp hu))
    obtain ⟨y, hy⟩ := found_resp l (.overridePrepare l (some (c.val : Int))) s
    refine .of_runCommand rfl h (hrun.trans ?_)
    simp only [f, hy, found_now]
  · exact .of_runCommand rfl h ((doOverrideCommit_val ..).trans
      (commitOverride_no_sequence fun q hs => hq q (by rwa [found_overrideCommit_resp] at hs)))
  · exact hended ▸ .of_runCommand rfl h ((doOverrideCommit_val ..).trans (commitOverride_other (hseq q hq) hp hc))
  · have ht : overrideTest (overrideEnded g) c = some .locked := overrideTest_locked (by rwa [hended])
    exact hended ▸ .of_runCommand rfl h ((doOverrideCommit_val ..).trans (commitOverride_refused (hseq q hq) hp hc ht))
  · have ht : overrideTest (overrideEnded g) c = some .state :=
      overrideTest_unfit (by rwa [hended]) ((overrideUnfit_found ..).mpr hu)
    exact hended ▸ .of_runCommand rfl h ((doOverrideCommit_val ..).trans (commitOverride_refused (hseq q hq) hp hc ht))
  · have ht : overrideTest (overrideEnded g) c = none :=
      overrideTest_fit (by rwa [hended]) (mt (overrideUnfit_found ..).mp hu)
    have hrun := (doOverrideCommit_val ..).trans (commitOverride_applies (hseq q hq) hp hc ht)
    have hreports := applyOverride_reports l.port c (overrideEnded g)
    rw [show (overrideEnded g).ch c = s.ch c from found_ch ..] at hreports
    refine ⟨_, .of_runCommand rfl h hrun, ?_, fun d hd => ?_, (raise_resp ..).trans (congrArg State.resp hended),
      Reports.of_same (t := overrideEnded g) rfl rfl rfl rfl hreports, (raise_budget ..).trans (found_budget ..),
      (raise_run ..).trans (found_run ..), (raise_shelf ..).trans (found_shelf ..), raise_source ..,
      (found_sameRest ..).trans ((overrideEnded_sameRest g).trans (applyOverride_sameRest ..))⟩
    · rw [applyOverride_ch, State.modCh_ch_same]
      exact congrArg (fun r : Channel => { r with override := true }) (found_ch ..)
    · rw [applyOverride_ch, State.modCh_ch_other _ _ hd]
      exact found_ch ..
  · have hend := cancelOverride_live (s := found l (.overrideCommit l none) s) (by rwa [found_overrideCommit_resp]) hp
    rw [overrideEnded, found_overrideCommit_resp] at hend
    exact .of_runCommand rfl h (congrArg (refuse .syntaxError) hend)

end Sys2Proof.Machine
end

section
/-! What the laws of the valves (R160), of the settings (R185) and of the restore policy (R128) see of a state, and the
operations that leave it alone. -/

namespace Sys2Proof.Machine

/-! ### The view of the three laws -/

/-- What R160, R185 and R128 speak of: the valves, the working configuration, the store, the silence stage and the
effective restore policy. -/
def lawView (s : State) : Vector Valve 4 × WorkCfg × Store × Nat × RestorePolicy :=
  (s.resp.valve, s.cfg, s.store, s.source.stage, s.source.policy)

/-- Each of the three laws holds after a change where it held before. -/
structure LawsKept (s t : State) : Prop where
  valves : ValveLaw s → ValveLaw t
  settings : SettingsLaw s → SettingsLaw t
  policy : PolicyLaw s → PolicyLaw t

section
variable {s t u : State}

theorem LawsKept.refl (s : State) : LawsKept s s := ⟨id, id, id⟩

theorem LawsKept.trans (h : LawsKept s t) (k : LawsKept t u) : LawsKept s u :=
  ⟨k.valves ∘ h.valves, k.settings ∘ h.settings, k.policy ∘ h.policy⟩

/-- States with one view keep the laws alike. -/
theorem LawsKept.of_view (h : lawView t = lawView s) : LawsKept s t := by
  simp only [lawView, Prod.mk.injEq] at h
  obtain ⟨hvalve, hcfg, hstore, hstage, hpolicy⟩ := h
  refine ⟨fun hs => ?_, fun hs => ?_, fun hs => ?_⟩
  · simpa only [ValveLaw, hvalve] using hs
  · simpa only [SettingsLaw, hcfg, hstore] using hs
  · simpa only [PolicyLaw, hcfg, hstage, hpolicy] using hs

/-- What comes after a change is seen like the state behind it. -/
theorem LawsKept.then_view (h : LawsKept s t) (hv : lawView u = lawView t) : LawsKept s u := h.trans (.of_view hv)

/-- What the fixed part and the source record leave alone. -/
theorem lawView_of_fixed (hf : t.fixed = s.fixed) (hs : t.source = s.source) : lawView t = lawView s := by
  have hcfg : t.cfg = s.cfg := congrArg Fixed.cfg hf
  have hstore : t.store = s.store := congrArg Fixed.store hf
  have hresp : t.resp = s.resp := congrArg Fixed.resp hf
  simp only [lawView, hcfg, hstore, hresp, hs]

end

/-- A loop whose turns keep the laws keeps them. -/
theorem forEach_lawsKept {α : Type} {f : α → State → State} (h : ∀ a s, LawsKept s (f a s)) (l : List α) (s : State) :
    LawsKept s (forEach l f s) :=
  forEach_keeps (LawsKept s) f (fun a t ht => ht.trans (h a t)) l s (.refl s)

/-! ### Updates -/

section
variable (s : State)

@[simp] theorem lawView_modBudget (f : Budget → Budget) : lawView (s.modBudget f) = lawView s := rfl
@[simp] theorem lawView_modShelf (f : Shelf → Shelf) : lawView (s.modShelf f) = lawView s := rfl
@[simp] theorem lawView_modLink (f : Link → Link) : lawView (s.modLink f) = lawView s := rfl
@[simp] theorem lawView_modTally (f : Tally → Tally) : lawView (s.modTally f) = lawView s := rfl
@[simp] theorem lawView_modWork (f : Work → Work) : lawView (s.modWork f) = lawView s := rfl
@[simp] theorem lawView_modRun (f : Run → Run) : lawView (s.modRun f) = lawView s := rfl
@[simp] theorem lawView_setRun (r : Option Run) : lawView (s.setRun r) = lawView s := rfl
@[simp] theorem lawView_setScan (t : Option Timer) : lawView (s.setScan t) = lawView s := rfl
@[simp] theorem lawView_modCh (c : Ch) (f : Channel → Channel) : lawView (s.modCh c f) = lawView s := rfl
@[simp] theorem lawView_modZone (z : Zone) (f : ZoneRec → ZoneRec) : lawView (s.modZone z f) = lawView s := rfl
@[simp] theorem lawView_modRect (n : RmSlot) (f : Rect → Rect) : lawView (s.modRect n f) = lawView s := rfl
@[simp] theorem lawView_modBatt (n : BmSlot) (f : Batt → Batt) : lawView (s.modBatt n f) = lawView s := rfl
@[simp] theorem lawView_modPort (p : Port) (f : PortCtx → PortCtx) : lawView (s.modPort p f) = lawView s := rfl
@[simp] theorem lawView_orders (n : Nat) : lawView { s with orders := n } = lawView s := rfl
@[simp] theorem lawView_pending (l : List Instr) : lawView { s with pending := l } = lawView s := rfl
@[simp] theorem lawView_markEval : lawView (markEval s) = lawView s := rfl
@[simp] theorem lawView_markExam : lawView (markExam s) = lawView s := rfl
@[simp] theorem lawView_markRide : lawView (markRide s) = lawView s := rfl
@[simp] theorem lawView_markRestore : lawView (markRestore s) = lawView s := rfl
@[simp] theorem lawView_markPlan (p : PlanWork) : lawView (markPlan p s) = lawView s := rfl
@[simp] theorem lawView_count (e : TallyEvent) : lawView (count e s) = lawView s := rfl
@[simp] theorem lawView_clearShed (c : Ch) : lawView (clearShed c s) = lawView s := rfl

@[simp] theorem lawView_raise (k : ReportKind) (a b c : Option Nat) : lawView (raise k a b c s) = lawView s :=
  lawView_of_fixed (raise_fixed ..) (raise_source ..)

@[simp] theorem lawView_enterState (c : Ch) (st : ChState) : lawView (enterState c st s) = lawView s := by
  simp [lawView]

/-- A change of the source record that leaves the stage and the policy alone. -/
theorem lawView_modSource (f : Source → Source) (hs : (f s.source).stage = s.source.stage)
    (hp : (f s.source).policy = s.source.policy) : lawView (s.modSource f) = lawView s := by
  simp only [lawView, State.modSource_resp, State.modSource_cfg, State.modSource_store, State.modSource_source, hs, hp]

/-- A change of the Leak Response Unit's records that leaves the valves alone. -/
theorem lawView_modResp (f : Response → Response) (h : (f s.resp).valve = s.resp.valve) :
    lawView (s.modResp f) = lawView s := by
  simp only [lawView, State.modResp_resp, State.modResp_cfg, State.modResp_store, State.modResp_source, h]

/-- Whichever way a test goes. -/
theorem lawView_ite (p : Prop) [Decidable p] (t u : State) (ht : lawView t = lawView s) (hu : lawView u = lawView s) :
    lawView (if p then t else u) = lawView s := by
  split
  · exact ht
  · exact hu

end

/-! ### The queue, the run's notices and channel states -/

section
variable (s : State)

@[simp] theorem watchHead_lawView : lawView (watchHead s) = lawView s :=
  lawView_of_fixed (watchHead_fixed s) (watchHead_source s)

@[simp] theorem headGone_lawView : lawView (headGone s) = lawView s :=
  lawView_of_fixed (headGone_fixed s) (headGone_source s)

@[simp] theorem lateCheck_lawView : lawView (lateCheck s) = lawView s :=
  lawView_of_fixed (lateCheck_fixed s) (lateCheck_source s)

@[simp] theorem skipMember_lawView (c : Ch) (n : Nat) : lawView (skipMember c n s) = lawView s :=
  lawView_of_fixed (skipMember_fixed c n s) (skipMember_source c n s)

@[simp] theorem memberLeft_lawView : lawView (memberLeft s) = lawView s :=
  lawView_of_fixed (memberLeft_fixed s) (memberLeft_source s)

@[simp] theorem noticeAdmitted_lawView (c : Ch) : lawView (noticeAdmitted c s) = lawView s := by
  simp only [noticeAdmitted]
  split
  · split <;> simp
  · rfl

@[simp] theorem switchOff_lawView (c : Ch) : lawView (switchOff c s) = lawView s :=
  lawView_of_fixed (switchOff_fixed c s) (switchOff_source c s)

@[simp] theorem withdraw_lawView (c : Ch) (w : Withdrawal) : lawView (withdraw c w s) = lawView s :=
  lawView_of_fixed (withdraw_fixed c w s) (withdraw_source c w s)

@[simp] theorem withdrawAll_lawView (l : List Ch) (w : Withdrawal) : lawView (withdrawAll l w s) = lawView s :=
  lawView_of_fixed (withdrawAll_fixed l w s) (withdrawAll_source l w s)

@[simp] theorem emptyQueue_lawView : lawView (emptyQueue s) = lawView s :=
  lawView_of_fixed (emptyQueue_fixed s) (emptyQueue_source s)

@[simp] theorem takeWarningExpiry_lawView (c : Ch) : lawView (takeWarningExpiry c s) = lawView s :=
  lawView_of_fixed (takeWarningExpiry_fixed c s) (takeWarningExpiry_source c s)

@[simp] theorem startWarning_lawView (c : Ch) : lawView (startWarning c s) = lawView s :=
  lawView_of_fixed (startWarning_fixed c s) (startWarning_source c s)

@[simp] theorem markForStop_lawView (c : Ch) (w : StopCause) : lawView (markForStop c w s) = lawView s := by
  cases w with
  | host | plan | source | leak => rfl
  | ladder | deficit => exact lawView_ite _ _ _ _ rfl rfl

@[simp] theorem gracefulStop_lawView (w : StopCause) (c : Ch) : lawView (gracefulStop w c s) = lawView s := by
  simp only [gracefulStop]
  split <;> simp

@[simp] theorem cut_lawView (w : StopCause) (c : Ch) : lawView (cut w c s) = lawView s := by
  simp only [cut]
  split <;> simp

@[simp] theorem reportFault_lawView (c : Ch) : lawView (reportFault c s) = lawView s := by
  simp [reportFault]

@[simp] theorem faultChannel_lawView (c : Ch) (k : FaultKind) : lawView (faultChannel c k s) = lawView s := by
  simp only [faultChannel, reportFault_lawView, lawView_enterState, lawView_modCh, lawView_clearShed]
  rfl

@[simp] theorem takePowerGoodRise_lawView (c : Ch) : lawView (takePowerGoodRise c s) = lawView s := by
  simp only [takePowerGoodRise]
  split <;> simp

@[simp] theorem takePowerGoodFall_lawView (c : Ch) : lawView (takePowerGoodFall c s) = lawView s := by
  simp only [takePowerGoodFall]
  split <;> simp

@[simp] theorem takeTrayFault_lawView (c : Ch) : lawView (takeTrayFault c s) = lawView s := by
  simp only [takeTrayFault]
  split <;> simp

@[simp] theorem takeRampExpiry_lawView (c : Ch) : lawView (takeRampExpiry c s) = lawView s :=
  lawView_ite _ _ _ _ (faultChannel_lawView ..) rfl

@[simp] theorem markStuck_lawView (c : Ch) : lawView (markStuck c s) = lawView s := by
  simp [markStuck]

@[simp] theorem takeConfirmExpiry_lawView (c : Ch) : lawView (takeConfirmExpiry c s) = lawView s := by
  simp only [takeConfirmExpiry]
  split
  · split
    · split
      case h_3 => split <;> simp
      all_goals simp
    · simp
  · rfl

@[simp] theorem admitChannel_lawView (c : Ch) : lawView (admitChannel c s) = lawView s := by
  simp only [admitChannel]
  split <;> split <;> simp

end

/-! ### The Budget Unit -/

section
variable (s : State)

@[simp] theorem deficitTest_lawView : lawView (deficitTest s) = lawView s := by
  simp only [deficitTest]
  split
  · split <;> simp
  · simp

@[simp] theorem distribute_lawView : lawView (distribute s) = lawView s := by
  have h : ∀ (l : List BmSlot) (x : State × Nat), lawView (l.foldl (fun x n => giveCharge n x) x).1 = lawView x.1 := by
    intro l
    induction l with
    | nil => intro x; rfl
    | cons n l ih => intro x; rw [List.foldl_cons, ih]; rfl
  exact h _ _

@[simp] theorem evaluate_lawView : lawView (evaluate s) = lawView s := by
  simp [evaluate]

@[simp] theorem shedTier_lawView (t : Nat) : lawView (shedTier t s) = lawView s := by
  rw [shedTier, lawView_raise]
  exact forEach_same lawView _ (fun c s => lawView_of_fixed (shedForDeficit_fixed c s) (shedForDeficit_source c s)) _ s

@[simp] theorem reportDeficit_lawView : lawView (reportDeficit s) = lawView s :=
  lawView_ite _ _ _ _ rfl (by simp)

@[simp] theorem takeGraceExpiry_lawView : lawView (takeGraceExpiry s) = lawView s := by
  simp only [takeGraceExpiry]
  split
  · split
    · split <;> simp [restartGrace]
    · rfl
  · rfl

@[simp] theorem join_lawView (n : EntryName) (o : Origin) : lawView (join n o s) = lawView s := by
  have hpend : ∀ l t, lawView (forEach l (fun c s => enterState c .pending s) t) = lawView t :=
    forEach_same lawView _ fun c t => lawView_enterState t c .pending
  simp only [join]
  split
  · split <;> simp [hpend]
  · rfl

@[simp] theorem admitHead_lawView (e : Entry) : lawView (admitHead e s) = lawView s := by
  have hadmit : ∀ l t, lawView (forEach l admitChannel t) = lawView t :=
    forEach_same lawView _ fun c t => admitChannel_lawView t c
  simp only [admitHead]
  split <;> simp [hadmit]

@[simp] theorem headWaits_lawView (e : Entry) : lawView (headWaits e s) = lawView s :=
  lawView_ite _ _ _ _ rfl (by simp)

@[simp] theorem examineSingle_lawView (e : Entry) : lawView (examineSingle e s) = lawView s :=
  lawView_ite _ _ _ _ rfl (lawView_ite _ _ _ _ (by simp) (by simp))

@[simp] theorem examine_lawView : lawView (examine s) = lawView s := by
  simp only [examine]
  split
  · rfl
  · split
    · simp
    · split
      · simp
      · split <;> simp

@[simp] theorem takeSpacingExpiry_lawView : lawView (takeSpacingExpiry s) = lawView s :=
  lawView_ite _ _ _ _ rfl rfl

@[simp] theorem takeLateExpiry_lawView : lawView (takeLateExpiry s) = lawView s :=
  lawView_ite _ _ _ _ (by simp) rfl

end

/-! ### The Sequence Engine -/

section
variable (s : State)

@[simp] theorem endRun_lawView (st : RunState) (n : Nat) : lawView (endRun st n s) = lawView s := by
  simp only [endRun]
  split <;> simp

@[simp] theorem completeStep_lawView : lawView (completeStep s) = lawView s := by
  simp only [completeStep]
  split
  · rfl
  · split
    · simp
    · split <;> simp

@[simp] theorem takeGapExpiry_lawView : lawView (takeGapExpiry s) = lawView s := by
  simp only [takeGapExpiry]
  split
  · split <;> simp
  · rfl

@[simp] theorem skipFailing_lawView (c : Ch) (t : State) : lawView (skipFailing s c t) = lawView t := by
  simp only [skipFailing]
  split <;> simp

@[simp] theorem startStep_lawView (p : PlanStep) : lawView (startStep p s) = lawView s := by
  have hskip : ∀ l t, lawView (forEach l (skipFailing s) t) = lawView t :=
    forEach_same lawView _ fun c t => skipFailing_lawView s c t
  simp only [startStep]
  split <;> simp [hskip]

@[simp] theorem executeStep_lawView : lawView (executeStep s) = lawView s := by
  have hstop : ∀ l t, lawView (forEach l (gracefulStop .plan) t) = lawView t :=
    forEach_same lawView _ fun c t => gracefulStop_lawView t .plan c
  simp only [executeStep]
  split
  · rfl
  · split
    case h_1 =>
      split
      · simp
      · split <;> simp
    case h_2 => simp [hstop]
    case h_3 => simp
    all_goals split <;> simp

@[simp] theorem planWork_lawView : lawView (planWork s) = lawView s := by
  simp only [planWork]
  split <;> simp

@[simp] theorem startRun_lawView (k : RunKind) (e : StepIx) (o : RunBy) : lawView (startRun k e o s) = lawView s := rfl

@[simp] theorem withdrawOutstanding_lawView (l : List Ch) : lawView (withdrawOutstanding l s) = lawView s := by
  simp [withdrawOutstanding]

@[simp] theorem pauseRun_lawView (c : RunBy) : lawView (pauseRun c s) = lawView s := by
  simp only [pauseRun]
  split
  · split <;> simp
  · rfl

@[simp] theorem resumeRun_lawView : lawView (resumeRun s) = lawView s := by
  simp only [resumeRun]
  split
  · split
    · simp
    · split <;> simp
  · rfl

@[simp] theorem abortRun_lawView (n : Nat) : lawView (abortRun n s) = lawView s := by
  simp only [abortRun]
  split
  · split <;> simp
  · rfl

@[simp] theorem planLeftGrid_lawView : lawView (planLeftGrid s) = lawView s := by
  simp only [planLeftGrid]
  split
  · split <;> simp
  · rfl

@[simp] theorem planEnteredGrid_lawView : lawView (planEnteredGrid s) = lawView s := by
  simp only [planEnteredGrid]
  split
  · split <;> split <;> simp
  · rfl

theorem drainPlan_lawView (n : Nat) : lawView (drainPlan n s) = lawView s := by
  induction n generalizing s with
  | zero => rfl
  | succ n ih =>
    simp only [drainPlan]
    split
    · rfl
    · rw [ih, planWork_lawView]

@[simp] theorem reserveRequest_lawView (d : Option StepIx) : lawView (reserveRequest d s) = lawView s := by
  simp only [reserveRequest]
  split <;> simp [drainPlan_lawView]

@[simp] theorem requestUpRun_lawView : lawView (requestUpRun s) = lawView s := by
  simp only [requestUpRun]
  split
  · rfl
  · split <;> simp

end

/-! ### The Source Controller -/

section
variable (s : State)

@[simp] theorem chargeFirstTest_lawView : lawView (chargeFirstTest s) = lawView s := lawView_ite _ _ _ _ rfl rfl

@[simp] theorem autoPlace_lawView (c : Ch) : lawView (autoPlace c s) = lawView s :=
  (lawView_modSource _ _ rfl rfl).trans (join_lawView ..)

@[simp] theorem autoRestore_lawView : lawView (autoRestore s) = lawView s :=
  lawView_ite _ _ _ _ (forEach_same lawView _ (fun c t => autoPlace_lawView t c) _ s) rfl

@[simp] theorem enterSource_lawView (st : SrcState) (o : Option ReturnFrom) : lawView (enterSource st o s) = lawView s :=
  rfl

@[simp] theorem raiseRideEnd_lawView (l n : Nat) : lawView (raiseRideEnd l n s) = lawView s := lawView_raise ..

@[simp] theorem beginRide_lawView (l : SrcState) : lawView (beginRide l s) = lawView s := by
  simp [beginRide]

@[simp] theorem rideFromGrid_lawView : lawView (rideFromGrid s) = lawView s := by
  simp only [rideFromGrid, beginRide_lawView, emptyQueue_lawView, planLeftGrid_lawView]
  exact (lawView_modSource _ _ rfl rfl).trans (enterSource_lawView ..)

@[simp] theorem testLoss_lawView : lawView (testLoss s) = lawView s := by
  simp only [testLoss]
  split
  · split <;> simp
  · rfl

@[simp] theorem enterGrid_lawView : lawView (enterGrid s) = lawView s := by
  simp only [enterGrid, lawView_modWork, raiseRideEnd_lawView, planEnteredGrid_lawView]
  rw [lawView_modSource _ _ rfl rfl, lawView_modSource _ _ rfl rfl, enterSource_lawView]

@[simp] theorem enterHandback_lawView : lawView (enterHandback s) = lawView s :=
  lawView_ite _ _ _ _ (by simp) ((lawView_modSource _ _ rfl rfl).trans (enterSource_lawView ..))

@[simp] theorem enterQualify_lawView (o : ReturnFrom) : lawView (enterQualify o s) = lawView s :=
  lawView_ite _ _ _ _ (by simp) ((lawView_modSource _ _ rfl rfl).trans (enterSource_lawView ..))

@[simp] theorem testReturn_lawView : lawView (testReturn s) = lawView s := by
  simp only [testReturn]
  split
  · split <;> simp
  · rfl

@[simp] theorem takeQualifyExpiry_lawView : lawView (takeQualifyExpiry s) = lawView s :=
  lawView_ite _ _ _ _ (by simp) rfl

@[simp] theorem takeWalkInExpiry_lawView : lawView (takeWalkInExpiry s) = lawView s :=
  lawView_ite _ _ _ _ (by simp) rfl

@[simp] theorem testAllOff_lawView : lawView (testAllOff s) = lawView s :=
  lawView_ite _ _ _ _ (by simp) rfl

theorem forEach_cut_lawView (w : StopCause) (l : List Ch) : lawView (forEach l (cut w) s) = lawView s :=
  forEach_same lawView _ (fun c t => cut_lawView t w c) l s

@[simp] theorem deplete_lawView : lawView (deplete s) = lawView s := by
  simp [deplete, forEach_cut_lawView]

@[simp] theorem shedLadderTier_lawView (a b t : Nat) : lawView (shedLadderTier a b t s) = lawView s := by
  have hstop : ∀ l u, lawView (forEach l (fun c s => count .channelsShed (gracefulStop .ladder c s)) u) = lawView u :=
    forEach_same lawView _ fun c u => by simp
  simp only [shedLadderTier]
  exact lawView_ite _ _ _ _ (lawView_ite _ _ _ _ (by simp [hstop]) (hstop ..)) rfl

@[simp] theorem ladder_lawView : lawView (ladder s) = lawView s :=
  (forEach_same lawView _ (fun t u => shedLadderTier_lawView u _ _ t) _ _).trans (lawView_modSource _ _ rfl rfl)

@[simp] theorem reserveStage_lawView : lawView (reserveStage s) = lawView s := by
  have htaken : lawView (s.modSource fun x => { x with reserveTaken := true }) = lawView s := rfl
  simp only [reserveStage]
  split
  · split <;> simp [forEach_cut_lawView, htaken]
  · rfl

@[simp] theorem rideEvaluation_lawView : lawView (rideEvaluation s) = lawView s := by
  have hstamp : lawView (s.modSource fun x => { x with lastEval := some s.now }) = lawView s := rfl
  simp only [rideEvaluation]
  split
  · split <;> simp [hstamp]
  · rfl

@[simp] theorem sourceTests_lawView : lawView (sourceTests s) = lawView s := by
  simp [sourceTests]

@[simp] theorem useOrder_lawView : lawView (useOrder s) = lawView s := lawView_ite _ _ _ _ rfl rfl

@[simp] theorem handOver_lawView : lawView (handOver s) = lawView s := by
  simp only [handOver]
  repeat' split
  all_goals simp

/-- The hand-overs of a step leave valves, settings, store, silence stage and restore policy alone. -/
@[simp] theorem settle_lawView : lawView (settle s) = lawView s :=
  settle_keeps (fun t => lawView t = lawView s) (fun t ht => (handOver_lawView t).trans ht) s rfl

end

/-! ### Shelf and bus -/

section
variable (s : State)

@[simp] theorem setRectState_lawView (n : RmSlot) (st : RectState) : lawView (setRectState n st s) = lawView s :=
  lawView_ite _ _ _ _ rfl (by simp)

@[simp] theorem setBattState_lawView (n : BmSlot) (st : BattState) : lawView (setBattState n st s) = lawView s :=
  lawView_ite _ _ _ _ rfl (by simp)

@[simp] theorem handRect_lawView : lawView (handRect s) = lawView s :=
  lawView_ite _ _ _ _ (lawView_ite _ _ _ _ (testLoss_lawView _) rfl) (by simp)

@[simp] theorem handBatt_lawView : lawView (handBatt s) = lawView s := lawView_ite _ _ _ _ rfl rfl

@[simp] theorem takeSample_lawView (x : SlotReport) : lawView (takeSample x s) = lawView s := by
  cases x <;> simp [takeSample, takeRectSample, takeBattSample]

@[simp] theorem checkFailure_lawView (p : SlotPos) : lawView (checkFailure p s) = lawView s := rfl

@[simp] theorem miss_lawView (p : SlotPos) : lawView (miss p s) = lawView s := by
  simp only [miss]
  split
  · exact lawView_ite _ _ _ _ (lawView_ite _ _ _ _ (by simp) rfl) rfl
  · exact lawView_ite _ _ _ _ (lawView_ite _ _ _ _ (by simp) rfl) rfl

@[simp] theorem beginRound_lawView : lawView (beginRound s) = lawView s := rfl

@[simp] theorem nextPoll_lawView (p : SlotPos) : lawView (nextPoll p s) = lawView s :=
  lawView_ite _ _ _ _ (lawView_ite _ _ _ _ rfl rfl) rfl

@[simp] theorem takeRoundExpiry_lawView : lawView (takeRoundExpiry s) = lawView s :=
  lawView_ite _ _ _ _ (lawView_ite _ _ _ _ rfl rfl) rfl

@[simp] theorem takeResponse_lawView (x : ShelfReply) : lawView (takeResponse x s) = lawView s := by
  simp only [takeResponse]
  split
  · rfl
  · split
    · rfl
    · simp only [endPoll]
      split <;> simp

@[simp] theorem takeResponseTimeout_lawView : lawView (takeResponseTimeout s) = lawView s := by
  simp only [takeResponseTimeout]
  split <;> simp [endPoll]

@[simp] theorem declareLow_lawView : lawView (declareLow s) = lawView s := by
  simp [declareLow]

@[simp] theorem takeBusSample_lawView (mv : Nat) : lawView (takeBusSample mv s) = lawView s := by
  simp only [takeBusSample]
  split
  · split <;> simp
  · split
    · split
      · simp
      · split <;> simp
    · simp

@[simp] theorem takeDebounceExpiry_lawView : lawView (takeDebounceExpiry s) = lawView s :=
  lawView_ite _ _ _ _ (by simp) rfl

end

/-! ### Zones, holds and the override sequence -/

section
variable (s : State)

@[simp] theorem captureEntry_lawView (z : Zone) (k : LeakCause) : lawView (captureEntry z k s) = lawView s := by
  obtain ⟨x, h⟩ := captureEntry_spec z k s
  rw [h]
  rfl

@[simp] theorem countLaterAlarm_lawView : lawView (countLaterAlarm s) = lawView s := rfl

@[simp] theorem joinHold_lawView (z : Zone) (c : Ch) : lawView (joinHold z c s) = lawView s :=
  lawView_ite _ _ _ _ rfl rfl

theorem leakStop_lawView {f : Ch → State → State} (h : ∀ c t, lawView (f c t) = lawView t) (c : Ch) :
    lawView (leakStop f c s) = lawView s :=
  lawView_ite _ _ _ _ rfl (h c s)

@[simp] theorem leaveHold_lawView (z : Zone) (c : Ch) : lawView (leaveHold z c s) = lawView s :=
  lawView_ite _ _ _ _ (lawView_ite _ _ _ _ rfl rfl) rfl

@[simp] theorem enableZone_lawView (z : Zone) : lawView (enableZone z s) = lawView s := lawView_ite _ _ _ _ rfl rfl

@[simp] theorem disableZone_lawView (z : Zone) : lawView (disableZone z s) = lawView s := by
  simp only [disableZone]
  split <;> simp

@[simp] theorem judgeWatch_lawView (z : Zone) : lawView (judgeWatch z s).1 = lawView s := by
  simp only [judgeWatch]
  split
  · split <;> simp [enterCableFault]
  · simp [enterWet]

@[simp] theorem sampleZone_lawView (z : Zone) (x : Nat) : lawView (sampleZone z x s).1 = lawView s := by
  simp only [sampleZone]
  split
  · rfl
  · generalize hu : (if _ = LoopClass.wet then count .leakWetSamples _ else _ : State) = u
    have hv : lawView u = lawView s := hu ▸ lawView_ite s _ _ _ rfl rfl
    split
    · simp [hv]
    · split
      · exact hv
      · split <;> simp [hv]
    all_goals exact hv

@[simp] theorem sampleAll_lawView (x : Vector Nat 16) : lawView (sampleAll x s).1 = lawView s := by
  have h : ∀ (l : List Zone) (y : State × List (Zone × LeakCause)), lawView (l.foldl (fun x' z =>
      let y := sampleZone z x[z] x'.1
      match y.2 with
      | some c => (y.1, x'.2 ++ [(z, c)])
      | none => (y.1, x'.2)) y).1 = lawView y.1 := by
    intro l
    induction l with
    | nil => intro y; rfl
    | cons z l ih =>
      intro y
      rw [List.foldl_cons, ih]
      dsimp only
      split <;> simp
  exact h _ _

@[simp] theorem cancelOverride_lawView (p : Port) : lawView (cancelOverride p s) = lawView s := by
  simp only [cancelOverride]
  split
  · exact lawView_ite _ _ _ _ rfl rfl
  · rfl

@[simp] theorem lineAtOverride_lawView (p : Port) (i : Instr) : lawView (lineAtOverride p i s) = lawView s := by
  simp only [lineAtOverride]
  split <;> simp

end

end Sys2Proof.Machine
end

section
/-! A valve with a demand stays CLOSING, CLOSED or in FAULT (R160): the operations over valves, contacts and demands, and
what a leak makes of them. -/

namespace Sys2Proof.Machine

/-! ### One valve -/

/-- What R160 says of one valve. -/
def Valve.Lawful (x : Valve) : Prop :=
  x.demanded = true → x.state = .closing ∨ x.state = .closed ∨ x.state = .fault

theorem Valve.Lawful.of_state {x : Valve} (h : x.state = .closing ∨ x.state = .closed ∨ x.state = .fault) : x.Lawful :=
  fun _ => h

theorem Valve.Lawful.of_undemanded {x : Valve} (h : x.demanded = false) : x.Lawful :=
  fun hd => absurd (h.symm.trans hd) nofun

/-- An OPEN or OPENING valve has no demand. -/
theorem Valve.Lawful.undemanded {x : Valve} (h : x.Lawful) (hs : x.state = .opened ∨ x.state = .opening) :
    x.demanded = false := by
  refine Bool.eq_false_iff.mpr fun hd => ?_
  have hl := h hd
  rcases hs with hs | hs <;> simp [hs] at hl

theorem Valve.drivenClosed_lawful (t : Timer) (x : Valve) : (x.drivenClosed t).Lawful := by
  refine .of_state ?_
  simp only [Valve.drivenClosed]
  split
  · exact .inr (.inl rfl)
  · exact .inl rfl

section
variable {n : ValveIx} {f : Valve → Valve} {s u : State}

theorem modValve_lawsKept (h : s.resp.valve[n].Lawful → (f s.resp.valve[n]).Lawful) : LawsKept s (s.modValve n f) := by
  refine ⟨fun hs v => ?_, id, id⟩
  rw [modValve_valve]
  split
  · exact h (hs n)
  · exact hs v

/-- A change of one valve with its reports. -/
theorem ValveChanged.lawsKept (hc : ValveChanged n f s u) (h : s.resp.valve[n].Lawful → (f s.resp.valve[n]).Lawful) :
    LawsKept s u :=
  (modValve_lawsKept h).then_view (by rw [hc.only]; simp only [lawView, hc.resp]; rfl)

end

/-! ### Movements, contacts and demands -/

section
variable (n : ValveIx) (s : State)

/-- A move to a state that a demand allows, or of a valve without one. -/
theorem moveValve_lawsKept {st : ValveState} (t : Option Timer)
    (h : s.resp.valve[n].Lawful → s.resp.valve[n].demanded = false ∨ st = .closing ∨ st = .closed ∨ st = .fault) :
    LawsKept s (moveValve n st t s) :=
  (moveValve_changed n s st t).lawsKept fun hl => (h hl).elim (fun hd => .of_undemanded hd) fun hs => .of_state hs

theorem joinDemand_lawsKept (z : Zone) : LawsKept s (joinDemand z n s) := by
  have hjoin := ValveChanged.modValve n (fun v => { v with zones := setInsert z v.zones }) s
  simp only [joinDemand]
  split
  · exact .refl s
  · split
    · exact (hjoin.trans (driveClosed_changed ..)).lawsKept fun _ => Valve.drivenClosed_lawful _ _
    · exact (hjoin.trans (driveClosed_changed ..)).lawsKept fun _ => Valve.drivenClosed_lawful _ _
    · next h => exact hjoin.lawsKept fun _ => .of_state (.inl h)
    · next h => exact hjoin.lawsKept fun _ => .of_state (.inr (.inl h))
    · next h => exact hjoin.lawsKept fun _ => .of_state (.inr (.inr h))

theorem takeContact_lawsKept (e : ValveEnd) : LawsKept s (takeContact n e s) := by
  cases e with
  | closed =>
    have hrecord := modValve_lawsKept (n := n) (f := fun v => { v with closedContact := true }) (s := s) id
    simp only [takeContact]
    split
    · exact hrecord.trans (moveValve_lawsKept _ _ _ fun _ => .inr (.inr (.inl rfl)))
    · exact hrecord
  | opened =>
    have hrecord := modValve_lawsKept (n := n) (f := fun v => { v with openContact := true }) (s := s) id
    simp only [takeContact]
    split
    · next h => exact hrecord.trans (moveValve_lawsKept _ _ _ fun hl => .inl (hl.undemanded (.inr h)))
    · exact hrecord

theorem dropContact_lawsKept (e : ValveEnd) : LawsKept s (dropContact n e s) := by
  cases e with
  | closed => exact modValve_lawsKept (f := fun v => { v with closedContact := false }) id
  | opened => exact modValve_lawsKept (f := fun v => { v with openContact := false }) id

theorem takeTravelExpiry_lawsKept : LawsKept s (takeTravelExpiry n s) := by
  have hfault : ∀ k, LawsKept s (faultValve n k s) := fun k =>
    (faultValve_changed n s k).lawsKept fun _ => .of_state (.inr (.inr rfl))
  simp only [takeTravelExpiry]
  split
  · split
    · exact hfault 1
    · exact hfault 2
    all_goals exact .refl s
  · exact .refl s

/-- A valve that a zone leaves has no demand that it did not have before (R161). -/
theorem leaveDemand_lawsKept (z : Zone) : LawsKept s (leaveDemand z n s) := by
  refine modValve_lawsKept fun hl hd => hl ?_
  simp only [Valve.demanded, Bool.or_eq_true, Bool.not_eq_true', List.isEmpty_eq_false_iff] at hd ⊢
  refine hd.imp_left fun hz hnil => hz ?_
  rw [hnil]
  rfl

theorem closeByHost_lawsKept : LawsKept s (closeByHost n s) := by
  have hdrive : ∀ h, LawsKept s (closeByHost n s) := fun h =>
    (closeByHost_drives h).changed.lawsKept fun _ => Valve.drivenClosed_lawful _ _
  cases h : s.resp.valve[n].state with
  | opened => exact hdrive (.inl h)
  | opening => exact hdrive (.inr (.inl h))
  | fault => exact hdrive (.inr (.inr h))
  | closing =>
    rw [closeByHost_still (.inl h)]
    exact modValve_lawsKept fun _ => .of_state (.inl h)
  | closed =>
    rw [closeByHost_still (.inr h)]
    exact modValve_lawsKept fun _ => .of_state (.inr (.inl h))

/-- The host opens a valve that no zone demands, and takes its own demand back (R163). -/
theorem openByHost_lawsKept (hz : s.resp.valve[n].zones = []) : LawsKept s (openByHost n s) := by
  have hno : ∀ x : Valve, x.zones = s.resp.valve[n].zones → x.hostClose = false → x.Lawful := fun x hx hh =>
    .of_undemanded (by rw [Valve.demanded, hx, hh, hz]; rfl)
  have hdrive : ∀ h, LawsKept s (openByHost n s) := fun h =>
    (openByHost_drives h).changed.lawsKept fun _ => hno _ rfl rfl
  cases h : s.resp.valve[n].state with
  | closed => exact hdrive (.inl h)
  | closing => exact hdrive (.inr (.inl h))
  | fault => exact hdrive (.inr (.inr h))
  | opening =>
    rw [openByHost_still (.inl h)]
    exact modValve_lawsKept fun _ => hno _ rfl rfl
  | opened =>
    rw [openByHost_still (.inr h)]
    exact modValve_lawsKept fun _ => hno _ rfl rfl

end

/-! ### Leaks (R150 to R153) -/

section
variable (s : State)

theorem forEach_joinHold_lawView (z : Zone) (l : List Ch) : lawView (forEach l (joinHold z) s) = lawView s :=
  forEach_same lawView _ (fun c t => joinHold_lawView t z c) l s

theorem forEach_leakStop_lawView {f : Ch → State → State} (h : ∀ c t, lawView (f c t) = lawView t) (l : List Ch) :
    lawView (forEach l (leakStop f) s) = lawView s :=
  forEach_same lawView _ (fun c t => leakStop_lawView t h c) l s

theorem respondChannels_lawView (z : Zone) (k : LeakCause) : lawView (respondChannels z k s) = lawView s := by
  rw [respondChannels]
  split
  · exact captureEntry_lawView s z k
  · rw [forEach_leakStop_lawView _ fun c t => gracefulStop_lawView t .leak c, forEach_joinHold_lawView,
      captureEntry_lawView]
  · rw [forEach_leakStop_lawView _ fun c t => cut_lawView t .leak c, forEach_joinHold_lawView, captureEntry_lawView]

theorem applyResponse_lawsKept (z : Zone) (k : LeakCause) : LawsKept s (applyResponse z k s) := by
  have hchans := LawsKept.of_view (respondChannels_lawView s z k)
  rw [applyResponse_eq]
  split
  · exact hchans.trans (joinDemand_lawsKept ..)
  · exact hchans

theorem escalateChannels_lawView (z : Zone) : lawView (escalateChannels z s) = lawView s := by
  rw [escalateChannels]
  split
  · rfl
  · rw [forEach_leakStop_lawView _ fun c t => gracefulStop_lawView t .leak c, forEach_joinHold_lawView,
      countLaterAlarm_lawView]
  · rw [forEach_cut_lawView, forEach_same lawView clearOverride fun _ _ => rfl, forEach_joinHold_lawView,
      countLaterAlarm_lawView]

theorem applyEscalation_lawsKept (z : Zone) : LawsKept s (applyEscalation z s) := by
  have hchans := LawsKept.of_view (escalateChannels_lawView s z)
  rw [applyEscalation_eq]
  split
  · exact hchans.trans (forEach_lawsKept (fun n t => joinDemand_lawsKept n t z) ..)
  · exact hchans

theorem takeLeakScan_lawsKept (x : Vector Nat 16) : LawsKept s (takeLeakScan x s) := by
  have hlatch : ∀ (y : Zone × LeakCause) (t : State), LawsKept t (latchZone y t) := fun y t => by
    simp only [latchZone]
    split
    · exact (applyResponse_lawsKept t y.1 y.2).then_view (lawView_raise ..)
    · exact applyResponse_lawsKept t y.1 y.2
  simp only [takeLeakScan]
  exact (LawsKept.of_view (lawView_ite _ _ _ _ (by simp) (by simp))).trans (forEach_lawsKept hlatch ..)

theorem takeEscalation_lawsKept (z : Zone) : LawsKept s (takeEscalation z s) := by
  simp only [takeEscalation]
  split
  · exact ((LawsKept.of_view (lawView_modZone ..)).trans (applyEscalation_lawsKept _ z)).then_view (lawView_raise ..)
  · exact .refl s

theorem clearZone_lawsKept (z : Zone) : LawsKept s (clearZone z s) := by
  have hholds : ∀ l t, lawView (forEach l (leaveHold z) t) = lawView t :=
    forEach_same lawView _ fun c t => leaveHold_lawView t z c
  exact (LawsKept.of_view ((hholds ..).trans (lawView_modZone ..))).trans
    (forEach_lawsKept (fun n t => leaveDemand_lawsKept n t z) ..)

end

end Sys2Proof.Machine
end

section
/-! The settings that a command stores lie in their ranges (R185), and the effective restore policy follows the configured
one (R128, R129). -/

namespace Sys2Proof.Machine

/-! ### Clamped numbers (R185) -/

theorem le_clampTo (lo hi : Nat) (x : Int) : lo ≤ clampTo lo hi x := by
  simp only [clampTo]; omega

section
variable {lo hi old : Nat} (x : Option Int)

theorem numArg_le (h : old ≤ hi) (hr : lo ≤ hi := by omega) : numArg lo hi x old ≤ hi := by
  cases x with
  | none => exact h
  | some x => exact clampTo_le x hr

theorem le_numArg (h : lo ≤ old) : lo ≤ numArg lo hi x old := by
  cases x with
  | none => exact h
  | some x => exact le_clampTo lo hi x

end

/-! ### The records of settings that the commands write -/

theorem applyChannelSet_inRange (a : ChannelSetArgs) {g : ChanCfg} (h : g.inRange) : (applyChannelSet a g).inRange := by
  obtain ⟨halloc, hinrush, hwarn, hramp, hramp'⟩ := h
  exact ⟨numArg_le _ halloc, numArg_le _ hinrush, numArg_le _ hwarn, le_numArg _ hramp, numArg_le _ hramp'⟩

theorem applyPolicy_inRange (a : PolicyArgs) {p : PolicyCfg} (h : p.inRange) : (applyPolicy a p).inRange := by
  obtain ⟨hk, hguard, hinrush, hgrace, hlate, hlate', hspacing⟩ := h
  exact ⟨numArg_le _ hk, numArg_le _ hguard, numArg_le _ hinrush, numArg_le _ hgrace, le_numArg _ hlate,
    numArg_le _ hlate', numArg_le _ hspacing⟩

/-- The final reserve is held below the target that the command leaves (R113). -/
theorem applyRide_inRange (a : RideArgs) {r : RideCfg} (h : r.inRange) : (applyRide a r).inRange := by
  obtain ⟨htarget, htarget', hreserve, -, heff, heff', hcap, hthr, hdeb, hqual, hwalk, hround, hround'⟩ := h
  exact ⟨le_numArg _ htarget, numArg_le _ htarget', (Nat.min_le_left ..).trans (numArg_le _ hreserve),
    Nat.min_le_right .., le_numArg _ heff, numArg_le _ heff', numArg_le _ hcap, numArg_le _ hthr, numArg_le _ hdeb,
    numArg_le _ hqual, numArg_le _ hwalk, le_numArg _ hround, numArg_le _ hround'⟩

theorem applyCharge_inRange (a : ChargeArgs) {g : ChargeCfg} (h : g.inRange) : (applyCharge a g).inRange := by
  obtain ⟨hfloor, hlimit, hwindow⟩ := h
  exact ⟨numArg_le _ hfloor, numArg_le _ hlimit, numArg_le _ hwindow⟩

/-- ZONE SET that leaves the wet level below the open level (R144). -/
theorem applyZone_inRange (a : ZoneArgs) (pats : List PatIx) {g : ZoneCfg} (h : g.inRange)
    (hw : (applyZone a pats g).wet < (applyZone a pats g).openLevel) : (applyZone a pats g).inRange := by
  obtain ⟨-, hopen, hesc, hcnt, hcnt'⟩ := h
  exact ⟨hw, numArg_le _ hopen, numArg_le _ hesc, le_numArg _ hcnt, numArg_le _ hcnt'⟩

/-! ### The working configuration with one part written -/

/-- What holds of every entry of a table and of a new one holds of every entry once the new one is written. -/
theorem forall_getElem_set {α : Type} {n : Nat} {P : α → Prop} {v : Vector α n} {x : α} (i : Fin n)
    (hv : ∀ j : Fin n, P v[j]) (hx : P x) (j : Fin n) : P (v.set i x)[j] := by
  by_cases h : i.val = j.val
  · simpa [Vector.getElem_set, h] using hx
  · simpa [Vector.getElem_set, h] using hv j

section
variable {w : WorkCfg} (h : w.inRange)
include h

theorem WorkCfg.inRange.set_chan (c : Ch) {g : ChanCfg} (hg : g.inRange) :
    ({ w with chan := w.chan.set c g } : WorkCfg).inRange :=
  have ⟨hchan, hrest⟩ := h
  ⟨forall_getElem_set c hchan hg, hrest⟩

theorem WorkCfg.inRange.set_step (n : StepIx) {p : PlanStep} (hp : p.gap ≤ 65535) (up down : Option StepIx) :
    ({ w with up := up, down := down, steps := w.steps.set n p } : WorkCfg).inRange :=
  have ⟨hchan, hsteps, hrest⟩ := h
  ⟨hchan, forall_getElem_set (P := fun p : PlanStep => p.gap ≤ 65535) n hsteps hp, hrest⟩

theorem WorkCfg.inRange.with_policy {p : PolicyCfg} (hp : p.inRange) : ({ w with policy := p } : WorkCfg).inRange :=
  have ⟨hchan, hsteps, _, hrest⟩ := h
  ⟨hchan, hsteps, hp, hrest⟩

theorem WorkCfg.inRange.with_ride {r : RideCfg} (hr : r.inRange) : ({ w with ride := r } : WorkCfg).inRange :=
  have ⟨hchan, hsteps, hpolicy, _, hrest⟩ := h
  ⟨hchan, hsteps, hpolicy, hr, hrest⟩

theorem WorkCfg.inRange.with_charge {g : ChargeCfg} (hg : g.inRange) : ({ w with charge := g } : WorkCfg).inRange :=
  have ⟨hchan, hsteps, hpolicy, hride, _, hrest⟩ := h
  ⟨hchan, hsteps, hpolicy, hride, hg, hrest⟩

theorem WorkCfg.inRange.set_zone (z : Zone) {g : ZoneCfg} (hg : g.inRange) :
    ({ w with zone := w.zone.set z g } : WorkCfg).inRange :=
  have ⟨hchan, hsteps, hpolicy, hride, hcharge, hzone, hrest⟩ := h
  ⟨hchan, hsteps, hpolicy, hride, hcharge, forall_getElem_set z hzone hg, hrest⟩

theorem WorkCfg.inRange.with_scan (x : Option Int) :
    ({ w with scanPeriod := numArg 20 1000 x w.scanPeriod } : WorkCfg).inRange :=
  have ⟨hchan, hsteps, hpolicy, hride, hcharge, hzone, hscan, hscan', hrest⟩ := h
  ⟨hchan, hsteps, hpolicy, hride, hcharge, hzone, le_numArg x hscan, numArg_le x hscan', hrest⟩

theorem WorkCfg.inRange.set_pat (n : PatIx) {p : Pattern} (hp : 1 ≤ p.min ∧ p.min ≤ 16) :
    ({ w with pats := w.pats.set n p } : WorkCfg).inRange :=
  have ⟨hchan, hsteps, hpolicy, hride, hcharge, hzone, hscan, hscan', hpats, hrest⟩ := h
  ⟨hchan, hsteps, hpolicy, hride, hcharge, hzone, hscan, hscan',
    forall_getElem_set (P := fun p : Pattern => 1 ≤ p.min ∧ p.min ≤ 16) n hpats hp, hrest⟩

theorem WorkCfg.inRange.with_travel (x : Option Int) :
    ({ w with travel := numArg 1000 60000 x w.travel } : WorkCfg).inRange :=
  have ⟨hchan, hsteps, hpolicy, hride, hcharge, hzone, hscan, hscan', hpats, htravel, htravel'⟩ := h
  ⟨hchan, hsteps, hpolicy, hride, hcharge, hzone, hscan, hscan', hpats, le_numArg x htravel, numArg_le x htravel'⟩

end

/-! ### The configured and the effective policy (R128, R129) -/

section
variable {s : State}

/-- Settings written that lie in their ranges and leave the configured policy alone. -/
theorem modCfg_lawsKept {f : WorkCfg → WorkCfg} (h : s.cfg.inRange → (f s.cfg).inRange)
    (hp : (f s.cfg).charge.policy = s.cfg.charge.policy) : LawsKept s (s.modCfg f) := by
  refine ⟨id, fun hs => ⟨h hs.1, hs.2⟩, fun hs => ⟨hs.1, hs.2.trans ?_⟩⟩
  rw [State.modCfg_cfg, hp]
  rfl

/-- The end of a silence leaves the configured policy effective (R128). -/
theorem endSilence_lawsKept (s : State) : LawsKept s (endSilence s) := by
  by_cases h : s.source.stage = 0
  · rw [endSilence_stage_zero h]
    exact .of_view (lawView_modSource _ _ rfl rfl)
  · obtain ⟨b, hb⟩ := setPolicy_spec s.cfg.charge.policy (s.modSource fun x => { x with stage := 0 })
    rw [endSilence, if_neg h, hb]
    exact ⟨id, id, fun _ => ⟨Nat.zero_le 2, rfl⟩⟩

/-- Each expiry of the silence timer goes one stage on, and stage 2 makes the policy AUTO (R127, R128). -/
theorem takeSilenceExpiry_lawsKept (s : State) : LawsKept s (takeSilenceExpiry s) := by
  by_cases hrun : s.source.silence.isSome
  · by_cases h0 : s.source.stage = 0
    · have hone : LawsKept s (s.modSource fun x => { x with stage := 1, silence := silenceTimer s }) := by
        refine ⟨id, id, fun hs => ⟨Nat.le_succ 1, ?_⟩⟩
        rw [PolicyLaw, h0] at hs
        exact hs.2
      rw [takeSilenceExpiry_stage_zero hrun h0]
      exact hone.then_view (lawView_raise ..)
    · by_cases h1 : s.source.stage = 1
      · have htwo : LawsKept s (setPolicy .auto (s.modSource fun x => { x with stage := 2, silence := none })) := by
          obtain ⟨b, hb⟩ := setPolicy_spec .auto (s.modSource fun x => { x with stage := 2, silence := none })
          rw [hb]
          exact ⟨id, id, fun _ => ⟨Nat.le_refl 2, rfl⟩⟩
        rw [takeSilenceExpiry_stage_one hrun h1]
        exact htwo.then_view (lawView_raise ..)
      · rw [takeSilenceExpiry, if_pos hrun, if_neg h0, if_neg h1]
        exact .of_view (lawView_modSource _ _ rfl rfl)
  · rw [takeSilenceExpiry, if_neg hrun]
    exact .refl s

/-- CHARGE SET: the configured policy becomes the effective one but at stage 2, which a changed window ends (R129). -/
theorem storeCharge_lawsKept {g : ChargeCfg} (h : s.cfg.inRange → g.inRange) : LawsKept s (storeCharge g s) := by
  obtain ⟨b, hb⟩ := storeCharge_spec g s
  rw [hb]
  refine ⟨id, fun hs => ⟨hs.1.with_charge (h hs.1), hs.2⟩, fun hs => ?_⟩
  obtain ⟨hstage, hpolicy⟩ := hs
  by_cases hw : g.window = s.cfg.charge.window
  · by_cases h2 : s.source.stage = 2
    · rw [h2] at hpolicy
      simp [PolicyLaw, sourceAfterChargeSet, hw, h2, hpolicy]
    · simp [PolicyLaw, sourceAfterChargeSet, hw, h2, hstage]
  · simp [PolicyLaw, sourceAfterChargeSet, hw]

/-! ### The other settings stored -/

theorem storeChanCfg_lawsKept (c : Ch) {g : ChanCfg} (h : s.cfg.inRange → g.inRange) : LawsKept s (storeChanCfg c g s) := by
  refine (modCfg_lawsKept (f := fun w => { w with chan := w.chan.set c g }) (fun hs => hs.set_chan c (h hs)) rfl).then_view ?_
  have heval : ∀ (p : Prop) [Decidable p] (t : State), lawView (if p then t else markEval t) = lawView t :=
    fun p _ t => lawView_ite _ _ _ _ rfl rfl
  have hshed : ∀ (p : Prop) [Decidable p] (t : State), lawView (if p then clearShed c t else t) = lawView t :=
    fun p _ t => lawView_ite _ _ _ _ rfl rfl
  simp only [storeChanCfg]
  exact lawView_ite _ _ _ _ ((lawView_markRestore _).trans ((hshed ..).trans (heval ..))) ((hshed ..).trans (heval ..))

theorem storePolicy_lawsKept {p : PolicyCfg} (h : s.cfg.inRange → p.inRange) : LawsKept s (storePolicy p s) := by
  refine (modCfg_lawsKept (f := fun w => { w with policy := p }) (fun hs => hs.with_policy (h hs)) rfl).then_view ?_
  exact (lawView_markEval _).trans (lawView_ite _ _ _ _ rfl (watchHead_lawView _))

theorem storeRide_lawsKept {r : RideCfg} (h : s.cfg.inRange → r.inRange) : LawsKept s (storeRide r s) := by
  obtain ⟨w, hw, -⟩ := storeRide_spec r s
  refine (modCfg_lawsKept (f := fun w => { w with ride := r }) (fun hs => hs.with_ride (h hs)) rfl).then_view ?_
  rw [hw]
  rfl

theorem storeScan_lawsKept (x : Option Int) (s : State) : LawsKept s (storeScan x s) :=
  modCfg_lawsKept (fun hs => hs.with_scan x) rfl

theorem storeTravel_lawsKept (x : Option Int) (s : State) : LawsKept s (storeTravel x s) :=
  modCfg_lawsKept (fun hs => hs.with_travel x) rfl

theorem storeZone_lawsKept (z : Zone) (en : Option Bool) {g : ZoneCfg} (h : s.cfg.inRange → g.inRange) :
    LawsKept s (storeZone z g en s) := by
  refine (modCfg_lawsKept (f := fun w => { w with zone := w.zone.set z g }) (fun hs => hs.set_zone z (h hs)) rfl).then_view ?_
  simp only [storeZone]
  split <;> simp

theorem storePlan_lawsKept (r : Option (StepIx × PlanStep)) (up down : Option StepIx)
    (h : ∀ i p, r = some (i, p) → p.gap ≤ 65535) : LawsKept s (storePlan r up down s) := by
  cases r with
  | none => exact modCfg_lawsKept id rfl
  | some x => exact modCfg_lawsKept (fun hs => hs.set_step x.1 (h x.1 x.2 rfl) up down) rfl

/-! ### The store and the factory defaults (R186 to R188) -/

/-- The store is written with settings in their ranges. -/
theorem setStore_lawsKept {x : Store} (h : SettingsLaw s → x.inRange) : LawsKept s (s.setStore x) :=
  ⟨id, fun hs => ⟨hs.1, h hs⟩, id⟩

/-- The factory defaults take effect with their policy, every silence ended (R188). -/
theorem loadDefaults_lawsKept (s : State) : LawsKept s (loadDefaults s) := by
  let t := forEach allZones enableZone { (s.modCfg fun _ => defaultCfg) with cfgFrom := .defaults }
  have ht : lawView t = lawView (s.modCfg fun _ => defaultCfg) :=
    forEach_same lawView _ (fun z u => enableZone_lawView u z) _ _
  let u := setPolicy defaultCfg.charge.policy (endSilence t)
  obtain ⟨p, b, hend⟩ := endSilence_spec t
  obtain ⟨b', hset⟩ := setPolicy_spec defaultCfg.charge.policy (endSilence t)
  simp only [lawView, Prod.mk.injEq, State.modCfg_resp, State.modCfg_cfg, State.modCfg_store] at ht
  obtain ⟨hvalve, hcfg, hstore, -, -⟩ := ht
  have hkept : LawsKept s u := by
    simp only [u, hset, hend]
    refine ⟨fun hs v => ?_, fun hs => ⟨?_, ?_⟩, fun _ => ⟨Nat.zero_le 2, ?_⟩⟩
    · simpa only [hvalve] using hs v
    · simpa only [hcfg] using defaultCfg_inRange
    · simpa only [hstore] using hs.2
    · simp only [hcfg]
      rfl
  refine hkept.then_view ?_
  simp only [loadDefaults, lawView_raise, lawView_markEval]
  exact lawView_ite _ _ _ _ (lawView_markRide _) rfl

end

end Sys2Proof.Machine
end

section
/-! Every event and every command line keeps valves with a demand closing or closed (R160), the settings in range (R185)
and the restore policy effective (R128). -/

namespace Sys2Proof.Machine

section
variable (s : State)

/-! ### Start, reset and power -/

theorem blank_lawsKept (p : Power) : LawsKept s (blank p s) := by
  obtain ⟨-, -, hvalve, ⟨hcfg, -⟩, hpolicy⟩ := lawsHoldAtReset
  refine ⟨fun _ => hvalve, fun hs => ⟨hcfg, ?_⟩, fun _ => hpolicy⟩
  have hstore : (blank p s).store = s.store.afterLoss := rfl
  rw [hstore]
  cases h : s.store with
  | invalid | writing copy t => trivial
  | valid image =>
    have himage := hs.2
    rwa [h] at himage

/-- A cold start loads settings in their ranges: the store's, or the factory defaults (R186). -/
theorem load_inRange {x : Store} (h : x.inRange) : x.load.1.inRange := by
  cases x with
  | invalid | writing copy t => exact defaultCfg_inRange
  | valid image => exact h

theorem coldBlocks_lawsKept (pins : PinSample) : LawsKept s (coldBlocks pins s) := by
  refine ⟨fun _ v => ?_, fun hs => ⟨load_inRange hs.2, hs.2⟩, fun _ => ⟨Nat.zero_le 2, rfl⟩⟩
  simp [coldBlocks, coldValve, Valve.demanded]

theorem completeLoad_lawsKept (pins : PinSample) : LawsKept s (completeLoad pins s) := by
  have hvalve : ∀ l t, lawView (forEach l reportColdValve t) = lawView t :=
    forEach_same lawView _ fun v t => lawView_ite _ _ _ _ (lawView_raise ..) rfl
  have hload : ∀ t, lawView (reportLoad t) = lawView t := fun t => by
    simp only [reportLoad]
    split <;> simp
  refine (coldBlocks_lawsKept s pins).then_view ?_
  simp only [completeLoad, lawView_markEval, hload, hvalve, beginRound_lawView]
  exact lawView_modSource _ _ rfl rfl

theorem warmBlocks_settings (k : ResetKind) :
    (warmBlocks k s).cfg = s.cfg ∧ (warmBlocks k s).store = s.store := by
  simp [warmBlocks, warmTally, warmLink, warmResp, warmZones, warmSource, warmShelf, warmBudget, warmChannels,
    beginRound, sendPoll]

theorem warmBlocks_policy (k : ResetKind) :
    (warmBlocks k s).source.stage = 0 ∧ (warmBlocks k s).source.policy = s.cfg.charge.policy := by
  simp [warmBlocks, warmTally, warmLink, warmResp, warmZones, warmSource, warmShelf, warmBudget, warmChannels,
    beginRound, sendPoll]

theorem warmBlocks_valve (k : ResetKind) (v : ValveIx) : (warmBlocks k s).resp.valve[v] =
    { s.resp.valve[v] with travel := s.restart s.resp.valve[v].travel s.cfg.travel } := by
  simp [warmBlocks, warmTally, warmLink, warmResp, warmZones, warmSource, warmShelf, warmBudget, warmChannels,
    beginRound, sendPoll, State.restart, State.timer]

/-- A warm reset leaves each valve but its travel timer, and makes the configured policy effective (R130, R167). -/
theorem warmBlocks_lawsKept (k : ResetKind) : LawsKept s (warmBlocks k s) := by
  obtain ⟨hcfg, hstore⟩ := warmBlocks_settings s k
  obtain ⟨hstage, hpolicy⟩ := warmBlocks_policy s k
  refine ⟨fun hs v => ?_, fun hs => ?_, fun _ => ?_⟩
  · rw [warmBlocks_valve]
    exact hs v
  · rwa [SettingsLaw, hcfg, hstore]
  · rw [PolicyLaw, hstage, hcfg]
    exact ⟨Nat.zero_le 2, hpolicy⟩

theorem warmReset_lawsKept (k : ResetKind) : LawsKept s (warmReset k s) := by
  refine (warmBlocks_lawsKept s k).then_view ?_
  rw [warmReset, resetTests, lawView_markRestore]
  have htests : lawView (if (warmBlocks k s).source.state = .ride then testReturn (evaluate (warmBlocks k s))
      else markEval (testLoss (warmBlocks k s))) = lawView (warmBlocks k s) :=
    lawView_ite _ _ _ _ (by simp) (by simp)
  exact (lawView_ite _ _ _ _ (lawView_markRide _) rfl).trans htests

theorem beginCommandReset_lawsKept : LawsKept s (beginCommandReset s) := by
  simp only [beginCommandReset]
  split
  · exact warmReset_lawsKept ..
  · exact .refl s

/-- The copy that has been written stands in the store (R187). -/
theorem completeSave_lawsKept : LawsKept s (completeSave s) := by
  simp only [completeSave]
  split
  · next copy t h =>
    refine (setStore_lawsKept fun hs => ?_).then_view (lawView_raise ..)
    have hcopy := hs.2
    rwa [h] at hcopy
  · exact .refl s
  · exact .refl s

theorem overdrawCheck_lawView (c : Ch) : lawView (overdrawCheck c s) = lawView s :=
  lawView_ite _ _ _ _ ((lawView_modCh ..).trans (lawView_raise ..)) rfl

theorem senseScan_lawView (x : Vector Int 24) : lawView (forEach allCh overdrawCheck (storeDraws x s)) = lawView s := by
  have hstore : lawView (storeDraws x s) = lawView s := by simp only [lawView, storeDraws]
  rw [forEach_same lawView overdrawCheck (fun c t => overdrawCheck_lawView t c), hstore]

/-! ### Commands -/

variable {s}

theorem withIndex_lawsKept {n : Nat} {x : Option Int} {k : Fin n → State × Reply} (hk : ∀ i, LawsKept s (k i).1) :
    LawsKept s (withIndex n x s k).1 := by
  simp only [withIndex]
  split
  · exact .refl s
  · split
    · exact .refl s
    · exact hk _

theorem withTarget_lawsKept {a : TargetArgs} {k : List Ch → State × Reply} (hk : ∀ l, LawsKept s (k l).1) :
    LawsKept s (withTarget a s k).1 := by
  simp only [withTarget]
  split
  · exact withIndex_lawsKept fun c => hk _
  · exact withIndex_lawsKept fun g => hk _
  · exact .refl s
  · exact .refl s

variable (s)

/-! Channels, budget and plan (Chapters 1 to 3). -/

theorem doChannelStart_lawsKept (a : TargetArgs) : LawsKept s (doChannelStart a s).1 := by
  simp only [doChannelStart]
  split
  · exact .refl s
  · refine withIndex_lawsKept fun c => ?_
    split
    · exact .refl s
    · split
      · exact .refl s
      · exact .of_view (join_lawView ..)

theorem doChannelStartGang_lawsKept (a : TargetArgs) : LawsKept s (doChannelStartGang a s).1 := by
  simp only [doChannelStartGang]
  split
  · exact .refl s
  · refine withIndex_lawsKept fun g => ?_
    split
    · exact .refl s
    · split
      · exact .refl s
      · exact .refl s
      · exact .of_view (join_lawView ..)

theorem doChannelStop_lawsKept (a : TargetArgs) : LawsKept s (doChannelStop a s).1 :=
  withTarget_lawsKept fun _ => .of_view (forEach_same lawView _ (fun c t => gracefulStop_lawView t .host c) _ s)

theorem doChannelCut_lawsKept (a : TargetArgs) : LawsKept s (doChannelCut a s).1 :=
  withTarget_lawsKept fun _ => .of_view (forEach_cut_lawView ..)

theorem doChannelClear_lawsKept (x : Option Int) : LawsKept s (doChannelClear x s).1 := by
  refine withIndex_lawsKept fun c => ?_
  split
  · exact .of_view (by simp [clearFault])
  · exact .refl s

theorem doChannelSet_lawsKept (x : Option Int) (a : ChannelSetArgs) : LawsKept s (doChannelSet x a s).1 := by
  simp only [doChannelSet]
  split
  · exact .refl s
  · refine withIndex_lawsKept fun c => ?_
    split
    · exact .refl s
    · split
      · exact .refl s
      · exact storeChanCfg_lawsKept c fun hs => applyChannelSet_inRange a (hs.1 c)

theorem doPolicySet_lawsKept (a : PolicyArgs) : LawsKept s (doPolicySet a s).1 := by
  simp only [doPolicySet]
  split
  · exact .refl s
  · exact storePolicy_lawsKept fun hs => applyPolicy_inRange a hs.2.2.1

theorem doBudgetRead_lawsKept (x : Option BudgetSel) : LawsKept s (doBudgetRead x s).1 := by
  simp only [doBudgetRead]
  split <;> exact .refl s

theorem doAdmissionRead_lawsKept (x : Option Int) : LawsKept s (doAdmissionRead x s).1 := by
  simp only [doAdmissionRead]
  split
  · exact .refl s
  · split
    · exact .refl s
    · split <;> exact .refl s

/-- The gap that a step record names is clamped (R71). -/
theorem stepRecord_gap {a : PlanWriteArgs} {i : StepIx} {p : PlanStep} (h : stepRecord? a = some (some (i, p))) :
    p.gap ≤ 65535 := by
  simp only [stepRecord?] at h
  split at h
  · split at h
    · cases h
      exact numArg_le _ (Nat.zero_le _)
    · cases h
  · cases h

theorem doPlanWrite_lawsKept (a : PlanWriteArgs) : LawsKept s (doPlanWrite a s).1 := by
  simp only [doPlanWrite]
  split
  · exact .refl s
  · split
    · next r up down hr _ _ =>
      have hgap : ∀ i p, r = some (i, p) → p.gap ≤ 65535 := fun i p he => stepRecord_gap (he ▸ hr)
      split
      · split
        · exact .refl s
        · exact storePlan_lawsKept _ up down hgap
      · exact storePlan_lawsKept _ up down hgap
    · exact .refl s

theorem doPlanRead_lawsKept (x : Option Int) : LawsKept s (doPlanRead x s).1 := by
  simp only [doPlanRead]
  split
  · split <;> exact .refl s
  · exact .refl s

theorem doPlanStart_lawsKept (k : Option RunKind) : LawsKept s (doPlanStart k s).1 := by
  simp only [doPlanStart]
  split
  · exact .refl s
  · split
    · exact .refl s
    · split
      · exact .refl s
      · split
        · exact .refl s
        · exact .of_view (startRun_lawView ..)

theorem doPlanPause_lawsKept : LawsKept s (doPlanPause s).1 := by
  simp only [doPlanPause]
  split
  · exact .refl s
  · split
    · exact .of_view (pauseRun_lawView ..)
    · exact .of_view (pauseRun_lawView ..)
    · exact .of_view (lawView_modRun ..)
    · exact .refl s
    · exact .refl s

theorem doPlanResume_lawsKept : LawsKept s (doPlanResume s).1 := by
  simp only [doPlanResume]
  split
  · exact .refl s
  · split
    · exact .refl s
    · split
      · exact .refl s
      · exact .of_view (by simp)

theorem doPlanStop_lawsKept : LawsKept s (doPlanStop s).1 := by
  simp only [doPlanStop]
  split
  · exact .of_view (abortRun_lawView ..)
  · exact .refl s

theorem doPlanStatus_lawsKept : LawsKept s (doPlanStatus s).1 := by
  simp only [doPlanStatus]
  split <;> exact .refl s

/-! Shelf, source and restore (Chapters 4 to 6). -/

theorem doModuleRead_lawsKept (x y : Option Int) : LawsKept s (doModuleRead x y s).1 := by
  simp only [doModuleRead]
  split
  · exact .refl s
  · exact withIndex_lawsKept fun _ => .refl s
  · exact withIndex_lawsKept fun _ => .refl s
  · exact .refl s

theorem doRectifierEnable_lawsKept (x : Option Int) : LawsKept s (doRectifierEnable x s).1 := by
  refine withIndex_lawsKept fun n => ?_
  split
  · exact .refl s
  · simp only [enableRect]
    split <;> exact .of_view (by simp)

theorem doRectifierDisable_lawsKept (x : Option Int) : LawsKept s (doRectifierDisable x s).1 := by
  refine withIndex_lawsKept fun n => ?_
  split
  · exact .refl s
  · split
    · exact .refl s
    · simp only [disableRect]
      split <;> exact .of_view (by simp)

theorem doSourceRead_lawsKept (b : Bool) : LawsKept s (doSourceRead b s).1 := by
  simp only [doSourceRead]
  split <;> exact .refl s

theorem doRideSet_lawsKept (a : RideArgs) : LawsKept s (doRideSet a s).1 := by
  simp only [doRideSet]
  split
  · exact .refl s
  · exact storeRide_lawsKept fun hs => applyRide_inRange a hs.2.2.2.1

theorem doChargeSet_lawsKept (a : ChargeArgs) : LawsKept s (doChargeSet a s).1 := by
  simp only [doChargeSet]
  split
  · exact .refl s
  · exact storeCharge_lawsKept fun hs => applyCharge_inRange a hs.2.2.2.2.1

theorem doRestore_lawsKept (t : Option TierArg) : LawsKept s (doRestore t s).1 := by
  have hplace : ∀ l, LawsKept s (forEach l placeRestore s) := fun l =>
    .of_view (forEach_same lawView _ (fun _ _ => join_lawView ..) l s)
  simp only [doRestore]
  split
  · exact .refl s
  · split
    · exact hplace _
    · exact .refl s
  · split
    · exact .refl s
    · split
      · exact hplace _
      · exact .refl s

/-! Zones, patterns, responses, override, valves and capture (Chapters 7 and 8). -/

theorem doLeakClear_lawsKept (x : Option Int) : LawsKept s (doLeakClear x s).1 := by
  simp only [doLeakClear]
  refine withIndex_lawsKept fun z => ?_
  split
  · exact .refl s
  · split
    · exact .refl s
    · split
      · exact clearZone_lawsKept s z
      · exact .refl s

theorem doZoneSet_lawsKept (a : ZoneArgs) : LawsKept s (doZoneSet a s).1 := by
  have hscan := storeScan_lawsKept a.scan s
  simp only [doZoneSet]
  split
  · exact .refl s
  · split
    · exact hscan
    · exact .refl s
    · refine withIndex_lawsKept fun z => ?_
      split
      · exact .refl s
      · next hwet =>
        split
        · exact .refl s
        · split
          · exact .refl s
          · refine hscan.trans (storeZone_lawsKept z a.en fun hs => applyZone_inRange a _ ?_ (not_le.mp hwet))
            exact hs.2.2.2.2.2.1 z

theorem doPatternSet_lawsKept (a : PatternArgs) : LawsKept s (doPatternSet a s).1 := by
  simp only [doPatternSet]
  split
  · exact .refl s
  · split
    · exact .refl s
    · refine withIndex_lawsKept fun n => ?_
      dsimp only
      refine modCfg_lawsKept (fun hs => hs.set_pat n ?_) rfl
      obtain ⟨hmin, hmin'⟩ := hs.2.2.2.2.2.2.2.2.1 n
      exact ⟨le_numArg _ hmin, numArg_le _ hmin'⟩

theorem doZoneRead_lawsKept (x y : Option Int) : LawsKept s (doZoneRead x y s).1 := by
  simp only [doZoneRead]
  split
  · exact .refl s
  · exact withIndex_lawsKept fun _ => .refl s
  · exact withIndex_lawsKept fun _ => .refl s
  · exact .refl s

theorem doResponseSet_lawsKept (a : ResponseArgs) : LawsKept s (doResponseSet a s).1 := by
  have htravel := storeTravel_lawsKept a.travel s
  simp only [doResponseSet]
  split
  · exact .refl s
  · split
    · exact htravel
    · exact .refl s
    · refine withIndex_lawsKept fun z => ?_
      split
      · exact .refl s
      · refine htravel.trans ?_
        dsimp only
        exact modCfg_lawsKept id rfl

theorem doOverridePrepare_lawsKept (p : Port) (x : Option Int) : LawsKept s (doOverridePrepare p x s).1 := by
  refine withIndex_lawsKept fun c => ?_
  split
  · exact .refl s
  · exact .of_view (lawView_modResp _ _ rfl)

theorem applyOverride_lawView (p : Port) (c : Ch) : lawView (applyOverride p c s) = lawView s :=
  (lawView_raise ..).trans rfl

theorem doOverrideCommit_lawsKept (p : Port) (x : Option Int) : LawsKept s (doOverrideCommit p x s).1 := by
  have hcancel : LawsKept s (cancelOverride p s) := .of_view (cancelOverride_lawView s p)
  simp only [doOverrideCommit]
  split
  · exact hcancel
  · split
    · exact hcancel
    · simp only [commitOverride]
      split
      · exact .refl s
      · split
        · exact .refl s
        · split
          · exact hcancel
          · split
            · exact hcancel
            · exact hcancel.then_view (applyOverride_lawView ..)

theorem doValveClose_lawsKept (x : Option Int) : LawsKept s (doValveClose x s).1 :=
  withIndex_lawsKept fun v => closeByHost_lawsKept v s

theorem doValveOpen_lawsKept (x : Option Int) : LawsKept s (doValveOpen x s).1 := by
  refine withIndex_lawsKept fun v => ?_
  split
  · next h => exact openByHost_lawsKept v s (List.isEmpty_iff.mp h)
  · exact .refl s

theorem doValveRead_lawsKept (x : Option Int) : LawsKept s (doValveRead x s).1 := by
  simp only [doValveRead]
  split
  · exact .refl s
  · exact withIndex_lawsKept fun _ => .refl s

/-! Link, system and tallies (Chapters 9 and 10). -/

theorem doFetch_lawsKept (p : Port) (x : Option Int) : LawsKept s (doFetch p x s).1 := by
  simp only [doFetch]
  split
  · exact .of_view (lawView_modPort ..)
  · split
    · exact .of_view (lawView_modPort ..)
    · exact .refl s

theorem doRouteSet_lawsKept (a : RouteArgs) : LawsKept s (doRouteSet a s).1 := by
  simp only [doRouteSet]
  split
  · exact .refl s
  · dsimp only
    exact modCfg_lawsKept id rfl

theorem doStatusClear_lawsKept (g : Option GroupArg) : LawsKept s (doStatusClear g s).1 := by
  simp only [doStatusClear]
  split
  · exact .refl s
  · exact .of_view (lawView_modLink ..)
  · exact .of_view (lawView_modLink ..)

/-- The copy that a save begins to write is the working configuration (R187). -/
theorem doConfigSave_lawsKept : LawsKept s (doConfigSave s).1 := by
  simp only [doConfigSave]
  split
  · exact .refl s
  · exact setStore_lawsKept fun hs => hs.1
  · exact setStore_lawsKept fun hs => hs.1

theorem doConfigDefaults_lawsKept : LawsKept s (doConfigDefaults s).1 := by
  simp only [doConfigDefaults]
  split
  · exact .refl s
  · split
    · exact .refl s
    · split
      · exact .refl s
      · dsimp only
        exact loadDefaults_lawsKept s

theorem doTallySet_lawsKept (a : TallyArgs) : LawsKept s (doTallySet a s).1 := by
  simp only [doTallySet]
  split
  · exact .refl s
  · split
    · split
      · exact .refl s
      · exact .of_view (lawView_modTally ..)
    · exact .refl s

theorem onCounter_lawsKept (x : Option Int) (f : CtrIx → Tally → Tally) : LawsKept s (onCounter x s f).1 := by
  refine withIndex_lawsKept fun c => ?_
  split
  · exact .refl s
  · exact .of_view (lawView_modTally ..)

theorem doTallyRead_lawsKept (x : Option Int) : LawsKept s (doTallyRead x s).1 := by
  simp only [doTallyRead]
  split
  · exact withIndex_lawsKept fun _ => .refl s
  · exact .refl s

/-- The block that owns a verb keeps the laws; an event is no line. -/
theorem runCommand_lawsKept (i : Instr) : LawsKept s (runCommand i s).1 := by
  cases i with
  | channelStart l a => exact doChannelStart_lawsKept s a
  | channelStartGang l a => exact doChannelStartGang_lawsKept s a
  | channelStop l a => exact doChannelStop_lawsKept s a
  | channelCut l a => exact doChannelCut_lawsKept s a
  | channelClear l c => exact doChannelClear_lawsKept s c
  | channelSet l c a => exact doChannelSet_lawsKept s c a
  | channelRead l c => exact withIndex_lawsKept fun _ => .refl s
  | policySet l a => exact doPolicySet_lawsKept s a
  | budgetRead l x => exact doBudgetRead_lawsKept s x
  | admissionRead l p => exact doAdmissionRead_lawsKept s p
  | planWrite l a => exact doPlanWrite_lawsKept s a
  | planRead l n => exact doPlanRead_lawsKept s n
  | planStart l k => exact doPlanStart_lawsKept s k
  | planPause l => exact doPlanPause_lawsKept s
  | planResume l => exact doPlanResume_lawsKept s
  | planStop l => exact doPlanStop_lawsKept s
  | planStatus l => exact doPlanStatus_lawsKept s
  | moduleRead l r b => exact doModuleRead_lawsKept s r b
  | rectifierEnable l r => exact doRectifierEnable_lawsKept s r
  | rectifierDisable l r => exact doRectifierDisable_lawsKept s r
  | sourceRead l x => exact doSourceRead_lawsKept s x
  | rideSet l a => exact doRideSet_lawsKept s a
  | chargeSet l a => exact doChargeSet_lawsKept s a
  | restore l t => exact doRestore_lawsKept s t
  | zoneSet l a => exact doZoneSet_lawsKept s a
  | zoneRead l z p => exact doZoneRead_lawsKept s z p
  | patternSet l a => exact doPatternSet_lawsKept s a
  | leakClear l z => exact doLeakClear_lawsKept s z
  | responseSet l a => exact doResponseSet_lawsKept s a
  | overridePrepare l c => exact doOverridePrepare_lawsKept s l.port c
  | overrideCommit l c => exact doOverrideCommit_lawsKept s l.port c
  | overrideLockout l | captureClear l => exact .of_view (lawView_modResp _ _ rfl)
  | valveClose l v => exact doValveClose_lawsKept s v
  | valveOpen l v => exact doValveOpen_lawsKept s v
  | valveRead l v => exact doValveRead_lawsKept s v
  | fetch l n => exact doFetch_lawsKept s l.port n
  | routeSet l a => exact doRouteSet_lawsKept s a
  | statusClear l g => exact doStatusClear_lawsKept s g
  | configSave l => exact doConfigSave_lawsKept s
  | configDefaults l => exact doConfigDefaults_lawsKept s
  | tallySet l a => exact doTallySet_lawsKept s a
  | tallyStart l c | tallyStop l c | tallyClear l c => exact onCounter_lawsKept s c _
  | tallyRead l c => exact doTallyRead_lawsKept s c
  | _ => exact .refl s

/-! ### Lines -/

theorem runLine_lawsKept (p : Port) (i : Instr) : LawsKept s (runLine p i s).1 := by
  simp only [runLine]
  split
  · exact ((LawsKept.of_view (lineAtOverride_lawView s p i)).trans (runCommand_lawsKept ..)).then_view (settle_lawView _)
  · exact .of_view (cancelOverride_lawView s p)

theorem runText_lawsKept (l : LineId) (t : List Char) : LawsKept s (runText l t s).1 := by
  have hcancel : LawsKept s (cancelOverride l.port s) := .of_view (cancelOverride_lawView s l.port)
  simp only [runText]
  split
  · exact hcancel
  · split
    · exact hcancel
    · split
      · split
        · exact hcancel
        · exact runLine_lawsKept ..
      · exact hcancel

theorem takeHead_lawsKept (p : Port) : LawsKept s (takeHead p s) := by
  simp only [takeHead]
  split
  · exact .refl s
  · next b _ _ =>
    split
    · exact .refl s
    · have hbody : LawsKept s (runBody p b s).1 := by
        simp only [runBody]
        split
        · exact runText_lawsKept ..
        · exact runLine_lawsKept ..
      refine hbody.then_view ?_
      simp only [handNotices]
      split <;> simp [placeOutput]

theorem heard_lawsKept (p : Port) : LawsKept s (heard p s) := by
  cases p with
  | manager => exact (endSilence_lawsKept s).then_view (settle_lawView _)
  | service => exact .refl s

theorem receive_lawsKept (p : Port) (tag : List Char) (body : LineBody) : LawsKept s (receive p tag body s) := by
  have hheard := heard_lawsKept s p
  simp only [receive]
  split
  · exact .refl s
  · exact .of_view (lawView_modPort ..)
  · split
    · exact (hheard.then_view (lawView_modPort ..)).trans (takeHead_lawsKept ..)
    · refine hheard.then_view ?_
      simp only [receiveBusy]
      split <;> simp [answerBusy, placeOutput]

theorem lineEnds_lawsKept (p : Port) (t : List Char) : LawsKept s (lineEnds p t s) := by
  have hrx : LawsKept s (s.modPort p fun c => { c with rx := [], overlong := false }) := .of_view (lawView_modPort ..)
  have hdiscard : ∀ u, lawView (discardLine p u) = lawView u := fun u => by simp [discardLine]
  simp only [lineEnds]
  split
  · exact hrx.then_view (hdiscard _)
  · split
    · exact hrx
    · split
      · exact hrx.then_view (hdiscard _)
      · exact hrx.trans (receive_lawsKept ..)

theorem outputSent_lawsKept (p : Port) : LawsKept s (outputSent p s) := by
  simp only [outputSent]
  split
  · exact .refl s
  · split
    · exact .of_view (lawView_modPort ..)
    · simp only [itemSent]
      split
      · exact .of_view (lawView_modPort ..)
      · exact (LawsKept.of_view (by simp)).trans (takeHead_lawsKept ..)

/-! ### The step -/

variable {s}

/-- An event keeps the laws where its effect does: the hand-overs behind it do. -/
theorem event_lawsKept {f : State → State} {t : State} (hf : LawsKept s (f s)) (he : event f s = .next t) :
    LawsKept s t := by
  cases he
  simp only [whenRunning]
  split
  · exact hf.then_view (settle_lawView _)
  · exact .refl s

/-- An event whose effect leaves valves, settings, store, stage and policy alone. -/
theorem event_lawsKept_of_view {f : State → State} {t : State} (hf : lawView (f s) = lawView s)
    (he : event f s = .next t) : LawsKept s t := event_lawsKept (.of_view hf) he

theorem exec_lawsKept (i : Instr) {t : State} (he : exec i s = .next t) : LawsKept s t := by
  cases i with
  | powerUp | powerLoss => cases he; exact blank_lawsKept ..
  | loadCompletion pins =>
    cases he
    split
    · exact (completeLoad_lawsKept s pins).then_view (settle_lawView _)
    · exact .refl s
  | resetPin => exact event_lawsKept (warmReset_lawsKept ..) he
  | resetResponseSent => exact event_lawsKept (beginCommandReset_lawsKept s) he
  | channelSenseScan x =>
    refine event_lawsKept_of_view ?_ he
    exact (lawView_ite _ _ _ _ (lawView_markRide _) rfl).trans ((lawView_markEval _).trans (senseScan_lawView s x))
  | powerGoodRise c => exact event_lawsKept_of_view (takePowerGoodRise_lawView s c) he
  | powerGoodFall c => exact event_lawsKept_of_view (takePowerGoodFall_lawView s c) he
  | trayFaultAsserted c => exact event_lawsKept_of_view (takeTrayFault_lawView s c) he
  | trayFaultReleased c => exact event_lawsKept_of_view (lawView_modCh ..) he
  | rampTimerExpiry c => exact event_lawsKept_of_view (takeRampExpiry_lawView s c) he
  | warningTimerExpiry c => exact event_lawsKept_of_view (takeWarningExpiry_lawView s c) he
  | stopConfirmExpiry c => exact event_lawsKept_of_view (takeConfirmExpiry_lawView s c) he
  | splitSpacingExpiry => exact event_lawsKept_of_view (takeSpacingExpiry_lawView s) he
  | lateTimerExpiry => exact event_lawsKept_of_view (takeLateExpiry_lawView s) he
  | deficitGraceExpiry => exact event_lawsKept_of_view (takeGraceExpiry_lawView s) he
  | gapTimerExpiry => exact event_lawsKept_of_view (takeGapExpiry_lawView s) he
  | roundTimerExpiry => exact event_lawsKept_of_view (takeRoundExpiry_lawView s) he
  | shelfResponse x => exact event_lawsKept_of_view (takeResponse_lawView s x) he
  | responseTimeout => exact event_lawsKept_of_view (takeResponseTimeout_lawView s) he
  | busSample mv => exact event_lawsKept_of_view (takeBusSample_lawView s mv) he
  | debounceTimerExpiry => exact event_lawsKept_of_view (takeDebounceExpiry_lawView s) he
  | qualifyExpiry => exact event_lawsKept_of_view (takeQualifyExpiry_lawView s) he
  | walkInExpiry => exact event_lawsKept_of_view (takeWalkInExpiry_lawView s) he
  | silenceTimerExpiry => exact event_lawsKept (takeSilenceExpiry_lawsKept s) he
  | leakScan x => exact event_lawsKept (takeLeakScan_lawsKept s x) he
  | escalationTimerExpiry z => exact event_lawsKept (takeEscalation_lawsKept s z) he
  | overrideWindowExpiry => exact event_lawsKept_of_view (lawView_modResp _ _ rfl) he
  | closedContactPresent v => exact event_lawsKept (takeContact_lawsKept v s .closed) he
  | openContactPresent v => exact event_lawsKept (takeContact_lawsKept v s .opened) he
  | contactAbsent v e => exact event_lawsKept (dropContact_lawsKept v s e) he
  | travelTimerExpiry v => exact event_lawsKept (takeTravelExpiry_lawsKept v s) he
  | lineArrival p x =>
    cases he
    split
    · exact .refl s
    · exact lineEnds_lawsKept s p x
  | outputLineSent p =>
    cases he
    split
    · exact (beginCommandReset_lawsKept s).then_view (settle_lawView _)
    · exact outputSent_lawsKept s p
  | saveCompletion => exact event_lawsKept (completeSave_lawsKept s) he
  | _ => cases he; exact receive_lawsKept ..

/-- A step keeps the three laws: a command does, and an idle step only counts the time. -/
theorem step_lawsKept {t : State} (h : step s = .next t) : LawsKept s t := by
  rw [step] at h
  split at h
  · next i rest _ => exact (LawsKept.of_view (lawView_pending s rest)).trans (exec_lawsKept i h)
  · cases h
    simp only [idle]
    split
    · exact .refl s
    · exact .of_view rfl
    · exact .of_view rfl

end

/-- Settles O60: a step keeps each of the three laws. -/
theorem everyStepKeepsValvesSettingsAndPolicy : Obligations.EveryStepKeepsValvesSettingsAndPolicy := by
  intro s t h
  obtain ⟨hvalves, hsettings, hpolicy⟩ := step_lawsKept h
  exact ⟨hvalves, hsettings, hpolicy⟩

end Sys2Proof.Machine
end

section
/-! The law of the report queues (R177): what keeps a queue in order, and the operations that leave the ports alone. -/

namespace Sys2Proof.Machine

/-! ### One report queue (R177, R179) -/

/-- Alarms followed by ordinary entries, at most 32 of them, are a queue in order. -/
theorem reportOrder_append {a b : List Report} (ha : ∀ r ∈ a, r.alarm = true) (hb : ∀ r ∈ b, r.alarm = false)
    (hl : (a ++ b).length ≤ 32) : ReportOrder (a ++ b) := by
  have halarms : alarmsOf (a ++ b) = a := by
    simp only [alarmsOf, List.filter_append, List.filter_eq_self.mpr ha,
      List.filter_eq_nil_iff.mpr fun r hr => Bool.eq_false_iff.mp (hb r hr), List.append_nil]
  have hordinary : ordinaryOf (a ++ b) = b := by
    have ha' : a.filter (fun r => !r.alarm) = [] := List.filter_eq_nil_iff.mpr fun r hr => by simp [ha r hr]
    have hb' : b.filter (fun r => !r.alarm) = b := List.filter_eq_self.mpr fun r hr => by simp [hb r hr]
    simp only [ordinaryOf, List.filter_append, ha', hb', List.nil_append]
  exact ⟨hl, by rw [halarms, hordinary]⟩

section
variable {q : List Report}

theorem alarm_of_mem_alarmsOf {r : Report} (h : r ∈ alarmsOf q) : r.alarm = true := (List.mem_filter.mp h).2

theorem ordinary_of_mem_ordinaryOf {r : Report} (h : r ∈ ordinaryOf q) : r.alarm = false := by
  simpa using (List.mem_filter.mp h).2

/-- The two classes of entries make up a queue. -/
theorem length_alarmsOf_add_ordinaryOf (q : List Report) : (alarmsOf q).length + (ordinaryOf q).length = q.length :=
  (List.length_eq_length_filter_add _).symm

/-- With room an alarm joins behind the last alarm (R177). -/
theorem queueJoin_room_alarm {r : Report} (hl : q.length < 32) (hr : r.alarm = true) :
    queueJoin r q = (alarmsOf q ++ r :: ordinaryOf q, false) := (if_pos hl).trans (if_pos hr)

/-- With room an ordinary entry joins at the tail (R177). -/
theorem queueJoin_room_ordinary {r : Report} (hl : q.length < 32) (hr : r.alarm = false) :
    queueJoin r q = (q ++ [r], false) := (if_pos hl).trans (if_neg (by simp [hr]))

/-- A full queue loses its newest ordinary entry to an alarm (R177). -/
theorem queueJoin_evicts {r : Report} (hl : 32 ≤ q.length) (hr : r.alarm = true) (hq : ordinaryOf q ≠ []) :
    queueJoin r q = (alarmsOf q ++ r :: (ordinaryOf q).dropLast, true) :=
  (if_neg (not_lt.mpr hl)).trans (if_pos (by simp [hr, hq]))

/-- Otherwise a full queue drops the new entry (R177). -/
theorem queueJoin_drops {r : Report} (hl : 32 ≤ q.length) (h : r.alarm = false ∨ ordinaryOf q = []) :
    queueJoin r q = (q, true) := by
  refine (if_neg (not_lt.mpr hl)).trans (if_neg ?_)
  rcases h with h | h <;> simp [h]

/-- A full queue either evicts an entry for the new one or drops the new one (R177). -/
theorem evicts_or_drops (r : Report) (q : List Report) :
    (r.alarm = true ∧ ordinaryOf q ≠ []) ∨ r.alarm = false ∨ ordinaryOf q = [] := by
  cases r.alarm with
  | false => exact .inr (.inl rfl)
  | true =>
    by_cases h : ordinaryOf q = []
    · exact .inr (.inr h)
    · exact .inl ⟨rfl, h⟩

/-- A new entry joins a queue in order, and the queue stays in order (R177). -/
theorem ReportOrder.joined (h : ReportOrder q) (r : Report) : ReportOrder (queueJoin r q).1 := by
  obtain ⟨hlen, hsplit⟩ := h
  have hcount := length_alarmsOf_add_ordinaryOf q
  have halarm : r.alarm = true → ∀ x ∈ alarmsOf q ++ [r], x.alarm = true := fun hr x hx => by
    rcases List.mem_append.mp hx with hx | hx
    · exact alarm_of_mem_alarmsOf hx
    · rw [List.mem_singleton.mp hx, hr]
  have happend : ∀ l : List Report, alarmsOf q ++ r :: l = (alarmsOf q ++ [r]) ++ l := by simp
  rcases Nat.lt_or_ge q.length 32 with hroom | hfull
  · cases hr : r.alarm with
    | true =>
      rw [queueJoin_room_alarm hroom hr, happend]
      exact reportOrder_append (halarm hr) (fun _ => ordinary_of_mem_ordinaryOf) (by simp; omega)
    | false =>
      have hq : q ++ [r] = alarmsOf q ++ (ordinaryOf q ++ [r]) := by rw [← List.append_assoc, ← hsplit]
      rw [queueJoin_room_ordinary hroom hr, hq]
      refine reportOrder_append (fun _ => alarm_of_mem_alarmsOf) (fun x hx => ?_) (by simp; omega)
      rcases List.mem_append.mp hx with hx | hx
      · exact ordinary_of_mem_ordinaryOf hx
      · rw [List.mem_singleton.mp hx, hr]
  · rcases evicts_or_drops r q with ⟨hr, hne⟩ | hdrop
    · have hpos : 0 < (ordinaryOf q).length := List.length_pos_iff.mpr hne
      rw [queueJoin_evicts hfull hr hne, happend]
      exact reportOrder_append (halarm hr) (fun x hx => ordinary_of_mem_ordinaryOf (List.dropLast_subset _ hx))
        (by simp; omega)
    · rw [queueJoin_drops hfull hdrop]
      exact ⟨hlen, hsplit⟩

/-- Entries leave the head of a queue, and it stays in order (R179). -/
theorem ReportOrder.dropped (h : ReportOrder q) (n : Nat) : ReportOrder (q.drop n) := by
  obtain ⟨hlen, hsplit⟩ := h
  have hl : (q.drop n).length ≤ 32 := by rw [List.length_drop]; omega
  rw [hsplit, List.drop_append] at hl ⊢
  exact reportOrder_append (fun x hx => alarm_of_mem_alarmsOf (List.mem_of_mem_drop hx))
    (fun x hx => ordinary_of_mem_ordinaryOf (List.mem_of_mem_drop hx)) hl

theorem reportOrder_nil : ReportOrder [] := ⟨Nat.zero_le 32, rfl⟩

end

/-! ### The ports (R173, R177) -/

section
variable {s t : State}

/-- The law speaks of the report queues alone. -/
theorem ReportLaw.of_queues (h : ReportLaw s) (hq : ∀ p, (t.port p).queue = (s.port p).queue) : ReportLaw t :=
  fun p => (hq p).symm ▸ h p

theorem ReportLaw.of_link (h : ReportLaw s) (hl : t.link = s.link) : ReportLaw t :=
  h.of_queues fun p => by cases p <;> simp only [State.port, hl]

/-- Whichever way a test goes. -/
theorem ReportLaw.ite {p : Prop} [Decidable p] (hs : ReportLaw s) (ht : ReportLaw t) :
    ReportLaw (if p then s else t) := by
  split
  · exact hs
  · exact ht

/-- A change of a port that leaves its report queue in order. -/
theorem modPort_reportLaw (p : Port) {f : PortCtx → PortCtx} (h : ReportLaw s)
    (hf : ReportOrder (s.port p).queue → ReportOrder (f (s.port p)).queue) : ReportLaw (s.modPort p f) := by
  intro q
  by_cases hq : q = p
  · subst hq
    rw [State.modPort_port_same]
    exact hf (h q)
  · rw [State.modPort_port_other _ _ hq]
    exact h q

end

/-- What reports leave of the ports of an earlier state: the lines are as they were, and report queues that were in order
are so still (R173, R177). -/
structure PortsKept (s₀ s : State) : Prop where
  lines : ∀ p, (s.port p).fixed = (s₀.port p).fixed
  queues : ReportLaw s₀ → ReportLaw s

section
variable {s₀ s t : State}

theorem PortsKept.refl (s : State) : PortsKept s s := ⟨fun _ => rfl, id⟩

theorem PortsKept.trans (h : PortsKept s₀ s) (k : PortsKept s t) : PortsKept s₀ t :=
  ⟨fun p => (k.lines p).trans (h.lines p), k.queues ∘ h.queues⟩

theorem PortsKept.of_link (h : PortsKept s₀ s) (hl : t.link = s.link) : PortsKept s₀ t :=
  ⟨fun p => by rw [← h.lines p]; cases p <;> simp only [State.port, hl], fun hs => (h.queues hs).of_link hl⟩

/-- Whichever way a test goes. -/
theorem PortsKept.ite {p : Prop} [Decidable p] (hs : PortsKept s₀ s) (ht : PortsKept s₀ t) :
    PortsKept s₀ (if p then s else t) := by
  split
  · exact hs
  · exact ht

/-- A change of a port that leaves its lines alone and its report queue in order. -/
theorem modPort_portsKept (p : Port) {f : PortCtx → PortCtx} (h : PortsKept s₀ s) (hl : ∀ c, (f c).fixed = c.fixed)
    (hq : ReportOrder (s.port p).queue → ReportOrder (f (s.port p)).queue) : PortsKept s₀ (s.modPort p f) := by
  refine ⟨fun q => ?_, fun hs => modPort_reportLaw p (h.queues hs) hq⟩
  rw [← h.lines q]
  by_cases hp : q = p
  · subst hp
    rw [State.modPort_port_same, hl]
  · rw [State.modPort_port_other _ _ hp]

theorem forEach_portsKept {α : Type} {f : α → State → State} (hf : ∀ a t, PortsKept s₀ t → PortsKept s₀ (f a t))
    (l : List α) (h : PortsKept s₀ s) : PortsKept s₀ (forEach l f s) := forEach_keeps (PortsKept s₀) f hf l s h

/-- A change of the condition summary (R176, R180). -/
theorem modFlags_portsKept (f : Link → Flags) (h : PortsKept s₀ s) :
    PortsKept s₀ (s.modLink fun k => { k with flags := f k }) :=
  ⟨fun p => by rw [← h.lines p]; cases p <;> rfl, fun hs => (h.queues hs).of_queues fun p => by cases p <;> rfl⟩

theorem joinReport_portsKept (p : Port) (r : Report) (h : PortsKept s₀ s) : PortsKept s₀ (joinReport p r s) := by
  have hjoin : PortsKept s₀ (s.modPort p fun c => { c with
      queue := (queueJoin r (s.port p).queue).1
      lost := if (queueJoin r (s.port p).queue).2 then satInc 255 c.lost else c.lost }) :=
    modPort_portsKept p h (fun _ => rfl) fun hq => hq.joined r
  exact .ite (hjoin.of_link rfl) hjoin

/-- A report that is raised leaves the lines alone and the queues in order (R177). -/
theorem raise_portsKept (k : ReportKind) (a b c : Option Nat) (h : PortsKept s₀ s) : PortsKept s₀ (raise k a b c s) := by
  have hflag := modFlags_portsKept (fun l => l.flags.raise k.group) h
  simp only [raise]
  split
  · exact hflag
  · exact joinReport_portsKept .manager _ hflag
  · exact joinReport_portsKept .service _ hflag
  · exact joinReport_portsKept .service _ (joinReport_portsKept .manager _ hflag)

end

end Sys2Proof.Machine
end

section
/-! The operations inside a step keep the lines of the ports and the law of the report queues (R173, R177): each is a
chain of changes that leave the ports alone and of reports that are raised. -/

namespace Sys2Proof.Machine

section
variable {s₀ s : State}

/-! ### The queue, the run's notices and channel states -/

theorem modWork_portsKept (f : Work → Work) (h : PortsKept s₀ s) : PortsKept s₀ (s.modWork f) := h.of_link rfl
theorem modSource_portsKept (f : Source → Source) (h : PortsKept s₀ s) : PortsKept s₀ (s.modSource f) := h.of_link rfl
theorem count_portsKept (e : TallyEvent) (h : PortsKept s₀ s) : PortsKept s₀ (count e s) := h.of_link rfl
theorem markPlan_portsKept (p : PlanWork) (h : PortsKept s₀ s) : PortsKept s₀ (markPlan p s) := h.of_link rfl

theorem lateCheck_portsKept (h : PortsKept s₀ s) : PortsKept s₀ (lateCheck s) := by
  simp only [lateCheck]
  split
  · exact h
  · exact .ite h ((raise_portsKept _ _ _ _ h).of_link rfl)

theorem watchHead_portsKept (h : PortsKept s₀ s) : PortsKept s₀ (watchHead s) := by
  simp only [watchHead]
  split
  · exact h.of_link rfl
  · exact .ite (h.of_link rfl) (lateCheck_portsKept (h.of_link rfl))

theorem headGone_portsKept (h : PortsKept s₀ s) : PortsKept s₀ (headGone s) := by
  simp only [headGone]
  split
  · exact h.of_link rfl
  · exact watchHead_portsKept h

theorem dropFromQueue_portsKept (c : Ch) (h : PortsKept s₀ s) : PortsKept s₀ (dropFromQueue c s) := by
  simp only [dropFromQueue]
  split
  · exact h
  · split
    · exact h.of_link rfl
    · exact headGone_portsKept (h.of_link rfl)

theorem skipMember_portsKept (c : Ch) (n : Nat) (h : PortsKept s₀ s) : PortsKept s₀ (skipMember c n s) := by
  simp only [skipMember]
  split
  · exact h
  · exact raise_portsKept _ _ _ _ (h.of_link rfl)

theorem memberLeft_portsKept (h : PortsKept s₀ s) : PortsKept s₀ (memberLeft s) := h.of_link (memberLeft_link s)

theorem noticeAdmitted_portsKept (c : Ch) (h : PortsKept s₀ s) : PortsKept s₀ (noticeAdmitted c s) := by
  simp only [noticeAdmitted]
  split
  · exact .ite (memberLeft_portsKept (h.of_link rfl)) h
  · exact h

theorem noticeWithdrawn_portsKept (c : Ch) (w : Withdrawal) (h : PortsKept s₀ s) : PortsKept s₀ (noticeWithdrawn c w s) := by
  simp only [noticeWithdrawn]
  split
  · exact .ite (memberLeft_portsKept (.ite (skipMember_portsKept c 4 (h.of_link rfl)) (h.of_link rfl))) h
  · exact h

theorem enterState_portsKept (c : Ch) (st : ChState) (h : PortsKept s₀ s) : PortsKept s₀ (enterState c st s) :=
  h.of_link (enterState_link ..)

theorem switchOff_portsKept (c : Ch) (h : PortsKept s₀ s) : PortsKept s₀ (switchOff c s) :=
  enterState_portsKept c .off (h.of_link rfl)

theorem reportFault_portsKept (c : Ch) (h : PortsKept s₀ s) : PortsKept s₀ (reportFault c s) :=
  raise_portsKept _ _ _ _ (h.of_link rfl)

theorem faultChannel_portsKept (c : Ch) (k : FaultKind) (h : PortsKept s₀ s) : PortsKept s₀ (faultChannel c k s) :=
  reportFault_portsKept c (enterState_portsKept c .faulted (h.of_link rfl))

theorem withdraw_portsKept (c : Ch) (w : Withdrawal) (h : PortsKept s₀ s) : PortsKept s₀ (withdraw c w s) :=
  .ite (noticeWithdrawn_portsKept c w (enterState_portsKept c .off (dropFromQueue_portsKept c h))) h

theorem takePowerGoodRise_portsKept (c : Ch) (h : PortsKept s₀ s) : PortsKept s₀ (takePowerGoodRise c s) := by
  simp only [takePowerGoodRise]
  split
  · exact enterState_portsKept c .on (h.of_link rfl)
  all_goals exact h.of_link rfl

theorem takePowerGoodFall_portsKept (c : Ch) (h : PortsKept s₀ s) : PortsKept s₀ (takePowerGoodFall c s) := by
  simp only [takePowerGoodFall]
  split
  · exact faultChannel_portsKept c .drop (h.of_link rfl)
  all_goals exact h.of_link rfl

theorem takeTrayFault_portsKept (c : Ch) (h : PortsKept s₀ s) : PortsKept s₀ (takeTrayFault c s) := by
  simp only [takeTrayFault]
  split
  case h_1 | h_2 | h_3 => exact faultChannel_portsKept c .tray (h.of_link rfl)
  all_goals exact h.of_link rfl

theorem takeRampExpiry_portsKept (c : Ch) (h : PortsKept s₀ s) : PortsKept s₀ (takeRampExpiry c s) :=
  .ite (faultChannel_portsKept c .ramp h) h

theorem takeWarningExpiry_portsKept (c : Ch) (h : PortsKept s₀ s) : PortsKept s₀ (takeWarningExpiry c s) :=
  .ite (switchOff_portsKept c h) h

theorem markStuck_portsKept (c : Ch) (h : PortsKept s₀ s) : PortsKept s₀ (markStuck c s) :=
  reportFault_portsKept c (enterState_portsKept c .faulted (h.of_link rfl))

theorem takeConfirmExpiry_portsKept (c : Ch) (h : PortsKept s₀ s) : PortsKept s₀ (takeConfirmExpiry c s) := by
  have hstopped : PortsKept s₀ (s.modCh c fun r => { r with confirm := none }) := h.of_link rfl
  simp only [takeConfirmExpiry]
  split
  · split
    · split
      · exact markStuck_portsKept c hstopped
      · exact markStuck_portsKept c (withdraw_portsKept c .counted hstopped)
      · exact .ite hstopped (reportFault_portsKept c (h.of_link rfl))
      all_goals exact hstopped
    · exact hstopped
  · exact h

theorem startWarning_portsKept (c : Ch) (h : PortsKept s₀ s) : PortsKept s₀ (startWarning c s) :=
  have hwarned : ∀ f, PortsKept s₀ (enterState c .warning (s.modCh c f)) := fun _ =>
    enterState_portsKept c .warning (h.of_link rfl)
  .ite (takeWarningExpiry_portsKept c (hwarned _)) (hwarned _)

theorem markForStop_portsKept (c : Ch) (w : StopCause) (h : PortsKept s₀ s) : PortsKept s₀ (markForStop c w s) := by
  cases w with
  | host | plan | source | leak => exact h.of_link rfl
  | ladder | deficit => exact .ite (h.of_link rfl) h

theorem gracefulStop_portsKept (w : StopCause) (c : Ch) (h : PortsKept s₀ s) : PortsKept s₀ (gracefulStop w c s) := by
  have hmarked := markForStop_portsKept c w h
  simp only [gracefulStop]
  split
  · exact startWarning_portsKept c hmarked
  · exact withdraw_portsKept c .counted hmarked
  · exact switchOff_portsKept c hmarked
  all_goals exact hmarked

theorem cut_portsKept (w : StopCause) (c : Ch) (h : PortsKept s₀ s) : PortsKept s₀ (cut w c s) := by
  have hmarked := markForStop_portsKept c w h
  simp only [cut]
  split
  case h_4 => exact withdraw_portsKept c .counted hmarked
  case h_1 | h_2 | h_3 => exact switchOff_portsKept c hmarked
  all_goals exact hmarked

theorem admitChannel_portsKept (c : Ch) (h : PortsKept s₀ s) : PortsKept s₀ (admitChannel c s) := by
  have hramping : ∀ t, PortsKept s₀ t →
      PortsKept s₀ (noticeAdmitted c (count .channelStarts (enterState c .ramping (clearShed c t)))) := fun t ht =>
    noticeAdmitted_portsKept c (ht.of_link (enterState_link c .ramping (clearShed c t)))
  have hgood : ∀ t, PortsKept s₀ t → PortsKept s₀ (if (t.ch c).powerGood then takePowerGoodRise c t else t) := fun t ht =>
    .ite (takePowerGoodRise_portsKept c ht) ht
  simp only [admitChannel]
  exact .ite (takeTrayFault_portsKept c (hgood _ (hramping _ (h.of_link rfl)))) (hgood _ (hramping _ (h.of_link rfl)))

theorem overdrawCheck_portsKept (c : Ch) (h : PortsKept s₀ s) : PortsKept s₀ (overdrawCheck c s) :=
  .ite ((raise_portsKept _ _ _ _ h).of_link rfl) h

/-! ### The Budget Unit -/

theorem deficitTest_portsKept (h : PortsKept s₀ s) : PortsKept s₀ (deficitTest s) := by
  simp only [deficitTest]
  split
  · split
    · exact h
    · exact h.of_link rfl
  · exact h.of_link rfl

theorem distribute_link (s : State) : (distribute s).link = s.link := by
  have hgive : ∀ (l : List BmSlot) (x : State × Nat), (l.foldl (fun x n => giveCharge n x) x).1.link = x.1.link := by
    intro l
    induction l with
    | nil => intro x; rfl
    | cons n l ih => intro x; rw [List.foldl_cons, ih]; rfl
  exact hgive _ _

theorem evaluate_portsKept (h : PortsKept s₀ s) : PortsKept s₀ (evaluate s) :=
  have htested := deficitTest_portsKept (h.of_link rfl : PortsKept s₀ (s.modBudget fun b => { b with figs := figuresNow s }))
  (htested.of_link (distribute_link _)).of_link rfl

theorem shedForDeficit_portsKept (c : Ch) (h : PortsKept s₀ s) : PortsKept s₀ (shedForDeficit c s) := by
  have hstop := gracefulStop_portsKept .deficit c h
  simp only [shedForDeficit]
  exact count_portsKept _ (.ite (hstop.of_link rfl) hstop)

theorem shedTier_portsKept (t : Nat) (h : PortsKept s₀ s) : PortsKept s₀ (shedTier t s) :=
  raise_portsKept _ _ _ _ (forEach_portsKept (fun c _ => shedForDeficit_portsKept c) _ h)

theorem reportDeficit_portsKept (h : PortsKept s₀ s) : PortsKept s₀ (reportDeficit s) :=
  .ite h ((raise_portsKept _ _ _ _ h).of_link rfl)

theorem takeGraceExpiry_portsKept (h : PortsKept s₀ s) : PortsKept s₀ (takeGraceExpiry s) := by
  simp only [takeGraceExpiry]
  split
  · split
    · split
      · exact (shedTier_portsKept _ h).of_link rfl
      · exact (reportDeficit_portsKept h).of_link rfl
    · exact h.of_link rfl
  · exact h

theorem join_portsKept (n : EntryName) (o : Origin) (h : PortsKept s₀ s) : PortsKept s₀ (join n o s) := by
  have hpend : ∀ t l, PortsKept s₀ t → PortsKept s₀ (forEach l (fun c s => enterState c .pending s) t) := fun t l =>
    forEach_portsKept (fun c _ => enterState_portsKept c .pending) l
  have hjoined := hpend _ (newEntry n o s).chans
    (h.of_link rfl : PortsKept s₀ (s.modBudget fun b => { b with queue := b.queue ++ [newEntry n o s] }))
  exact .ite (PortsKept.of_link (.ite (watchHead_portsKept hjoined) hjoined) rfl) h

theorem admitHead_portsKept (e : Entry) (h : PortsKept s₀ s) : PortsKept s₀ (admitHead e s) := by
  have hadmitted : PortsKept s₀ (forEach e.chans admitChannel (s.modBudget fun b => { b with queue := b.queue.tail })) :=
    forEach_portsKept (fun c _ => admitChannel_portsKept c) _ (h.of_link rfl)
  simp only [admitHead]
  split
  · exact headGone_portsKept (hadmitted.of_link rfl)
  · exact headGone_portsKept hadmitted

theorem examineSingle_portsKept (e : Entry) (h : PortsKept s₀ s) : PortsKept s₀ (examineSingle e s) :=
  .ite h (.ite (admitHead_portsKept e h) (.ite h (h.of_link rfl)))

theorem examine_portsKept (h : PortsKept s₀ s) : PortsKept s₀ (examine s) := by
  simp only [examine]
  split
  · exact h
  · split
    · exact examineSingle_portsKept _ h
    · split
      · exact admitHead_portsKept _ h
      · split
        · exact headGone_portsKept (h.of_link rfl)
        · exact examineSingle_portsKept _ (watchHead_portsKept (h.of_link rfl))

theorem emptyQueue_portsKept (h : PortsKept s₀ s) : PortsKept s₀ (emptyQueue s) :=
  forEach_portsKept (fun c _ => withdraw_portsKept c .sourceLeft) _ (h.of_link rfl)

theorem withdrawAll_portsKept (l : List Ch) (w : Withdrawal) (h : PortsKept s₀ s) : PortsKept s₀ (withdrawAll l w s) :=
  forEach_portsKept (fun c _ => withdraw_portsKept c w) _ (.ite (headGone_portsKept (h.of_link rfl)) (h.of_link rfl))

theorem takeSpacingExpiry_portsKept (h : PortsKept s₀ s) : PortsKept s₀ (takeSpacingExpiry s) := .ite (h.of_link rfl) h

theorem takeLateExpiry_portsKept (h : PortsKept s₀ s) : PortsKept s₀ (takeLateExpiry s) :=
  .ite (lateCheck_portsKept (h.of_link rfl)) h

/-! ### The Sequence Engine -/

theorem endRun_portsKept (st : RunState) (n : Nat) (h : PortsKept s₀ s) : PortsKept s₀ (endRun st n s) := by
  simp only [endRun]
  split
  · exact h
  · exact raise_portsKept _ _ _ _ (h.of_link rfl)

theorem completeStep_portsKept (h : PortsKept s₀ s) : PortsKept s₀ (completeStep s) := by
  simp only [completeStep]
  split
  · exact h
  · exact .ite (endRun_portsKept _ _ (h.of_link rfl)) (.ite (h.of_link rfl) (h.of_link rfl))

theorem takeGapExpiry_portsKept (h : PortsKept s₀ s) : PortsKept s₀ (takeGapExpiry s) := by
  simp only [takeGapExpiry]
  split
  · exact .ite (h.of_link rfl) h
  · exact h

theorem skipFailing_portsKept (t : State) (c : Ch) (h : PortsKept s₀ s) : PortsKept s₀ (skipFailing t c s) := by
  simp only [skipFailing]
  split
  · exact skipMember_portsKept c _ h
  · exact h

theorem startStep_portsKept (p : PlanStep) (h : PortsKept s₀ s) : PortsKept s₀ (startStep p s) := by
  have hskipped : PortsKept s₀ (forEach p.members (skipFailing s) s) := forEach_portsKept (fun c _ => skipFailing_portsKept s c) _ h
  simp only [startStep]
  split
  · exact hskipped.of_link rfl
  · exact join_portsKept _ _ (hskipped.of_link rfl)

theorem executeStep_portsKept (h : PortsKept s₀ s) : PortsKept s₀ (executeStep s) := by
  have hrun : ∀ f, PortsKept s₀ (s.modRun f) := fun f => h.of_link rfl
  simp only [executeStep]
  split
  · exact h
  · split
    case h_1 =>
      split
      · exact startStep_portsKept _ (hrun _)
      · split
        · exact h.of_link rfl
        · exact h.of_link rfl
    case h_2 => exact markPlan_portsKept _ (forEach_portsKept (fun c _ => gracefulStop_portsKept .plan c) _ (hrun _))
    case h_3 => exact h.of_link rfl
    all_goals exact .ite (h.of_link rfl) (h.of_link rfl)

theorem planWork_portsKept (h : PortsKept s₀ s) : PortsKept s₀ (planWork s) := by
  simp only [planWork]
  split
  · exact h.of_link rfl
  · exact executeStep_portsKept (h.of_link rfl)
  · exact completeStep_portsKept (h.of_link rfl)

theorem withdrawOutstanding_portsKept (l : List Ch) (h : PortsKept s₀ s) : PortsKept s₀ (withdrawOutstanding l s) :=
  withdrawAll_portsKept l .own (h.of_link rfl)

theorem pauseRun_portsKept (k : RunBy) (h : PortsKept s₀ s) : PortsKept s₀ (pauseRun k s) := by
  simp only [pauseRun]
  split
  · exact .ite (raise_portsKept _ _ _ _ ((withdrawOutstanding_portsKept _ h).of_link rfl)) h
  · exact h

theorem resumeRun_portsKept (h : PortsKept s₀ s) : PortsKept s₀ (resumeRun s) := by
  simp only [resumeRun]
  split
  · split
    · exact h.of_link rfl
    · exact .ite (h.of_link rfl) (h.of_link rfl)
  · exact h

theorem abortRun_portsKept (n : Nat) (h : PortsKept s₀ s) : PortsKept s₀ (abortRun n s) := by
  simp only [abortRun]
  split
  · exact .ite (endRun_portsKept _ _ (withdrawOutstanding_portsKept _ h)) h
  · exact h

theorem planLeftGrid_portsKept (h : PortsKept s₀ s) : PortsKept s₀ (planLeftGrid s) := by
  simp only [planLeftGrid]
  split
  · split
    · exact pauseRun_portsKept .source h
    · exact h
  · exact h

theorem planEnteredGrid_portsKept (h : PortsKept s₀ s) : PortsKept s₀ (planEnteredGrid s) := by
  simp only [planEnteredGrid]
  split
  · split
    · exact .ite (resumeRun_portsKept h) h
    · exact .ite (h.of_link rfl) h
  · exact h

theorem drainPlan_portsKept (n : Nat) (h : PortsKept s₀ s) : PortsKept s₀ (drainPlan n s) := by
  induction n generalizing s with
  | zero => exact h
  | succ n ih => exact .ite h (ih (planWork_portsKept h))

theorem reserveRequest_portsKept (d : Option StepIx) (h : PortsKept s₀ s) : PortsKept s₀ (reserveRequest d s) := by
  have haborted := abortRun_portsKept 3 (drainPlan_portsKept Config.planFuel h)
  simp only [reserveRequest]
  split
  · exact haborted.of_link rfl
  · exact haborted

theorem requestUpRun_portsKept (h : PortsKept s₀ s) : PortsKept s₀ (requestUpRun s) := by
  simp only [requestUpRun]
  split
  · exact h
  · split
    · exact h.of_link rfl
    · exact h

/-! ### The Source Controller -/

theorem chargeFirstTest_portsKept (h : PortsKept s₀ s) : PortsKept s₀ (chargeFirstTest s) := .ite h (h.of_link rfl)

theorem autoPlace_portsKept (c : Ch) (h : PortsKept s₀ s) : PortsKept s₀ (autoPlace c s) :=
  (join_portsKept (.single c) .restore h).of_link rfl

theorem autoRestore_portsKept (h : PortsKept s₀ s) : PortsKept s₀ (autoRestore s) :=
  .ite (forEach_portsKept (fun c _ => autoPlace_portsKept c) _ h) h

theorem setPolicy_portsKept (p : RestorePolicy) (h : PortsKept s₀ s) : PortsKept s₀ (setPolicy p s) := .ite h (h.of_link rfl)

theorem endSilence_portsKept (h : PortsKept s₀ s) : PortsKept s₀ (endSilence s) := by
  simp only [endSilence]
  exact modSource_portsKept _ (.ite h (setPolicy_portsKept _ (h.of_link rfl)))

theorem takeSilenceExpiry_portsKept (h : PortsKept s₀ s) : PortsKept s₀ (takeSilenceExpiry s) :=
  .ite (.ite (raise_portsKept _ _ _ _ (h.of_link rfl))
    (.ite (raise_portsKept _ _ _ _ (setPolicy_portsKept .auto (h.of_link rfl))) (h.of_link rfl))) h

theorem enterSource_portsKept (st : SrcState) (o : Option ReturnFrom) (h : PortsKept s₀ s) :
    PortsKept s₀ (enterSource st o s) := h.of_link (by simp [enterSource, setSetPoints])

theorem raiseRideEnd_portsKept (l n : Nat) (h : PortsKept s₀ s) : PortsKept s₀ (raiseRideEnd l n s) :=
  raise_portsKept _ _ _ _ h

theorem beginRide_portsKept (l : SrcState) (h : PortsKept s₀ s) : PortsKept s₀ (beginRide l s) :=
  (raise_portsKept .rideBegin _ _ _ h).of_link rfl

theorem rideFromGrid_portsKept (h : PortsKept s₀ s) : PortsKept s₀ (rideFromGrid s) :=
  beginRide_portsKept .grid (emptyQueue_portsKept (planLeftGrid_portsKept
    (modSource_portsKept _ (enterSource_portsKept .ride none h))))

theorem testLoss_portsKept (h : PortsKept s₀ s) : PortsKept s₀ (testLoss s) := by
  have hride : ∀ l, PortsKept s₀ (beginRide l (enterSource .ride none s)) := fun l =>
    beginRide_portsKept l (enterSource_portsKept .ride none h)
  simp only [testLoss]
  split
  · split
    · exact rideFromGrid_portsKept h
    · exact hride _
    · exact hride _
    · exact enterSource_portsKept .down none h
    · exact enterSource_portsKept .down none h
    all_goals exact h
  · exact h

theorem enterGrid_portsKept (h : PortsKept s₀ s) : PortsKept s₀ (enterGrid s) := by
  simp only [enterGrid]
  exact modWork_portsKept _ (raiseRideEnd_portsKept _ _ (planEnteredGrid_portsKept
    (modSource_portsKept _ (modSource_portsKept _ (enterSource_portsKept .grid none h)))))

theorem enterHandback_portsKept (h : PortsKept s₀ s) : PortsKept s₀ (enterHandback s) := by
  simp only [enterHandback]
  exact .ite (enterGrid_portsKept (enterSource_portsKept _ _ h)) (modSource_portsKept _ (enterSource_portsKept _ _ h))

theorem enterQualify_portsKept (o : ReturnFrom) (h : PortsKept s₀ s) : PortsKept s₀ (enterQualify o s) := by
  simp only [enterQualify]
  exact .ite (enterHandback_portsKept (enterSource_portsKept _ _ h))
    (modSource_portsKept _ (enterSource_portsKept _ _ h))

theorem testReturn_portsKept (h : PortsKept s₀ s) : PortsKept s₀ (testReturn s) := by
  simp only [testReturn]
  split
  · split
    · exact enterQualify_portsKept .ride h
    · exact enterQualify_portsKept .down h
    all_goals exact h
  · exact h

theorem takeQualifyExpiry_portsKept (h : PortsKept s₀ s) : PortsKept s₀ (takeQualifyExpiry s) :=
  .ite (enterHandback_portsKept h) h

theorem takeWalkInExpiry_portsKept (h : PortsKept s₀ s) : PortsKept s₀ (takeWalkInExpiry s) :=
  .ite (enterGrid_portsKept h) h

theorem testAllOff_portsKept (h : PortsKept s₀ s) : PortsKept s₀ (testAllOff s) :=
  .ite (raiseRideEnd_portsKept _ _ (enterSource_portsKept .down none h)) h

theorem deplete_portsKept (h : PortsKept s₀ s) : PortsKept s₀ (deplete s) :=
  raiseRideEnd_portsKept _ _ (enterSource_portsKept .down none
    (raise_portsKept _ _ _ _ (forEach_portsKept (fun c _ => cut_portsKept .source c) _ h)))

theorem shedLadderTier_portsKept (a b t : Nat) (h : PortsKept s₀ s) : PortsKept s₀ (shedLadderTier a b t s) := by
  have hstopped : PortsKept s₀ (forEach (tierLive s t) (fun c s => count .channelsShed (gracefulStop .ladder c s)) s) :=
    forEach_portsKept (fun c _ ht => count_portsKept _ (gracefulStop_portsKept .ladder c ht)) _ h
  simp only [shedLadderTier]
  exact .ite (.ite (raise_portsKept _ _ _ _ hstopped) hstopped) h

theorem ladder_portsKept (h : PortsKept s₀ s) : PortsKept s₀ (ladder s) :=
  forEach_portsKept (fun t _ => shedLadderTier_portsKept _ _ t) _ (h.of_link rfl)

theorem reserveStage_portsKept (h : PortsKept s₀ s) : PortsKept s₀ (reserveStage s) := by
  simp only [reserveStage]
  split
  · have hrequested : ∀ (t : State) d a b c, PortsKept s₀ t → PortsKept s₀ (reserveRequest d (raise .reserveReached a b c t)) :=
      fun t d a b c ht => reserveRequest_portsKept d (raise_portsKept _ a b c ht)
    split
    · exact hrequested _ _ _ _ _ (h.of_link rfl)
    · exact forEach_portsKept (fun c _ => cut_portsKept .source c) _ (hrequested _ _ _ _ _ (h.of_link rfl))
  · exact h

theorem rideEvaluation_portsKept (h : PortsKept s₀ s) : PortsKept s₀ (rideEvaluation s) := by
  have hstamped : PortsKept s₀ (s.modSource fun x => { x with lastEval := some s.now }) := h.of_link rfl
  exact .ite (.ite (deplete_portsKept hstamped)
    (testAllOff_portsKept (reserveStage_portsKept (ladder_portsKept hstamped)))) h

/-! ### The hand-overs -/

theorem sourceTests_portsKept (h : PortsKept s₀ s) : PortsKept s₀ (sourceTests s) :=
  chargeFirstTest_portsKept (testReturn_portsKept (testAllOff_portsKept h))

theorem useOrder_portsKept (h : PortsKept s₀ s) : PortsKept s₀ (useOrder s) := .ite (h.of_link rfl) h

theorem handOver_portsKept (h : PortsKept s₀ s) : PortsKept s₀ (handOver s) := by
  have hused : ∀ f, PortsKept s₀ ((useOrder s).modWork f) := fun f => (useOrder_portsKept h).of_link rfl
  exact .ite (evaluate_portsKept h) (.ite (planWork_portsKept h)
    (.ite (rideEvaluation_portsKept (h.of_link rfl)) (.ite (sourceTests_portsKept (hused _))
    (.ite (examine_portsKept (hused _)) (.ite (testLoss_portsKept (h.of_link rfl))
    (.ite (takeGraceExpiry_portsKept (h.of_link rfl)) (.ite (autoRestore_portsKept (h.of_link rfl))
    (.ite (requestUpRun_portsKept (h.of_link rfl)) h))))))))

/-- The hand-overs of a step keep the report queues in order. -/
theorem settle_portsKept (h : PortsKept s₀ s) : PortsKept s₀ (settle s) :=
  settle_keeps (PortsKept s₀) (fun _ => handOver_portsKept) s h

end

end Sys2Proof.Machine
end

section
/-! The shelf link, the leak detection, the valves, a start and a reset keep the law of the report queues
(R177); but for start and reset they keep the lines of the ports too (R173). -/

namespace Sys2Proof.Machine

section
variable {s₀ s : State}

/-! ### Shelf and bus -/

theorem setRectState_portsKept (n : RmSlot) (st : RectState) (h : PortsKept s₀ s) : PortsKept s₀ (setRectState n st s) :=
  .ite h (raise_portsKept _ _ _ _ (h.of_link rfl))

theorem setBattState_portsKept (n : BmSlot) (st : BattState) (h : PortsKept s₀ s) : PortsKept s₀ (setBattState n st s) :=
  .ite h (raise_portsKept _ _ _ _ (h.of_link rfl))

theorem handRect_portsKept (h : PortsKept s₀ s) : PortsKept s₀ (handRect s) :=
  .ite (.ite (testLoss_portsKept (h.of_link rfl)) (h.of_link rfl)) (testLoss_portsKept (h.of_link rfl))

theorem handBatt_portsKept (h : PortsKept s₀ s) : PortsKept s₀ (handBatt s) := .ite (h.of_link rfl) (h.of_link rfl)

theorem takeSample_portsKept (x : SlotReport) (h : PortsKept s₀ s) : PortsKept s₀ (takeSample x s) := by
  cases x with
  | rect n x => exact handRect_portsKept (setRectState_portsKept n _ (h.of_link rfl))
  | batt n x => exact handBatt_portsKept (setBattState_portsKept n _ (h.of_link rfl))

theorem miss_portsKept (p : SlotPos) (h : PortsKept s₀ s) : PortsKept s₀ (miss p s) := by
  simp only [miss]
  split
  · exact .ite (.ite (handRect_portsKept (setRectState_portsKept _ .lost (h.of_link rfl))) (h.of_link rfl)) h
  · exact .ite (.ite (handBatt_portsKept (setBattState_portsKept _ .lost (h.of_link rfl))) (h.of_link rfl)) h

theorem beginRound_portsKept (h : PortsKept s₀ s) : PortsKept s₀ (beginRound s) := h.of_link rfl

theorem nextPoll_portsKept (p : SlotPos) (h : PortsKept s₀ s) : PortsKept s₀ (nextPoll p s) :=
  .ite (.ite (h.of_link rfl) (h.of_link rfl)) (h.of_link rfl)

theorem takeRoundExpiry_portsKept (h : PortsKept s₀ s) : PortsKept s₀ (takeRoundExpiry s) :=
  .ite (.ite (h.of_link rfl) (beginRound_portsKept h)) h

theorem endPoll_portsKept (p : SlotPos) {f : State → State} (hf : ∀ t, PortsKept s₀ t → PortsKept s₀ (f t))
    (h : PortsKept s₀ s) : PortsKept s₀ (endPoll p f s) := hf _ (nextPoll_portsKept p (h.of_link rfl))

theorem takeResponse_portsKept (x : ShelfReply) (h : PortsKept s₀ s) : PortsKept s₀ (takeResponse x s) := by
  simp only [takeResponse]
  split
  · exact h.of_link rfl
  · split
    · exact h.of_link rfl
    · exact endPoll_portsKept _
        (fun t ht => .ite (takeSample_portsKept _ ht) (miss_portsKept _ (ht.of_link rfl))) h

theorem takeResponseTimeout_portsKept (h : PortsKept s₀ s) : PortsKept s₀ (takeResponseTimeout s) := by
  simp only [takeResponseTimeout]
  split
  · exact endPoll_portsKept _ (fun _ => miss_portsKept _) h
  · exact h

theorem declareLow_portsKept (h : PortsKept s₀ s) : PortsKept s₀ (declareLow s) := testLoss_portsKept (h.of_link rfl)

theorem takeBusSample_portsKept (mv : Nat) (h : PortsKept s₀ s) : PortsKept s₀ (takeBusSample mv s) := by
  simp only [takeBusSample]
  split
  · exact .ite (testReturn_portsKept (h.of_link rfl)) (h.of_link rfl)
  · split
    · split
      · exact h.of_link rfl
      · exact .ite (declareLow_portsKept (h.of_link rfl)) (h.of_link rfl)
    · exact h.of_link rfl

theorem takeDebounceExpiry_portsKept (h : PortsKept s₀ s) : PortsKept s₀ (takeDebounceExpiry s) :=
  .ite (declareLow_portsKept h) h

/-! ### Valves -/

theorem moveValve_portsKept (n : ValveIx) (st : ValveState) (t : Option Timer) (h : PortsKept s₀ s) :
    PortsKept s₀ (moveValve n st t s) := raise_portsKept _ _ _ _ (h.of_link rfl)

theorem driveClosed_portsKept (n : ValveIx) (h : PortsKept s₀ s) : PortsKept s₀ (driveClosed n s) := by
  simp only [driveClosed]
  exact .ite (moveValve_portsKept _ _ _ (moveValve_portsKept _ _ _ h)) (moveValve_portsKept _ _ _ h)

theorem driveOpen_portsKept (n : ValveIx) (h : PortsKept s₀ s) : PortsKept s₀ (driveOpen n s) := by
  simp only [driveOpen]
  exact .ite (moveValve_portsKept _ _ _ (moveValve_portsKept _ _ _ h)) (moveValve_portsKept _ _ _ h)

theorem joinDemand_portsKept (z : Zone) (n : ValveIx) (h : PortsKept s₀ s) : PortsKept s₀ (joinDemand z n s) := by
  simp only [joinDemand]
  split
  · exact h
  · split
    case h_1 | h_2 => exact driveClosed_portsKept n (h.of_link rfl)
    all_goals exact h.of_link rfl

theorem takeContact_portsKept (n : ValveIx) (e : ValveEnd) (h : PortsKept s₀ s) : PortsKept s₀ (takeContact n e s) := by
  cases e with
  | closed => exact .ite (moveValve_portsKept n .closed none (h.of_link rfl)) (h.of_link rfl)
  | opened => exact .ite (moveValve_portsKept n .opened none (h.of_link rfl)) (h.of_link rfl)

theorem dropContact_portsKept (n : ValveIx) (e : ValveEnd) (h : PortsKept s₀ s) : PortsKept s₀ (dropContact n e s) := by
  cases e <;> exact h.of_link rfl

theorem takeTravelExpiry_portsKept (n : ValveIx) (h : PortsKept s₀ s) : PortsKept s₀ (takeTravelExpiry n s) := by
  have hfault : ∀ k, PortsKept s₀ (faultValve n k s) := fun k => raise_portsKept _ _ _ _ (h.of_link rfl)
  simp only [takeTravelExpiry]
  split
  · split
    · exact hfault 1
    · exact hfault 2
    all_goals exact h
  · exact h

/-! ### Leaks -/

theorem captureEntry_portsKept (z : Zone) (k : LeakCause) (h : PortsKept s₀ s) : PortsKept s₀ (captureEntry z k s) := by
  obtain ⟨x, hx⟩ := captureEntry_spec z k s
  exact h.of_link (by rw [hx])

theorem joinHold_portsKept (z : Zone) (c : Ch) (h : PortsKept s₀ s) : PortsKept s₀ (joinHold z c s) := .ite h (h.of_link rfl)

theorem forEach_joinHold_portsKept (z : Zone) (l : List Ch) (h : PortsKept s₀ s) : PortsKept s₀ (forEach l (joinHold z) s) :=
  forEach_portsKept (fun c _ => joinHold_portsKept z c) l h

theorem forEach_leakStop_portsKept {f : Ch → State → State} (hf : ∀ c t, PortsKept s₀ t → PortsKept s₀ (f c t)) (l : List Ch)
    (h : PortsKept s₀ s) : PortsKept s₀ (forEach l (leakStop f) s) := by
  refine forEach_portsKept (fun c t ht => ?_) l h
  exact .ite ht (hf c t ht)

theorem respondChannels_portsKept (z : Zone) (k : LeakCause) (h : PortsKept s₀ s) : PortsKept s₀ (respondChannels z k s) := by
  have hcaptured := captureEntry_portsKept z k h
  rw [respondChannels]
  split
  · exact hcaptured
  · exact forEach_leakStop_portsKept (fun c _ => gracefulStop_portsKept .leak c) _ (forEach_joinHold_portsKept z _ hcaptured)
  · exact forEach_leakStop_portsKept (fun c _ => cut_portsKept .leak c) _ (forEach_joinHold_portsKept z _ hcaptured)

theorem applyResponse_portsKept (z : Zone) (k : LeakCause) (h : PortsKept s₀ s) : PortsKept s₀ (applyResponse z k s) := by
  have hchans := respondChannels_portsKept z k h
  rw [applyResponse_eq]
  split
  · exact joinDemand_portsKept z _ hchans
  · exact hchans

theorem clearOverride_portsKept (c : Ch) (h : PortsKept s₀ s) : PortsKept s₀ (clearOverride c s) := h.of_link rfl

theorem escalateChannels_portsKept (z : Zone) (h : PortsKept s₀ s) : PortsKept s₀ (escalateChannels z s) := by
  have hcounted : PortsKept s₀ (countLaterAlarm s) := h.of_link rfl
  rw [escalateChannels]
  split
  · exact hcounted
  · exact forEach_leakStop_portsKept (fun c _ => gracefulStop_portsKept .leak c) _ (forEach_joinHold_portsKept z _ hcounted)
  · exact forEach_portsKept (fun c _ => cut_portsKept .leak c) _
      (forEach_portsKept (fun c _ => clearOverride_portsKept c) _ (forEach_joinHold_portsKept z _ hcounted))

theorem applyEscalation_portsKept (z : Zone) (h : PortsKept s₀ s) : PortsKept s₀ (applyEscalation z s) := by
  have hchans := escalateChannels_portsKept z h
  rw [applyEscalation_eq]
  split
  · exact forEach_portsKept (fun v _ => joinDemand_portsKept z v) _ hchans
  · exact hchans

theorem enableZone_portsKept (z : Zone) (h : PortsKept s₀ s) : PortsKept s₀ (enableZone z s) := .ite (h.of_link rfl) h

theorem disableZone_portsKept (z : Zone) (h : PortsKept s₀ s) : PortsKept s₀ (disableZone z s) := by
  simp only [disableZone]
  split
  case h_1 | h_2 => exact h.of_link rfl
  all_goals exact h

theorem judgeWatch_portsKept (z : Zone) (h : PortsKept s₀ s) : PortsKept s₀ (judgeWatch z s).1 := by
  simp only [judgeWatch]
  split
  · split
    · exact raise_portsKept _ _ _ _ (h.of_link rfl)
    · exact h
  · exact h.of_link rfl

theorem sampleZone_portsKept (z : Zone) (x : Nat) (h : PortsKept s₀ s) : PortsKept s₀ (sampleZone z x s).1 := by
  simp only [sampleZone]
  split
  · exact h.of_link rfl
  · generalize hu : (if _ = LoopClass.wet then count .leakWetSamples _ else _ : State) = u
    have hread : PortsKept s₀ u := hu ▸ .ite (h.of_link rfl) (h.of_link rfl)
    split
    · exact judgeWatch_portsKept z hread
    · split
      · exact hread
      · split
        · exact hread
        · exact judgeWatch_portsKept z (hread.of_link rfl)
    all_goals exact hread

theorem sampleAll_portsKept (x : Vector Nat 16) (h : PortsKept s₀ s) : PortsKept s₀ (sampleAll x s).1 := by
  have hfold : ∀ (l : List Zone) (y : State × List (Zone × LeakCause)), PortsKept s₀ y.1 →
      PortsKept s₀ (l.foldl (fun x' z =>
        let y := sampleZone z x[z] x'.1
        match y.2 with
        | some c => (y.1, x'.2 ++ [(z, c)])
        | none => (y.1, x'.2)) y).1 := by
    intro l
    induction l with
    | nil => exact fun _ hy => hy
    | cons z l ih =>
      intro y hy
      refine ih _ ?_
      dsimp only
      split <;> exact sampleZone_portsKept z _ hy
  exact hfold _ _ h

theorem latchZone_portsKept (x : Zone × LeakCause) (h : PortsKept s₀ s) : PortsKept s₀ (latchZone x s) := by
  have hresponse := applyResponse_portsKept x.1 x.2 h
  simp only [latchZone]
  split
  · exact raise_portsKept _ _ _ _ hresponse
  · exact hresponse

theorem orders_portsKept (n : Nat) (h : PortsKept s₀ s) : PortsKept s₀ { s with orders := n } := h.of_link rfl

theorem takeLeakScan_portsKept (x : Vector Nat 16) (h : PortsKept s₀ s) : PortsKept s₀ (takeLeakScan x s) := by
  have hsampled : ∀ t, PortsKept s₀ (sampleAll x (s.setScan t)).1 := fun t => sampleAll_portsKept x (h.of_link rfl)
  simp only [takeLeakScan]
  exact forEach_portsKept (fun x _ => latchZone_portsKept x) _ (.ite (orders_portsKept _ (hsampled _)) (hsampled _))

theorem takeEscalation_portsKept (z : Zone) (h : PortsKept s₀ s) : PortsKept s₀ (takeEscalation z s) := by
  have hacted : PortsKept s₀ (applyEscalation z (escalated z s)) := applyEscalation_portsKept z (h.of_link rfl)
  exact .ite (raise_portsKept _ _ _ _ hacted) h

theorem leaveHold_portsKept (z : Zone) (c : Ch) (h : PortsKept s₀ s) : PortsKept s₀ (leaveHold z c s) :=
  .ite (.ite (h.of_link rfl) (h.of_link rfl)) h

theorem leaveDemand_portsKept (z : Zone) (v : ValveIx) (h : PortsKept s₀ s) : PortsKept s₀ (leaveDemand z v s) := h.of_link rfl

theorem clearZone_portsKept (z : Zone) (h : PortsKept s₀ s) : PortsKept s₀ (clearZone z s) :=
  forEach_portsKept (fun v _ => leaveDemand_portsKept z v) _
    (forEach_portsKept (fun c _ => leaveHold_portsKept z c) _ (h.of_link rfl))

/-! ### Start, reset and power -/

theorem blank_reportLaw (p : Power) (s : State) : ReportLaw (blank p s) := by
  intro q
  cases q <;> exact reportOrder_nil

theorem coldBlocks_reportLaw (pins : PinSample) (s : State) : ReportLaw (coldBlocks pins s) := by
  intro q
  cases q <;> exact reportOrder_nil

theorem completeLoad_reportLaw (pins : PinSample) (s : State) : ReportLaw (completeLoad pins s) := by
  have hvalve : ∀ v t, PortsKept (coldBlocks pins s) t → PortsKept (coldBlocks pins s) (reportColdValve v t) := fun v t ht =>
    .ite (raise_portsKept _ _ _ _ ht) ht
  have hload : ∀ t, PortsKept (coldBlocks pins s) t → PortsKept (coldBlocks pins s) (reportLoad t) := fun t ht => by
    simp only [reportLoad]
    split
    · exact raise_portsKept _ _ _ _ ht
    · exact ht
  have hcold : ∀ f, PortsKept (coldBlocks pins s) (beginRound ((coldBlocks pins s).modSource f)) := fun f =>
    beginRound_portsKept (modSource_portsKept f (.refl _))
  have hloaded := fun f => hload _ (forEach_portsKept hvalve allValves (hcold f))
  simp only [completeLoad]
  exact (modWork_portsKept _ (hloaded _)).queues (coldBlocks_reportLaw pins s)

/-- A warm reset empties both report queues (R183). -/
theorem warmBlocks_reportLaw (k : ResetKind) (s : State) : ReportLaw (warmBlocks k s) := by
  intro q
  cases q <;> exact reportOrder_nil

theorem resetTests_portsKept (h : PortsKept s₀ s) : PortsKept s₀ (resetTests s) := by
  have htested : PortsKept s₀ (if s.source.state = .ride then testReturn (evaluate s) else markEval (testLoss s)) :=
    .ite (testReturn_portsKept (evaluate_portsKept h)) (modWork_portsKept _ (testLoss_portsKept h))
  simp only [resetTests]
  exact modWork_portsKept _ (.ite (modWork_portsKept _ htested) htested)

theorem warmReset_reportLaw (k : ResetKind) (s : State) : ReportLaw (warmReset k s) :=
  (resetTests_portsKept (.refl _)).queues (warmBlocks_reportLaw k s)

theorem beginCommandReset_reportLaw {s : State} (h : ReportLaw s) : ReportLaw (beginCommandReset s) :=
  .ite (warmReset_reportLaw .warmCommand s) h

theorem completeSave_portsKept (h : PortsKept s₀ s) : PortsKept s₀ (completeSave s) := by
  simp only [completeSave]
  split
  · exact raise_portsKept _ _ _ _ (h.of_link rfl)
  all_goals exact h

theorem loadDefaults_portsKept (h : PortsKept s₀ s) : PortsKept s₀ (loadDefaults s) := by
  have hzones : ∀ t, PortsKept s₀ t → PortsKept s₀ (setPolicy defaultCfg.charge.policy
      (endSilence (forEach allZones enableZone t))) := fun t ht =>
    setPolicy_portsKept _ (endSilence_portsKept (forEach_portsKept (fun z _ => enableZone_portsKept z) _ ht))
  simp only [loadDefaults]
  exact raise_portsKept _ _ _ _ (modWork_portsKept _
    (.ite (modWork_portsKept _ (hzones _ (h.of_link rfl))) (hzones _ (h.of_link rfl))))

end

end Sys2Proof.Machine
end

section
/-! What a command makes of the state: refused it changes nothing (R174), accepted it keeps the lines of the ports and the
report queues in order (R173, R177). -/

namespace Sys2Proof.Machine

/-- A command either leaves the state as it was, or is not refused and keeps the ports as reports do. -/
def UnchangedOrKept (s : State) (x : State × Reply) : Prop :=
  x.1 = s ∨ (∀ c, x.2.status ≠ .err c) ∧ PortsKept s x.1

section
variable {s : State}

/-- A refused command changes nothing (R174). -/
theorem UnchangedOrKept.refused {x : State × Reply} {c : Code} (h : UnchangedOrKept s x) (hc : x.2.status = .err c) :
    x.1 = s := h.resolve_right fun hx => hx.1 c hc

theorem UnchangedOrKept.portsKept {x : State × Reply} (h : UnchangedOrKept s x) : PortsKept s x.1 :=
  h.elim (fun he => he.symm ▸ .refl s) And.right

/-- A read, or a refusal. -/
theorem UnchangedOrKept.same (s : State) (r : Reply) : UnchangedOrKept s (s, r) := .inl rfl

theorem UnchangedOrKept.of_ok {t : State} (fs : List Field) (h : PortsKept s t) :
    UnchangedOrKept s (t, okWith fs) := .inr ⟨nofun, h⟩

theorem setReply_accepts (b : Bool) (fs : List Field) (c : Code) : (setReply b fs).status ≠ .err c := by
  cases b <;> exact nofun

/-- An accepted setting command answers OK or ADJUSTED (R185). -/
theorem UnchangedOrKept.of_set {t : State} (b : Bool) (fs : List Field) (h : PortsKept s t) :
    UnchangedOrKept s (t, setReply b fs) := .inr ⟨setReply_accepts b fs, h⟩

/-- Whichever way a test goes. -/
theorem UnchangedOrKept.ite {p : Prop} [Decidable p] {x y : State × Reply} (hx : UnchangedOrKept s x)
    (hy : UnchangedOrKept s y) : UnchangedOrKept s (if p then x else y) := by
  split
  · exact hx
  · exact hy

/-- A test that refuses a command. -/
theorem UnchangedOrKept.unless {p : Prop} [Decidable p] {c : Code} {x : State × Reply} (hx : UnchangedOrKept s x) :
    UnchangedOrKept s (if p then refuse c s else x) := .ite (.same s _) hx

/-- A command that leaves the ports alone altogether. -/
theorem PortsKept.of_same {t : State} (hl : t.link = s.link) : PortsKept s t := (PortsKept.refl s).of_link hl

theorem withIndex_unchangedOrKept {n : Nat} {x : Option Int} {k : Fin n → State × Reply}
    (hk : ∀ i, UnchangedOrKept s (k i)) : UnchangedOrKept s (withIndex n x s k) := by
  simp only [withIndex]
  split
  · exact .same s _
  · split
    · exact .same s _
    · exact hk _

theorem withTarget_unchangedOrKept {a : TargetArgs} {k : List Ch → State × Reply}
    (hk : ∀ l, UnchangedOrKept s (k l)) : UnchangedOrKept s (withTarget a s k) := by
  simp only [withTarget]
  split
  · exact withIndex_unchangedOrKept fun _ => hk _
  · exact withIndex_unchangedOrKept fun _ => hk _
  · exact .same s _
  · exact .same s _

end

section
variable (s : State)

/-! ### Channels, budget and plan (Chapters 1 to 3) -/

theorem doChannelStart_unchangedOrKept (a : TargetArgs) : UnchangedOrKept s (doChannelStart a s) := by
  simp only [doChannelStart]
  split
  · exact .same s _
  · refine withIndex_unchangedOrKept fun c => ?_
    split
    · exact .same s _
    · exact .unless (.of_ok _ (join_portsKept _ _ (.refl s)))

theorem doChannelStartGang_unchangedOrKept (a : TargetArgs) : UnchangedOrKept s (doChannelStartGang a s) := by
  simp only [doChannelStartGang]
  split
  · exact .same s _
  · refine withIndex_unchangedOrKept fun g => .unless ?_
    split
    · exact .same s _
    · exact .same s _
    · exact .of_ok _ (join_portsKept _ _ (.refl s))

theorem doChannelStop_unchangedOrKept (a : TargetArgs) : UnchangedOrKept s (doChannelStop a s) :=
  withTarget_unchangedOrKept fun l => .of_ok _ (forEach_portsKept (fun c _ => gracefulStop_portsKept .host c) l (.refl s))

theorem doChannelCut_unchangedOrKept (a : TargetArgs) : UnchangedOrKept s (doChannelCut a s) :=
  withTarget_unchangedOrKept fun l => .of_ok _ (forEach_portsKept (fun c _ => cut_portsKept .host c) l (.refl s))

theorem doChannelClear_unchangedOrKept (x : Option Int) : UnchangedOrKept s (doChannelClear x s) :=
  withIndex_unchangedOrKept fun c =>
    .ite (.of_ok _ (enterState_portsKept c .off (.of_same rfl))) (.same s _)

theorem storeChanCfg_portsKept {s₀ s : State} (c : Ch) (g : ChanCfg) (h : PortsKept s₀ s) : PortsKept s₀ (storeChanCfg c g s) := by
  have hset : ∀ f, PortsKept s₀ (s.modCfg f) := fun f => h.of_link rfl
  have heval : ∀ f, PortsKept s₀ (markEval (s.modCfg f)) := fun f => h.of_link rfl
  have hshed : ∀ t, PortsKept s₀ t → PortsKept s₀ (if g.tier = 0 then clearShed c t else t) := fun t ht =>
    .ite (ht.of_link rfl) ht
  have hstored := fun f => hshed _ (.ite (p := g.alloc = (s.chCfg c).alloc) (hset f) (heval f))
  exact .ite (modWork_portsKept _ (hstored _)) (hstored _)

theorem doChannelSet_unchangedOrKept (x : Option Int) (a : ChannelSetArgs) : UnchangedOrKept s (doChannelSet x a s) :=
  .unless (withIndex_unchangedOrKept fun c => .unless (.unless (.of_set _ _ (storeChanCfg_portsKept c _ (.refl s)))))

theorem storePolicy_portsKept {s₀ s : State} (p : PolicyCfg) (h : PortsKept s₀ s) : PortsKept s₀ (storePolicy p s) := by
  simp only [storePolicy]
  exact modWork_portsKept _ (.ite (h.of_link rfl) (watchHead_portsKept (h.of_link rfl)))

theorem doPolicySet_unchangedOrKept (a : PolicyArgs) : UnchangedOrKept s (doPolicySet a s) :=
  .unless (.of_set _ _ (storePolicy_portsKept _ (.refl s)))

theorem doBudgetRead_unchangedOrKept (x : Option BudgetSel) : UnchangedOrKept s (doBudgetRead x s) := by
  simp only [doBudgetRead]
  split <;> exact .same s _

theorem doAdmissionRead_unchangedOrKept (x : Option Int) : UnchangedOrKept s (doAdmissionRead x s) := by
  simp only [doAdmissionRead]
  split
  · exact .same s _
  · split
    · exact .same s _
    · split <;> exact .same s _

theorem doPlanWrite_unchangedOrKept (a : PlanWriteArgs) : UnchangedOrKept s (doPlanWrite a s) := by
  have hstore : ∀ r up down, PortsKept s (storePlan r up down s) := fun _ _ _ => .of_same rfl
  simp only [doPlanWrite]
  refine .unless ?_
  split
  · split
    · exact .unless (.of_set _ _ (hstore _ _ _))
    · exact .of_ok _ (hstore _ _ _)
  · exact .same s _

theorem doPlanRead_unchangedOrKept (x : Option Int) : UnchangedOrKept s (doPlanRead x s) := by
  simp only [doPlanRead]
  split
  · split <;> exact .same s _
  · exact .same s _

theorem doPlanStart_unchangedOrKept (k : Option RunKind) : UnchangedOrKept s (doPlanStart k s) := by
  simp only [doPlanStart]
  split
  · exact .same s _
  · refine .unless ?_
    split
    · exact .same s _
    · exact .unless (.of_ok _ (.of_same rfl))

theorem doPlanPause_unchangedOrKept : UnchangedOrKept s (doPlanPause s) := by
  simp only [doPlanPause]
  split
  · exact .same s _
  · split
    case h_1 | h_2 => exact .of_ok _ (pauseRun_portsKept .host (.refl s))
    case h_3 => exact .of_ok _ (.of_same rfl)
    all_goals exact .same s _

theorem doPlanResume_unchangedOrKept : UnchangedOrKept s (doPlanResume s) := by
  simp only [doPlanResume]
  split
  · exact .same s _
  · exact .unless (.unless (.of_ok _ (settle_portsKept (resumeRun_portsKept (.refl s)))))

theorem doPlanStop_unchangedOrKept : UnchangedOrKept s (doPlanStop s) :=
  .ite (.of_ok _ (abortRun_portsKept 2 (.refl s))) (.same s _)

theorem doPlanStatus_unchangedOrKept : UnchangedOrKept s (doPlanStatus s) := by
  simp only [doPlanStatus]
  split <;> exact .same s _

/-! ### Shelf, source and restore (Chapters 4 to 6) -/

theorem doModuleRead_unchangedOrKept (x y : Option Int) : UnchangedOrKept s (doModuleRead x y s) := by
  simp only [doModuleRead]
  split
  · exact .same s _
  · exact withIndex_unchangedOrKept fun _ => .same s _
  · exact withIndex_unchangedOrKept fun _ => .same s _
  · exact .same s _

theorem enableRect_portsKept {s₀ s : State} (n : RmSlot) (h : PortsKept s₀ s) : PortsKept s₀ (enableRect n s) :=
  .ite (handRect_portsKept (setRectState_portsKept n .starting (h.of_link rfl))) (h.of_link rfl)

theorem disableRect_portsKept {s₀ s : State} (n : RmSlot) (h : PortsKept s₀ s) : PortsKept s₀ (disableRect n s) :=
  .ite (handRect_portsKept (setRectState_portsKept n .disabled (h.of_link rfl))) (h.of_link rfl)

theorem doRectifierEnable_unchangedOrKept (x : Option Int) : UnchangedOrKept s (doRectifierEnable x s) :=
  withIndex_unchangedOrKept fun n => .ite (.same s _) (.of_ok _ (enableRect_portsKept n (.refl s)))

theorem doRectifierDisable_unchangedOrKept (x : Option Int) : UnchangedOrKept s (doRectifierDisable x s) :=
  withIndex_unchangedOrKept fun n => .ite (.same s _) (.unless (.of_ok _ (disableRect_portsKept n (.refl s))))

theorem doSourceRead_unchangedOrKept (b : Bool) : UnchangedOrKept s (doSourceRead b s) := by
  simp only [doSourceRead]
  split <;> exact .same s _

theorem storeRide_portsKept {s₀ s : State} (r : RideCfg) (h : PortsKept s₀ s) : PortsKept s₀ (storeRide r s) := by
  simp only [storeRide]
  split
  · exact h.of_link rfl
  · exact .ite (h.of_link rfl) (chargeFirstTest_portsKept (h.of_link rfl))
  all_goals exact h.of_link rfl

theorem doRideSet_unchangedOrKept (a : RideArgs) : UnchangedOrKept s (doRideSet a s) :=
  .unless (.of_set _ _ (storeRide_portsKept _ (.refl s)))

theorem storeCharge_portsKept {s₀ s : State} (g : ChargeCfg) (h : PortsKept s₀ s) : PortsKept s₀ (storeCharge g s) := by
  have hset : ∀ f, PortsKept s₀ (markEval (s.modCfg f)) := fun f => h.of_link rfl
  have hwindow := fun f => PortsKept.ite (p := g.window = s.cfg.charge.window) (hset f) (endSilence_portsKept (hset f))
  exact .ite (hwindow _) (setPolicy_portsKept g.policy (hwindow _))

theorem doChargeSet_unchangedOrKept (a : ChargeArgs) : UnchangedOrKept s (doChargeSet a s) :=
  .unless (.of_set _ _ (storeCharge_portsKept _ (.refl s)))

theorem doRestore_unchangedOrKept (t : Option TierArg) : UnchangedOrKept s (doRestore t s) := by
  have hplace : ∀ l fs, UnchangedOrKept s (forEach l placeRestore s, okWith fs) := fun l fs =>
    .of_ok fs (forEach_portsKept (fun c _ => join_portsKept (.single c) .restore) l (.refl s))
  simp only [doRestore]
  split
  · exact .same s _
  · exact .ite (hplace _ _) (.same s _)
  · split
    · exact .same s _
    · exact .ite (hplace _ _) (.same s _)

/-! ### Zones, patterns, responses, valves and the override (Chapters 7 and 8) -/

theorem doLeakClear_unchangedOrKept (x : Option Int) : UnchangedOrKept s (doLeakClear x s) := by
  refine withIndex_unchangedOrKept fun z => .ite (.same s _) (.ite (.same s _) ?_)
  split
  · exact .of_ok _ (clearZone_portsKept z (.refl s))
  · exact .same s _

theorem storeZone_portsKept {s₀ s : State} (z : Zone) (g : ZoneCfg) (en : Option Bool) (h : PortsKept s₀ s) :
    PortsKept s₀ (storeZone z g en s) := by
  simp only [storeZone]
  split
  · exact enableZone_portsKept z (h.of_link rfl)
  · exact disableZone_portsKept z (h.of_link rfl)
  · exact h.of_link rfl

theorem doZoneSet_unchangedOrKept (a : ZoneArgs) : UnchangedOrKept s (doZoneSet a s) := by
  have hscan : PortsKept s (storeScan a.scan s) := .of_same rfl
  simp only [doZoneSet]
  refine .unless ?_
  split
  · exact .of_set _ _ hscan
  · exact .same s _
  · exact withIndex_unchangedOrKept fun z =>
      .unless (.unless (.unless (.of_set _ _ (storeZone_portsKept z _ a.en hscan))))

theorem doPatternSet_unchangedOrKept (a : PatternArgs) : UnchangedOrKept s (doPatternSet a s) := by
  simp only [doPatternSet]
  refine .unless ?_
  split
  · exact .same s _
  · exact withIndex_unchangedOrKept fun _ => .of_set _ _ (.of_same rfl)

theorem doZoneRead_unchangedOrKept (x y : Option Int) : UnchangedOrKept s (doZoneRead x y s) := by
  simp only [doZoneRead]
  split
  · exact .same s _
  · exact withIndex_unchangedOrKept fun _ => .same s _
  · exact withIndex_unchangedOrKept fun _ => .same s _
  · exact .same s _

theorem doResponseSet_unchangedOrKept (a : ResponseArgs) : UnchangedOrKept s (doResponseSet a s) := by
  simp only [doResponseSet]
  refine .unless ?_
  split
  · exact .of_set _ _ (.of_same rfl)
  · exact .same s _
  · refine withIndex_unchangedOrKept fun z => ?_
    split
    · exact .same s _
    · exact .of_set _ _ (.of_same rfl)

theorem doOverridePrepare_unchangedOrKept (p : Port) (x : Option Int) :
    UnchangedOrKept s (doOverridePrepare p x s) := by
  refine withIndex_unchangedOrKept fun c => ?_
  split
  · exact .same s _
  · exact .of_ok _ (.of_same rfl)

theorem closeByHost_portsKept {s₀ s : State} (v : ValveIx) (h : PortsKept s₀ s) : PortsKept s₀ (closeByHost v s) := by
  simp only [closeByHost]
  split
  case h_4 | h_5 => exact h.of_link rfl
  all_goals exact driveClosed_portsKept v (h.of_link rfl)

theorem openByHost_portsKept {s₀ s : State} (v : ValveIx) (h : PortsKept s₀ s) : PortsKept s₀ (openByHost v s) := by
  simp only [openByHost]
  split
  case h_4 | h_5 => exact h.of_link rfl
  all_goals exact driveOpen_portsKept v (h.of_link rfl)

theorem doValveClose_unchangedOrKept (x : Option Int) : UnchangedOrKept s (doValveClose x s) :=
  withIndex_unchangedOrKept fun v => .of_ok _ (closeByHost_portsKept v (.refl s))

theorem doValveOpen_unchangedOrKept (x : Option Int) : UnchangedOrKept s (doValveOpen x s) :=
  withIndex_unchangedOrKept fun v => .ite (.of_ok _ (openByHost_portsKept v (.refl s))) (.same s _)

theorem doValveRead_unchangedOrKept (x : Option Int) : UnchangedOrKept s (doValveRead x s) := by
  simp only [doValveRead]
  split
  · exact .same s _
  · exact withIndex_unchangedOrKept fun _ => .same s _

/-! ### Link, system and tallies (Chapters 9 and 10) -/

theorem fetchEntries_unchangedOrKept (p : Port) (n : Nat) : UnchangedOrKept s (fetchEntries p n s) :=
  .inr ⟨nofun, modPort_portsKept p (f := fun c => { c with queue := c.queue.drop n, lost := 0 }) (.refl s)
    (fun _ => rfl) fun hq => hq.dropped n⟩

theorem doFetch_unchangedOrKept (p : Port) (x : Option Int) : UnchangedOrKept s (doFetch p x s) := by
  simp only [doFetch]
  split
  · exact fetchEntries_unchangedOrKept s p 8
  · exact .ite (fetchEntries_unchangedOrKept s p _) (.same s _)

theorem doRouteSet_unchangedOrKept (a : RouteArgs) : UnchangedOrKept s (doRouteSet a s) :=
  .unless (.of_ok _ (.of_same rfl))

theorem doStatusClear_unchangedOrKept (g : Option GroupArg) : UnchangedOrKept s (doStatusClear g s) := by
  have hflags : ∀ l : List Group, PortsKept s
      (s.modLink fun k => { k with flags := l.foldl (fun f g => f.lower g) k.flags }) := fun l =>
    modFlags_portsKept (fun k => l.foldl (fun f g => f.lower g) k.flags) (.refl s)
  simp only [doStatusClear]
  split
  · exact .same s _
  · exact .of_ok _ (hflags _)
  · exact .of_ok _ (hflags _)

theorem doConfigSave_unchangedOrKept : UnchangedOrKept s (doConfigSave s) := by
  simp only [doConfigSave]
  split
  · exact .same s _
  · exact .of_ok _ (.of_same rfl)
  · exact .of_ok _ (.of_same rfl)

theorem doConfigDefaults_unchangedOrKept : UnchangedOrKept s (doConfigDefaults s) :=
  .unless (.unless (.unless (.of_ok _ (loadDefaults_portsKept (.refl s)))))

theorem doTallySet_unchangedOrKept (a : TallyArgs) : UnchangedOrKept s (doTallySet a s) := by
  simp only [doTallySet]
  refine .unless ?_
  split
  · exact .unless (.of_ok _ (.of_same rfl))
  · exact .same s _

theorem onCounter_unchangedOrKept (x : Option Int) (f : CtrIx → Tally → Tally) : UnchangedOrKept s (onCounter x s f) :=
  withIndex_unchangedOrKept fun _ => .unless (.of_ok _ (.of_same rfl))

theorem doTallyRead_unchangedOrKept (x : Option Int) : UnchangedOrKept s (doTallyRead x s) := by
  simp only [doTallyRead]
  split
  · exact withIndex_unchangedOrKept fun _ => .same s _
  · exact .same s _

/-! ### All commands -/

/-- Every command but OVERRIDE COMMIT changes nothing when it is refused, and keeps the ports as reports do; an event
is no line. -/
theorem runCommand_unchangedOrKept {i : Instr} (hi : ∀ l c, i ≠ .overrideCommit l c) :
    UnchangedOrKept s (runCommand i s) := by
  cases i with
  | overrideCommit l c => exact absurd rfl (hi l c)
  | channelStart l a => exact doChannelStart_unchangedOrKept s a
  | channelStartGang l a => exact doChannelStartGang_unchangedOrKept s a
  | channelStop l a => exact doChannelStop_unchangedOrKept s a
  | channelCut l a => exact doChannelCut_unchangedOrKept s a
  | channelClear l c => exact doChannelClear_unchangedOrKept s c
  | channelSet l c a => exact doChannelSet_unchangedOrKept s c a
  | channelRead l c => exact withIndex_unchangedOrKept fun _ => .same s _
  | policySet l a => exact doPolicySet_unchangedOrKept s a
  | budgetRead l x => exact doBudgetRead_unchangedOrKept s x
  | admissionRead l p => exact doAdmissionRead_unchangedOrKept s p
  | planWrite l a => exact doPlanWrite_unchangedOrKept s a
  | planRead l n => exact doPlanRead_unchangedOrKept s n
  | planStart l k => exact doPlanStart_unchangedOrKept s k
  | planPause l => exact doPlanPause_unchangedOrKept s
  | planResume l => exact doPlanResume_unchangedOrKept s
  | planStop l => exact doPlanStop_unchangedOrKept s
  | planStatus l => exact doPlanStatus_unchangedOrKept s
  | moduleRead l r b => exact doModuleRead_unchangedOrKept s r b
  | rectifierEnable l r => exact doRectifierEnable_unchangedOrKept s r
  | rectifierDisable l r => exact doRectifierDisable_unchangedOrKept s r
  | sourceRead l x => exact doSourceRead_unchangedOrKept s x
  | rideSet l a => exact doRideSet_unchangedOrKept s a
  | chargeSet l a => exact doChargeSet_unchangedOrKept s a
  | restore l t => exact doRestore_unchangedOrKept s t
  | zoneSet l a => exact doZoneSet_unchangedOrKept s a
  | zoneRead l z p => exact doZoneRead_unchangedOrKept s z p
  | patternSet l a => exact doPatternSet_unchangedOrKept s a
  | leakClear l z => exact doLeakClear_unchangedOrKept s z
  | responseSet l a => exact doResponseSet_unchangedOrKept s a
  | overridePrepare l c => exact doOverridePrepare_unchangedOrKept s l.port c
  | overrideLockout l | captureClear l => exact .of_ok _ (.of_same rfl)
  | valveClose l v => exact doValveClose_unchangedOrKept s v
  | valveOpen l v => exact doValveOpen_unchangedOrKept s v
  | valveRead l v => exact doValveRead_unchangedOrKept s v
  | fetch l n => exact doFetch_unchangedOrKept s l.port n
  | routeSet l a => exact doRouteSet_unchangedOrKept s a
  | statusClear l g => exact doStatusClear_unchangedOrKept s g
  | configSave l => exact doConfigSave_unchangedOrKept s
  | configDefaults l => exact doConfigDefaults_unchangedOrKept s
  | tallySet l a => exact doTallySet_unchangedOrKept s a
  | tallyStart l c | tallyStop l c | tallyClear l c => exact onCounter_unchangedOrKept s c _
  | tallyRead l c => exact doTallyRead_unchangedOrKept s c
  | _ => exact .same s _

end

end Sys2Proof.Machine
end

section
/-! A refused command changes nothing (R174), and every step keeps the report queues in order (R177). -/

namespace Sys2Proof.Machine

section
variable {s₀ s : State}

/-! ### OVERRIDE COMMIT (R157) -/

/-- What an OVERRIDE COMMIT makes of the state: as it was, the sequence of its port ended, or the override applied. -/
theorem doOverrideCommit_cases (p : Port) (x : Option Int) (s : State) :
    (doOverrideCommit p x s).1 = s ∨ (doOverrideCommit p x s).1 = cancelOverride p s ∨
      ∃ c, doOverrideCommit p x s = (applyOverride p c (cancelOverride p s), okReply) := by
  simp only [doOverrideCommit]
  split
  · exact .inr (.inl rfl)
  · split
    · exact .inr (.inl rfl)
    · simp only [commitOverride]
      split
      · exact .inl rfl
      · split
        · exact .inl rfl
        · split
          · exact .inr (.inl rfl)
          · split
            · exact .inr (.inl rfl)
            · exact .inr (.inr ⟨_, rfl⟩)

theorem cancelOverride_portsKept (p : Port) (h : PortsKept s₀ s) : PortsKept s₀ (cancelOverride p s) := by
  obtain ⟨r, hr⟩ := cancelOverride_spec p s
  exact h.of_link (by rw [hr])

/-- A cancelled sequence is all that changes (R156). -/
theorem cancelOverride_eq_seq (p : Port) (s : State) :
    cancelOverride p s = { s with resp := { s.resp with seq := (cancelOverride p s).resp.seq } } := by
  simp only [cancelOverride]
  split
  · split <;> rfl
  · rfl

theorem applyOverride_portsKept (p : Port) (c : Ch) (h : PortsKept s₀ s) : PortsKept s₀ (applyOverride p c s) :=
  raise_portsKept _ _ _ _ (h.of_link rfl)

theorem doOverrideCommit_portsKept (p : Port) (x : Option Int) (s : State) :
    PortsKept s (doOverrideCommit p x s).1 := by
  have hcancelled := cancelOverride_portsKept p (.refl s)
  rcases doOverrideCommit_cases p x s with hx | hx | ⟨c, hx⟩
  · rw [hx]
    exact .refl s
  · rwa [hx]
  · rw [hx]
    exact applyOverride_portsKept p c hcancelled

/-- A refused OVERRIDE COMMIT may end the sequence of its port and changes nothing else (R157). -/
theorem doOverrideCommit_refused {p : Port} {x : Option Int} {c : Code}
    (h : (doOverrideCommit p x s).2.status = .err c) :
    (doOverrideCommit p x s).1 = { s with resp := { s.resp with seq := (doOverrideCommit p x s).1.resp.seq } } := by
  rcases doOverrideCommit_cases p x s with hx | hx | ⟨d, hx⟩
  · rw [hx]
  · rw [hx]
    exact cancelOverride_eq_seq p s
  · rw [hx] at h
    exact nomatch h

end

/-- Settles O30: by the block that owns the verb, with the sequence that OVERRIDE COMMIT may end. -/
theorem refusedCommandsChangeNothing : Obligations.RefusedCommandsChangeNothing := by
  intro i s c h
  cases i with
  | overrideCommit l x => exact doOverrideCommit_refused h
  | _ =>
    refine (runCommand_unchangedOrKept s ?_).refused h
    exact fun _ _ => nofun

section
variable {s₀ s t : State}

/-! ### Lines -/

theorem runCommand_portsKept (i : Instr) (s : State) : PortsKept s (runCommand i s).1 := by
  by_cases hi : ∃ l c, i = .overrideCommit l c
  · obtain ⟨l, c, rfl⟩ := hi
    exact doOverrideCommit_portsKept l.port c s
  · exact (runCommand_unchangedOrKept s fun l c he => hi ⟨l, c, he⟩).portsKept

theorem lineAtOverride_portsKept (p : Port) (i : Instr) (s : State) : PortsKept s (lineAtOverride p i s) := by
  obtain ⟨r, hr⟩ := lineAtOverride_spec p i s
  exact .of_same (by rw [hr])

theorem runLine_portsKept (p : Port) (i : Instr) (s : State) : PortsKept s (runLine p i s).1 := by
  simp only [runLine]
  split
  · exact settle_portsKept ((lineAtOverride_portsKept p i s).trans (runCommand_portsKept i _))
  · exact cancelOverride_portsKept p (.refl s)

theorem runText_portsKept (l : LineId) (x : List Char) (s : State) : PortsKept s (runText l x s).1 := by
  have hcancelled := cancelOverride_portsKept l.port (.refl s)
  simp only [runText]
  split
  · exact hcancelled
  · split
    · exact hcancelled
    · split
      · split
        · exact hcancelled
        · exact runLine_portsKept ..
      · exact hcancelled

/-- A line that is parsed and acted on leaves the lines of both ports as they are, and the report queues in order. -/
theorem runBody_portsKept (p : Port) (b : BufLine) (s : State) : PortsKept s (runBody p b s).1 := by
  simp only [runBody]
  split
  · exact runText_portsKept ..
  · exact runLine_portsKept ..

theorem cancelOverride_reportLaw (p : Port) (h : ReportLaw s) : ReportLaw (cancelOverride p s) :=
  (cancelOverride_portsKept p (.refl s)).queues h

theorem takeHead_reportLaw (p : Port) (h : ReportLaw s) : ReportLaw (takeHead p s) := by
  simp only [takeHead]
  split
  · exact h
  · next b _ _ =>
    refine .ite h ?_
    have hplaced : ∀ o, ReportLaw (placeOutput p o (runBody p b s).1) := fun _ =>
      modPort_reportLaw p ((runBody_portsKept p b s).queues h) id
    have hmarked := fun o => modPort_reportLaw p (f := fun c => { c with buffer := markTaken c.buffer }) (hplaced o) id
    exact .ite (hmarked _) (cancelOverride_reportLaw p (hmarked _))

theorem heard_reportLaw (p : Port) (h : ReportLaw s) : ReportLaw (heard p s) := by
  cases p with
  | manager => exact (settle_portsKept (endSilence_portsKept (.refl s))).queues h
  | service => exact h

theorem answerBusy_reportLaw (p : Port) (tag : List Char) (h : ReportLaw s) : ReportLaw (answerBusy p tag s) :=
  modPort_reportLaw p h id

theorem receive_reportLaw (p : Port) (tag : List Char) (body : LineBody) (h : ReportLaw s) :
    ReportLaw (receive p tag body s) := by
  have hheard := heard_reportLaw p h
  have hbusy := answerBusy_reportLaw p tag hheard
  simp only [receive]
  split
  · exact h
  · exact answerBusy_reportLaw p tag h
  · exact .ite (takeHead_reportLaw p (modPort_reportLaw p hheard id))
      (.ite (modPort_reportLaw p hbusy id) (cancelOverride_reportLaw p hbusy))

theorem discardLine_reportLaw (p : Port) (h : ReportLaw s) : ReportLaw (discardLine p s) := by
  have hcounted : ReportLaw (s.modPort p fun c => { c with rejected := satInc 65535 c.rejected }) :=
    modPort_reportLaw p h id
  exact hcounted.of_link rfl

theorem lineEnds_reportLaw (p : Port) (x : List Char) (h : ReportLaw s) : ReportLaw (lineEnds p x s) := by
  have hcleared : ReportLaw (s.modPort p fun c => { c with rx := [], overlong := false }) := modPort_reportLaw p h id
  simp only [lineEnds]
  refine .ite (discardLine_reportLaw p hcleared) (.ite hcleared ?_)
  split
  · exact discardLine_reportLaw p hcleared
  · exact receive_reportLaw p _ _ hcleared

theorem outputSent_reportLaw (p : Port) (h : ReportLaw s) : ReportLaw (outputSent p s) := by
  have houtput : ∀ o : List OutItem → List OutItem, ReportLaw (s.modPort p fun c => { c with output := o c.output }) := fun o =>
    modPort_reportLaw p h id
  simp only [outputSent]
  split
  · exact h
  · next rest _ =>
    split
    · next left _ => exact houtput fun _ => left :: rest
    · simp only [itemSent]
      split
      · exact houtput List.tail
      · exact takeHead_reportLaw p (modPort_reportLaw p (houtput List.tail) id)

/-! ### The step -/

theorem settle_reportLaw (h : ReportLaw s) : ReportLaw (settle s) := (settle_portsKept (.refl s)).queues h

/-- An event keeps the report queues in order where its effect does: the hand-overs behind it do. -/
theorem event_reportLaw {f : State → State} (hf : ReportLaw (f s)) (h : ReportLaw s) (he : event f s = .next t) :
    ReportLaw t := by
  cases he
  exact .ite (settle_reportLaw hf) h

/-- An event whose effect on the ports is that of reports. -/
theorem event_reportLaw_of_kept {f : State → State} (hf : PortsKept s (f s)) (h : ReportLaw s)
    (he : event f s = .next t) : ReportLaw t := event_reportLaw (hf.queues h) h he

theorem storeDraws_portsKept (x : Vector Int 24) (s : State) : PortsKept s (storeDraws x s) :=
  .of_same (by simp only [storeDraws])

theorem markEval_portsKept (h : PortsKept s₀ s) : PortsKept s₀ (markEval s) := h.of_link rfl
theorem markRide_portsKept (h : PortsKept s₀ s) : PortsKept s₀ (markRide s) := h.of_link rfl

theorem senseScan_portsKept (x : Vector Int 24) (s : State) :
    PortsKept s (markEval (forEach allCh overdrawCheck (storeDraws x s))) :=
  markEval_portsKept (forEach_portsKept (fun c _ => overdrawCheck_portsKept c) allCh (storeDraws_portsKept x s))

theorem exec_reportLaw (i : Instr) (h : ReportLaw s) (he : exec i s = .next t) : ReportLaw t := by
  have hs := PortsKept.refl s
  cases i with
  | powerUp | powerLoss => cases he; exact blank_reportLaw _ s
  | loadCompletion pins => cases he; exact .ite (settle_reportLaw (completeLoad_reportLaw pins s)) h
  | resetPin => exact event_reportLaw (warmReset_reportLaw .warmPin s) h he
  | resetResponseSent => exact event_reportLaw (beginCommandReset_reportLaw h) h he
  | channelSenseScan x =>
    have hscan := senseScan_portsKept x s
    refine event_reportLaw_of_kept ?_ h he
    dsimp only
    split
    · exact markRide_portsKept hscan
    · exact hscan
  | powerGoodRise c => exact event_reportLaw_of_kept (takePowerGoodRise_portsKept c hs) h he
  | powerGoodFall c => exact event_reportLaw_of_kept (takePowerGoodFall_portsKept c hs) h he
  | trayFaultAsserted c => exact event_reportLaw_of_kept (takeTrayFault_portsKept c hs) h he
  | trayFaultReleased c => exact event_reportLaw_of_kept (.of_same rfl) h he
  | rampTimerExpiry c => exact event_reportLaw_of_kept (takeRampExpiry_portsKept c hs) h he
  | warningTimerExpiry c => exact event_reportLaw_of_kept (takeWarningExpiry_portsKept c hs) h he
  | stopConfirmExpiry c => exact event_reportLaw_of_kept (takeConfirmExpiry_portsKept c hs) h he
  | splitSpacingExpiry => exact event_reportLaw_of_kept (takeSpacingExpiry_portsKept hs) h he
  | lateTimerExpiry => exact event_reportLaw_of_kept (takeLateExpiry_portsKept hs) h he
  | deficitGraceExpiry => exact event_reportLaw_of_kept (takeGraceExpiry_portsKept hs) h he
  | gapTimerExpiry => exact event_reportLaw_of_kept (takeGapExpiry_portsKept hs) h he
  | roundTimerExpiry => exact event_reportLaw_of_kept (takeRoundExpiry_portsKept hs) h he
  | shelfResponse x => exact event_reportLaw_of_kept (takeResponse_portsKept x hs) h he
  | responseTimeout => exact event_reportLaw_of_kept (takeResponseTimeout_portsKept hs) h he
  | busSample mv => exact event_reportLaw_of_kept (takeBusSample_portsKept mv hs) h he
  | debounceTimerExpiry => exact event_reportLaw_of_kept (takeDebounceExpiry_portsKept hs) h he
  | qualifyExpiry => exact event_reportLaw_of_kept (takeQualifyExpiry_portsKept hs) h he
  | walkInExpiry => exact event_reportLaw_of_kept (takeWalkInExpiry_portsKept hs) h he
  | silenceTimerExpiry => exact event_reportLaw_of_kept (takeSilenceExpiry_portsKept hs) h he
  | leakScan x => exact event_reportLaw_of_kept (takeLeakScan_portsKept x hs) h he
  | escalationTimerExpiry z => exact event_reportLaw_of_kept (takeEscalation_portsKept z hs) h he
  | overrideWindowExpiry => exact event_reportLaw_of_kept (.of_same rfl) h he
  | closedContactPresent v => exact event_reportLaw_of_kept (takeContact_portsKept v .closed hs) h he
  | openContactPresent v => exact event_reportLaw_of_kept (takeContact_portsKept v .opened hs) h he
  | contactAbsent v e => exact event_reportLaw_of_kept (dropContact_portsKept v e hs) h he
  | travelTimerExpiry v => exact event_reportLaw_of_kept (takeTravelExpiry_portsKept v hs) h he
  | lineArrival p x => cases he; exact .ite h (lineEnds_reportLaw p x h)
  | outputLineSent p =>
    cases he
    exact .ite (settle_reportLaw (beginCommandReset_reportLaw h)) (outputSent_reportLaw p h)
  | saveCompletion => exact event_reportLaw_of_kept (completeSave_portsKept hs) h he
  | _ => cases he; exact receive_reportLaw _ _ _ h

theorem idle_link (s : State) : (idle s).link = s.link := by
  simp only [idle]
  split <;> rfl

end

/-- Settles O59: a command keeps the report queues in order, and an idle step only counts the time. -/
theorem everyStepKeepsTheReportLaw : Obligations.EveryStepKeepsTheReportLaw := by
  intro s t h hstep
  rw [step] at hstep
  split at hstep
  · next i rest _ => exact exec_reportLaw i (h.of_link rfl : ReportLaw { s with pending := rest }) hstep
  · cases hstep
    exact h.of_link (idle_link s)

end Sys2Proof.Machine
end

section
/-! Lines at the ports (Chapter 9): what a line that is discarded, denied, answered BUSY or taken leaves (R171 to R175), and
what follows when a line of the output has been sent (R173). -/

namespace Sys2Proof.Machine

/-! ### Permissions (R175) -/

section
variable {i : Instr} {k : VerbClass}

theorem verbPermitted_of_class (h : verbClass i = some k) (p : Port) (b : Bool) (s : State) :
    verbPermitted p i b s = (permits p s.cfg.svc k && !(decide (p = .service) && b)) := by
  simp only [verbPermitted, h]

/-- svc= is carried by ROUTE SET alone, a setting command (R181). -/
theorem verbClass_of_carriesSvc (h : carriesSvc i = true) : verbClass i = some .setting := by
  cases i with
  | routeSet l a => rfl
  | _ => exact nomatch h

theorem not_carriesSvc_of_class (h : verbClass i = some k) (hk : k ≠ .setting) : carriesSvc i = false :=
  Bool.eq_false_iff.mpr fun hc => hk (Option.some.inj (h.symm.trans (verbClass_of_carriesSvc hc)))

end

/-! ### A line that is not acted on (R173, R175) -/

section
variable {s : State}

/-- A line of a verb that its port does not permit is answered DENIED; nothing else is done (R175). -/
theorem exec_denied {l : LineId} {i : Instr} (hi : i.line? = some l) (hr : Ready l.port s)
    (hv : verbPermitted l.port i (carriesSvc i) s = false) :
    exec i s = .next (answered l (errReply .denied) (cancelOverride l.port (buffered l i s))) := by
  have hbuf : ((buffered l i s).port l.port).buffer = [⟨l.tag, .cmd i, false, 0⟩] := by
    rw [buffered, State.modPort_port_same]
  have hcfg : (buffered l i s).cfg = s.cfg := by
    obtain ⟨x, hx⟩ := lineHeard_spec l.port s
    rw [buffered, State.modPort_cfg, hx]
  have hrun : runLine l.port i (buffered l i s) = refuse .denied (cancelOverride l.port (buffered l i s)) :=
    if_neg (by rw [verbPermitted_congr hcfg, hv]; nofun)
  rw [exec_of_line hi, receive_ready hr]
  show Host.Outcome.next (takeHead l.port (buffered l i s)) = _
  rw [takeHead_line hbuf, hrun]
  rfl

/-- A line that is heard while no hand-over waits and the host is not silent restarts the silence timer at most (R127). -/
theorem heard_of_quiet {p : Port} (hw : s.work = .none) (hs : p = .manager → s.source.stage = 0) :
    heard p s = lineHeard p s := by
  cases p with
  | service => rfl
  | manager =>
    show settle (endSilence s) = lineHeard .manager s
    rw [endSilence_stage_zero (hs rfl)]
    exact settle_quiet _ hw

theorem addNotice_length (l : List BufLine) : (addNotice l).length = l.length := by
  induction l using addNotice.induct with
  | case1 | case2 => rfl
  | case3 b l _ ih => simp only [addNotice, List.length_cons, ih]

theorem cancelOverride_port (p q : Port) (s : State) : (cancelOverride p s).port q = s.port q := by
  rw [cancelOverride_eq_seq]
  rfl

/-- A line answered BUSY puts its answer at the end of the output; its notice may join the buffer (R173). -/
theorem receiveBusy_port (p : Port) (tag : List Char) (s : State) :
    ∃ b, b.length = (s.port p).buffer.length ∧ (receiveBusy p tag s).port p = { s.port p with
      output := (s.port p).output ++ [⟨tag, .busy, errReply .busy, false⟩], buffer := b } := by
  simp only [receiveBusy]
  split
  · refine ⟨addNotice (s.port p).buffer, addNotice_length _, ?_⟩
    simp only [State.modPort_port_same, answerBusy, placeOutput]
  · refine ⟨(s.port p).buffer, rfl, ?_⟩
    simp only [cancelOverride_port, State.modPort_port_same, answerBusy, placeOutput]

theorem receiveBusy_port_other {p q : Port} (h : q ≠ p) (tag : List Char) (s : State) :
    (receiveBusy p tag s).port q = s.port q := by
  simp only [receiveBusy]
  split
  · simp only [State.modPort_port_other _ _ h, answerBusy, placeOutput]
  · simp only [cancelOverride_port, State.modPort_port_other _ _ h, answerBusy, placeOutput]

/-- Besides the ports, a line answered BUSY can only end a live override sequence (R156, R173). -/
theorem receiveBusy_spec (p : Port) (tag : List Char) (s : State) :
    ∃ q k, receiveBusy p tag s = { s with resp := { s.resp with seq := q }, link := k } := by
  simp only [receiveBusy]
  split
  · exact ⟨s.resp.seq, _, rfl⟩
  · rw [cancelOverride_eq_seq]
    exact ⟨_, _, rfl⟩

/-- A line that finds its buffer full (R173). -/
theorem receive_full {p : Port} (hp : s.power = .running) (hw : s.work = .none) (hs : p = .manager → s.source.stage = 0)
    (hf : 4 ≤ (s.port p).buffer.length) (tag : List Char) (body : LineBody) :
    receive p tag body s = receiveBusy p tag (lineHeard p s) := by
  simp only [receive, hp, heard_of_quiet hw hs]
  exact if_neg (by rw [lineHeard_port]; exact not_lt.mpr hf)

theorem receive_loading {p : Port} (hp : s.power = .loading) (tag : List Char) (body : LineBody) :
    receive p tag body s = answerBusy p tag s := by
  simp only [receive, hp]

end

/-- Settles O29: the permissions by class, and the lines answered DENIED and BUSY. -/
theorem deniedAndBusyLinesAreNotActedOn : Obligations.DeniedAndBusyLinesAreNotActedOn := by
  refine ⟨fun i k s hk => ?_, fun l i s hi hr hv => exec_denied hi hr hv, fun l i s hi hp => ?_,
    fun l i s hi hp hw hs hf => ?_⟩
  · simp only [verbPermitted_of_class hk]
    refine ⟨rfl, fun h => ?_, fun h => ?_, fun h => ?_, fun hclass h => ?_⟩
    · rw [h]; rfl
    · simp [h]
    · have hno : carriesSvc i = false := not_carriesSvc_of_class hk (by rintro rfl; simp at h)
      rw [hno]
      rcases h with rfl | rfl | rfl | rfl <;> rfl
    · rw [h]
      rcases hclass with rfl | rfl | rfl <;> exact Bool.and_true _
  · rw [exec_of_line hi, receive_loading hp]
    rfl
  · obtain ⟨b, hb, hport⟩ := receiveBusy_port l.port l.tag (lineHeard l.port s)
    obtain ⟨q, k, hbusy⟩ := receiveBusy_spec l.port l.tag (lineHeard l.port s)
    obtain ⟨x, hx⟩ := lineHeard_spec l.port s
    rw [lineHeard_port] at hb hport
    refine ⟨_, (exec_of_line hi s).trans (congrArg _ (receive_full hp hw hs hf ..)), ?_, ?_,
      fun o ho => (receiveBusy_port_other ho ..).trans (lineHeard_port ..), ?_⟩
    · rw [hport]
    · rw [hport, hb]
    · rw [hbusy, hx]
      exact ⟨rfl, rfl, rfl, rfl, rfl, rfl, rfl, rfl, rfl, rfl, rfl, rfl, rfl, rfl, rfl, rfl⟩

/-! ### The head line is taken (R173) -/

section
variable {p : Port} {s : State}

theorem handNotices_port (p q : Port) (n : Nat) (s : State) : (handNotices p n s).port q = s.port q := by
  simp only [handNotices]
  split
  · rfl
  · exact cancelOverride_port ..

/-- A head line that has not been taken is taken: its answer joins the output, and it stays in the buffer, marked. -/
theorem takeHead_fixed {b : BufLine} {l : List BufLine} (hb : (s.port p).buffer = b :: l) (ht : b.taken = false) :
    ∃ item : OutItem, item.tag = b.tag ∧ item.owner = .line ∧ ((takeHead p s).port p).fixed = { (s.port p).fixed with
      output := (s.port p).output ++ [item], buffer := { b with taken := true, notices := 0 } :: l } := by
  have hrun := (runBody_portsKept p b s).lines p
  have hbuf : ((runBody p b s).1.port p).buffer = b :: l := (congrArg PortFixed.buffer hrun).trans hb
  have hout : ((runBody p b s).1.port p).output = (s.port p).output := congrArg PortFixed.output hrun
  have hrx : ((runBody p b s).1.port p).rx = (s.port p).rx := congrArg PortFixed.rx hrun
  have hover : ((runBody p b s).1.port p).overlong = (s.port p).overlong := congrArg PortFixed.overlong hrun
  have hrej : ((runBody p b s).1.port p).rejected = (s.port p).rejected := congrArg PortFixed.rejected hrun
  refine ⟨⟨b.tag, .line, (runBody p b s).2, false⟩, rfl, rfl, ?_⟩
  simp only [takeHead, hb, ht, Bool.false_eq_true, if_false, handNotices_port, State.modPort_port_same, placeOutput,
    PortCtx.fixed, hbuf, hout, hrx, hover, hrej, markTaken]

end

/-! ### The end of a line (R171) -/

section
variable {p : Port} {x : List Char} {s : State}

theorem exec_lineArrival (hp : s.power ≠ .off) : exec (.lineArrival p x) s = .next (lineEnds p x s) :=
  congrArg Host.Outcome.next (if_neg hp)

theorem receivedLine_overlong {t : List Char} (h : 160 < t.length) : receivedLine t = none := if_pos h

/-- An overlong text, and one without tag or good check, is discarded. -/
theorem lineEnds_discarded (h : (s.port p).overlong = true ∨ 160 < ((s.port p).rx ++ x).length ∨
      (s.port p).rx ++ x ≠ [] ∧ receivedLine ((s.port p).rx ++ x) = none) :
    lineEnds p x s = discardLine p (s.modPort p fun c => { c with rx := [], overlong := false }) := by
  by_cases ho : (s.port p).overlong = true
  · simp only [lineEnds, ho, if_true]
  · obtain ⟨hne, hnone⟩ : (s.port p).rx ++ x ≠ [] ∧ receivedLine ((s.port p).rx ++ x) = none := by
      rcases h with h | h | h
      · exact absurd h ho
      · exact ⟨by rintro h0; simp [h0] at h, receivedLine_overlong h⟩
      · exact h
    simp only [lineEnds, Bool.not_eq_true _ ▸ ho, List.isEmpty_eq_false_iff.mpr hne, hnone, Bool.false_eq_true, if_false]

theorem lineEnds_empty (ho : (s.port p).overlong = false) (h : (s.port p).rx ++ x = []) :
    lineEnds p x s = s.modPort p fun c => { c with rx := [], overlong := false } := by
  simp only [lineEnds, ho, h, Bool.false_eq_true, if_false, List.isEmpty_nil, if_true]

/-- A ready port is ready still when its receive text has been cleared. -/
theorem Ready.cleared (h : Ready p s) : Ready p (s.modPort p fun c => { c with rx := [], overlong := false }) :=
  ⟨h.running, h.quiet, by rw [State.modPort_port_same]; exact h.empty, h.heard⟩

/-- A line at a ready port is answered at once. -/
theorem receive_ready_fixed (h : Ready p s) (tag : List Char) (body : LineBody) :
    ∃ item : OutItem, item.tag = tag ∧ item.owner = .line ∧
      ((receive p tag body s).port p).fixed = { (s.port p).fixed with
        output := (s.port p).output ++ [item], buffer := [⟨tag, body, true, 0⟩] } := by
  obtain ⟨item, htag, howner, hfixed⟩ := takeHead_fixed (p := p) (b := ⟨tag, body, false, 0⟩) (l := [])
    (s := (lineHeard p s).modPort p fun c => { c with buffer := [⟨tag, body, false, 0⟩] })
    (by rw [State.modPort_port_same]) rfl
  refine ⟨item, htag, howner, ?_⟩
  rw [receive_ready h, hfixed, State.modPort_port_same, lineHeard_port]
  rfl

end

/-- Settles O26: the four ends of a line, by the tests of R171. -/
theorem lineArrivalDiscardsOrReceives : Obligations.LineArrivalDiscardsOrReceives := by
  intro p x s
  refine ⟨fun hp => congrArg Host.Outcome.next (if_pos hp),
    fun hp h => (exec_lineArrival hp).trans (congrArg _ (lineEnds_discarded h)),
    fun hp ho h => (exec_lineArrival hp).trans (congrArg _ (lineEnds_empty ho h)),
    fun tag body hp ho _ h hr => ?_⟩
  obtain ⟨item, htag, howner, hfixed⟩ := receive_ready_fixed hr.cleared tag (.text body)
  rw [State.modPort_port_same] at hfixed
  exact ⟨_, item, (exec_lineArrival (by rw [hp]; decide)).trans (congrArg _ (lineEnds_received ho h)), htag, howner,
    congrArg PortFixed.output hfixed, congrArg PortFixed.rx hfixed, congrArg PortFixed.buffer hfixed,
    congrArg PortFixed.rejected hfixed⟩

/-! ### A line of the output has been sent (R173) -/

section
variable {p : Port} {s : State} {o : OutItem} {rest : List OutItem}

/-- Where the front item is no answer to RESET, a sent line only moves the output on (R183). -/
theorem exec_outputLineSent (h : ∀ o ∈ (s.port p).output.head?, o.reply.resets = false) :
    exec (.outputLineSent p) s = .next (outputSent p s) := by
  refine congrArg Host.Outcome.next (if_neg ?_)
  rintro ⟨rfl, -, hfront⟩
  simp only [resetFront] at hfront
  split at hfront
  · next o rest ho => exact absurd hfront (by rw [h o (by rw [State.port, ho]; rfl)]; decide)
  · exact nomatch hfront

theorem afterLine_last (h : o.reply.reports = [] ∨ o.begun = true ∧ o.reply.reports.length = 1) :
    o.afterLine = none := by
  rcases h with h | ⟨hb, h⟩
  · simp only [OutItem.afterLine, h]
  · obtain ⟨r, hr⟩ := List.length_eq_one_iff.mp h
    simp only [OutItem.afterLine, hb, hr]

theorem outputSent_more {left : OutItem} (h : (s.port p).output = o :: rest) (hl : o.afterLine = some left) :
    outputSent p s = s.modPort p fun c => { c with output := left :: rest } := by
  simp only [outputSent, h, hl]

theorem outputSent_last (h : (s.port p).output = o :: rest) (hl : o.afterLine = none) :
    outputSent p s = itemSent p o s := by
  simp only [outputSent, h, hl]

theorem itemSent_busy (h : (s.port p).output = o :: rest) (hw : o.owner = .busy) :
    itemSent p o s = s.modPort p fun c => { c with output := rest } := by
  simp only [itemSent, hw]
  exact modPort_congr (by rw [h, List.tail_cons])

theorem itemSent_line (h : (s.port p).output = o :: rest) (hw : o.owner = .line) :
    itemSent p o s = takeHead p (s.modPort p fun c => { c with output := rest, buffer := (s.port p).buffer.tail }) := by
  simp only [itemSent, hw]
  refine congrArg (takeHead p) ?_
  cases p <;> simp only [State.modPort, State.modLink, State.port] at h ⊢ <;> rw [h, List.tail_cons]

theorem takeHead_empty (h : (s.port p).buffer = []) : takeHead p s = s := by
  simp only [takeHead, h]

end

/-- Settles O27: what is left of the front item, and the line that follows the last. -/
theorem outputSentMovesToTheNextLine : Obligations.OutputSentMovesToTheNextLine := by
  intro p s
  refine ⟨fun h => (exec_outputLineSent (by rw [h]; nofun)).trans (by simp only [outputSent, h]),
    fun o rest h hno => ?_⟩
  have hexec : exec (.outputLineSent p) s = .next (outputSent p s) :=
    exec_outputLineSent (by rw [h]; rintro _ ⟨rfl⟩; exact hno)
  refine ⟨fun hb hr => ?_, fun x y l hb hr => ?_, fun hl hw => ?_, fun hl hw ht => ?_, fun b b' l hl hw hbuf ht => ?_⟩
  · rw [hexec, outputSent_more h]
    obtain ⟨r, l, hr⟩ := List.exists_cons_of_ne_nil hr
    simp only [OutItem.afterLine, hb, hr]
  · rw [hexec, outputSent_more h]
    simp only [OutItem.afterLine, hb, hr]
  · rw [hexec, outputSent_last h (afterLine_last hl), itemSent_busy h hw]
  · rw [hexec, outputSent_last h (afterLine_last hl), itemSent_line h hw, ht,
      takeHead_empty (by rw [State.modPort_port_same])]
  · obtain ⟨item, htag, howner, hfixed⟩ := takeHead_fixed (p := p) (b := b') (l := l)
      (s := s.modPort p fun c => { c with output := rest, buffer := (s.port p).buffer.tail })
      (by rw [State.modPort_port_same, hbuf, List.tail_cons]) ht
    rw [State.modPort_port_same] at hfixed
    exact ⟨_, item, by rw [hexec, outputSent_last h (afterLine_last hl), itemSent_line h hw], htag, howner,
      congrArg PortFixed.output hfixed, congrArg PortFixed.buffer hfixed⟩

end Sys2Proof.Machine
end

section
/-! The warm reset: what it makes of each block's records (Table 10-3), and the RESET command that begins it when its
response has been sent (R183, R194). -/

namespace Sys2Proof.Machine

/-! ### The blocks after a warm reset (Table 10-3) -/

/-- The Shelf Link Controller's records after a warm reset, with RM0 polled as its set-points stood (R78, R92, log 45). -/
def warmedShelf (s : State) : Shelf :=
  { s.shelf with
    rect := Vector.ofFn fun n => { s.shelf.rect[n] with misses := 0 }
    batt := Vector.ofFn fun n => { s.shelf.batt[n] with misses := 0 }
    inRound := true, overran := false, roundTimer := some ⟨s.now, s.cfg.ride.round⟩
    poll := some ⟨0, ⟨s.now, 20⟩, carried s.shelf 0⟩
    debounce := s.shelf.debounce.map fun _ => (⟨s.now, s.cfg.ride.deb⟩ : Timer) }

theorem warmShelf_eq (s : State) : warmShelf s = { s with shelf := warmedShelf s } := by
  simp [warmShelf, beginRound, sendPoll, setPoints_eq, carried, State.modShelf, State.timer, State.restart,
    Config.responseTimeoutMs, warmedShelf]

/-- A warm reset as one change of the state (R194). -/
theorem warmBlocks_eq (k : ResetKind) (s : State) : warmBlocks k s =
    { s with
      chans := Vector.ofFn fun c => warmChannel s.now s.cfg.chan[c] s.chans[c]
      budget := { s.budget with
        queue := [], spacing := none, late := none, grace := none, reported := false, inflight := [] }
      run := none
      shelf := warmedShelf s
      source := { s.source with
        qualify := s.restart s.source.qualify s.cfg.ride.qual, walkIn := s.restart s.source.walkIn s.cfg.ride.walk
        placed := [], stage := 0, policy := s.cfg.charge.policy, silence := silenceTimer s }
      zones := Vector.ofFn fun z => warmZone s.now s.cfg.zone[z].esc s.zones[z]
      scan := some (s.timer s.cfg.scanPeriod)
      resp := { s.resp with
        seq := none
        valve := Vector.ofFn fun n => { s.resp.valve[n] with travel := s.restart s.resp.valve[n].travel s.cfg.travel } }
      link := ⟨warmPort s.link.manager, warmPort s.link.service, .clear⟩
      tally := { s.tally with ctr := Vector.ofFn fun n => warmCounter s.tally.ctr[n] }
      cause := ⟨k, satInc 65535 s.cause.warmCount⟩
      work := .none } := by
  simp only [warmBlocks, warmShelf_eq, warmTally, warmLink, warmResp, warmZones, warmSource, warmBudget, warmChannels,
    State.modBudget, State.modSource, State.modResp, State.modLink, State.modTally, State.modWork, State.setRun,
    State.restart, State.timer, silenceTimer, warmedShelf]

/-- The override mark stays on a held channel that is RAMPING or ON alone (R25). -/
theorem warmChannel_eq (now : Stamp) (g : ChanCfg) (r : Channel) : warmChannel now g r =
    let confirm := r.confirm.map fun _ => (⟨now, 1000⟩ : Timer)
    let keeps := r.override && !r.holds.isEmpty
    match r.state with
    | .off | .faulted => { r with override := false, confirm := confirm }
    | .on => { r with override := keeps, confirm := confirm }
    | .ramping => { r with override := keeps, confirm := confirm, ramp := some ⟨now, g.ramp⟩ }
    | .warning => { r with state := .off, since := now, override := false, warn := none, confirm := some ⟨now, 1000⟩ }
    | .pending => { r with state := .off, since := now, override := false, confirm := confirm } := by
  cases h : r.state <;> simp only [warmChannel, warmOverride, h] <;> rfl

theorem warmZone_eq (now : Stamp) (esc : Nat) (r : ZoneRec) : warmZone now esc r =
    match r.state with
    | .watch => { r with history := [], cable := 0, cls := none }
    | .wet => { r with esc := if esc = 0 then none else some ⟨now, esc⟩ }
    | .off | .escalated | .cableFault => r := by
  cases h : r.state <;> simp only [warmZone, h]

/-- A warm reset leaves each block with its values of Table 10-3 before the tests that follow (log 36). -/
theorem warmBlocks_resetDone (k : ResetKind) (s : State) : ResetDone k s (warmBlocks k s) := by
  rw [warmBlocks_eq]
  exact {
    kept := ⟨rfl, rfl, rfl, rfl, rfl, rfl, rfl⟩
    channels := fun _ => (Vector.getElem_ofFn ..).trans (warmChannel_eq ..)
    budget := rfl
    run := rfl
    slots := ⟨fun _ => Vector.getElem_ofFn .., fun _ => Vector.getElem_ofFn ..⟩
    round := rfl
    source := rfl
    zones := fun _ => (Vector.getElem_ofFn ..).trans (warmZone_eq ..)
    scan := rfl
    valves := fun _ => Vector.getElem_ofFn ..
    resp := ⟨rfl, rfl, rfl⟩
    ports := fun p => by cases p <;> rfl
    flags := rfl
    tally := ⟨rfl, fun _ => Vector.getElem_ofFn ..⟩
    cause := rfl }

/-! ### RESET (R183, R194) -/

section
variable {s : State}

theorem beginCommandReset_waits (h : ∃ o ∈ s.link.manager.output, o.reply.resets = true) :
    beginCommandReset s = resetTests (warmBlocks .warmCommand s) := if_pos (List.any_eq_true.mpr h)

theorem beginCommandReset_idle (h : ∀ o ∈ s.link.manager.output, o.reply.resets = false) : beginCommandReset s = s :=
  if_neg fun hw => by
    obtain ⟨o, ho, hr⟩ := List.any_eq_true.mp hw
    exact absurd hr (Bool.eq_false_iff.mp (h o ho))

/-- The response to RESET at the front of the manager port's output has been sent: the reset begins (log 28). -/
theorem exec_outputLineSent_reset {o : OutItem} {rest : List OutItem} (hp : s.power = .running)
    (ho : s.link.manager.output = o :: rest) (hr : o.reply.resets = true) :
    exec (.outputLineSent .manager) s = .next (settle (beginCommandReset s)) := by
  have hfront : resetFront s = true := by rw [resetFront, ho]; exact hr
  exact congrArg _ (if_pos ⟨rfl, hp, hfront⟩)

end

/-- Settles O7: the answers of both ports, and the reset by the two events that its response brings. -/
theorem resetCommandResetsAfterItsResponse : Obligations.ResetCommandResetsAfterItsResponse := by
  refine ⟨fun l s hp hr => ?_, fun l s hp hr => ?_, fun s o rest hp ho hr => ?_, fun s hp hw => ?_, fun s hp hw hn => ?_⟩
  · exact .of_runCommand rfl ⟨hp ▸ hr, by rw [hp]; rfl⟩ rfl
  · have hquiet : settle (found l (.reset l) s) = found l (.reset l) s :=
      settle_quiet _ ((found_work ..).trans hr.quiet)
    rw [Takes, hquiet]
    exact exec_denied rfl (hp ▸ hr) (by rw [hp]; rfl)
  · refine ⟨_, warmBlocks_resetDone .warmCommand s, ?_⟩
    have hw : ∃ o ∈ s.link.manager.output, o.reply.resets = true := ⟨o, by simp [ho], hr⟩
    rw [Acts, exec_outputLineSent_reset hp ho hr, beginCommandReset_waits hw]
  · exact ⟨_, warmBlocks_resetDone .warmCommand s, .of_event_eq rfl hp (beginCommandReset_waits hw)⟩
  · refine (Acts.of_event_eq rfl hp (beginCommandReset_idle hn)).trans ?_
    rw [settle_quiet s hw]

end Sys2Proof.Machine
end

section
/-! The reads of the link, the tallies, the time base and the part's identity, and PING (R180, R182, R191 to R193). -/

namespace Sys2Proof.Machine

/-! ### The ports as a command finds them -/

section
variable (l : LineId) (i : Instr) (s : State)

/-- A line in its buffer changes neither port's report queue. -/
theorem found_queue (q : Port) : ((found l i s).port q).queue = (s.port q).queue := by
  by_cases hq : q = l.port
  · rw [hq, found_port_same]
  · rw [found_port_other l i s hq]

theorem found_lost (q : Port) : ((found l i s).port q).lost = (s.port q).lost := by
  by_cases hq : q = l.port
  · rw [hq, found_port_same]
  · rw [found_port_other l i s hq]

end

theorem flagField_congr {s t : State} (h : t.link.flags = s.link.flags) : flagField t = flagField s := by
  simp only [flagField, h]

/-! ### The fields read -/

/-- The fields of STATUS READ (R180). -/
def statusReadFields (s : State) : List Field := (doStatusRead s).2.fields

theorem doStatusRead_eq (s : State) : doStatusRead s = (s, okWith (statusReadFields s)) := rfl

theorem mem_statusReadFields (s : State) :
    flagField s ∈ statusReadFields s ∧ fNum "mq" (s.port .manager).queue.length ∈ statusReadFields s ∧
    fNum "sq" (s.port .service).queue.length ∈ statusReadFields s ∧
    fNum "ml" (s.port .manager).lost ∈ statusReadFields s ∧ fNum "sl" (s.port .service).lost ∈ statusReadFields s ∧
    ∀ p : Port, fNum (match p with | .manager => "mb" | .service => "sb") (s.port p).buffer.length ∈
      statusReadFields s := by
  refine ⟨?_, ?_, ?_, ?_, ?_, fun p => ?_⟩
  case refine_6 => cases p <;> simp [statusReadFields, doStatusRead, okWith, State.port]
  all_goals simp [statusReadFields, doStatusRead, okWith, State.port]

section
variable {t : Tally} {c : CtrIx}

theorem counterValue_single (h : t.pair = false ∨ 2 ≤ c.val) : counterValue t c = some t.ctr[c].value := by
  rcases h with h | h
  · simp only [counterValue, h, Bool.false_eq_true, if_false]
  · have h0 : c ≠ 0 := by rintro rfl; exact absurd h (by decide)
    have h1 : c ≠ 1 := by rintro rfl; exact absurd h (by decide)
    simp only [counterValue, h0, h1, if_false, ite_self]

theorem counterValue_paired (h : t.pair = true) : counterValue t 0 = some t.paired := (if_pos h).trans (if_pos rfl)

theorem counterValue_upper (h : t.pair = true) : counterValue t 1 = none := if_pos h

/-- A counter's value is a field where it has one (R191). -/
theorem val_mem_counterFields {n : Nat} (h : counterValue t c = some n) : fNum "val" n ∈ counterFields t c := by
  simp [counterFields, h, fOpt]

theorem run_mem_counterFields (t : Tally) (c : CtrIx) : fYes "run" t.ctr[c].running ∈ counterFields t c := by
  simp [counterFields]

theorem pair_mem_counterFields (h : t.pair = true) (hc : c.val ≤ 1) : fOn "pair" true ∈ counterFields t c := by
  simp [counterFields, h, hc]

/-- A counter without a value of its own is read without one (R191). -/
theorem counterFields_lacks_val (h : counterValue t c = none) : Lacks "val" (counterFields t c) := by
  have hpair : Lacks "val" (if t.pair = true ∧ c.val ≤ 1 then [fOn "pair" true] else []) := by
    split
    · exact lacks_cons.mpr ⟨by decide, lacks_nil⟩
    · exact lacks_nil
  simp [counterFields, h, fOpt, hpair]

end

/-- Settles O33: the fields that each read returns, in the state in which its line is found. -/
theorem linkAndSystemReads : Obligations.LinkAndSystemReads := by
  refine ⟨fun l s h => ?_, fun l c s h => ?_, fun l s h => ?_, fun l s h => ?_, fun l s h => ?_, fun l s h => ?_⟩
  · obtain ⟨hflags, hmq, hsq, hml, hsl, hbuf⟩ := mem_statusReadFields (found l (.statusRead l) s)
    have hone := hbuf l.port
    rw [flagField_congr (found_flags ..)] at hflags
    rw [found_queue] at hmq hsq
    rw [found_lost] at hml hsl
    rw [found_port_same] at hone
    exact ⟨_, .of_runCommand rfl h (doStatusRead_eq _), hflags, hmq, hsq, hml, hsl, hone⟩
  · have hread : runCommand (.tallyRead l (some (c.val : Int))) (found l (.tallyRead l (some (c.val : Int))) s) =
        (found l (.tallyRead l (some (c.val : Int))) s, okWith (counterFields s.tally c)) :=
      (withIndex_val c _ _).trans (by rw [found_tally])
    refine ⟨_, .of_runCommand rfl h hread, run_mem_counterFields .., fun hc => val_mem_counterFields
      (counterValue_single hc), ?_, ?_⟩
    · rintro hp rfl
      exact ⟨val_mem_counterFields (counterValue_paired hp), pair_mem_counterFields hp (by decide)⟩
    · rintro hp rfl
      exact ⟨pair_mem_counterFields hp (by decide), counterFields_lacks_val (counterValue_upper hp)⟩
  · refine .of_runCommand rfl h ?_
    simp only [runCommand, doTallyRead, found_tally, Tally.paired]
  · refine .of_runCommand rfl h ?_
    simp only [runCommand, doTimeRead, found_now]
    rfl
  · have hrest := found_sameRest l (.identify l) s
    refine .of_runCommand rfl h ?_
    simp only [runCommand, doIdentify, hrest.cause, hrest.store, hrest.cfgFrom]
    rfl
  · refine .of_runCommand rfl h ?_
    simp only [runCommand, doPing]
    cases l.port <;> rfl

end Sys2Proof.Machine
end

section
/-! Raising a report (R176, R177), and the link commands FETCH, ROUTE SET and STATUS CLEAR (R179 to R181). -/

namespace Sys2Proof.Machine

/-! ### The condition summary (R176, R180) -/

theorem Flags.raise_of (f : Flags) (g h : Group) : (f.raise g).of h = (f.of h || decide (h = g)) := by
  cases g <;> cases h <;> simp [Flags.raise, Flags.of]

theorem Flags.lower_of (f : Flags) (g h : Group) : (f.lower g).of h = (f.of h && !decide (h = g)) := by
  cases g <;> cases h <;> simp [Flags.lower, Flags.of]

/-- The named flags are cleared one after the other, and no other is. -/
theorem Flags.foldl_lower_of (l : List Group) (f : Flags) (h : Group) :
    (l.foldl (fun f g => f.lower g) f).of h = (f.of h && !decide (h ∈ l)) := by
  induction l generalizing f with
  | nil => simp
  | cons g l ih => simp [ih, Flags.lower_of, Bool.and_assoc]

theorem mem_allGroups (g : Group) : g ∈ allGroups := by cases g <;> decide

/-! ### A report joins the queues of its route (R176, R177) -/

/-- A route names a port (R176). -/
def routeNames : Route → Port → Bool
  | .both, _ | .manager, .manager | .service, .service => true
  | _, _ => false

theorem routeNames_iff (x : Route) (p : Port) : routeNames x p = true ↔
    x = .both ∨ x = (match p with | .manager => .manager | .service => .service) := by
  cases x <;> cases p <;> decide

section
variable {x : Route} {p q : Port}

/-- A port context that a report has joined (R177). -/
def PortCtx.joined (r : Report) (c : PortCtx) : PortCtx :=
  { c with queue := (queueJoin r c.queue).1, lost := if (queueJoin r c.queue).2 then satInc 255 c.lost else c.lost }

/-- A report is lost exactly where the queue is full (R177). -/
theorem queueJoin_loses (r : Report) (l : List Report) : (queueJoin r l).2 = decide (32 ≤ l.length) := by
  rcases Nat.lt_or_ge l.length 32 with hroom | hfull
  · rw [decide_eq_false (not_le.mpr hroom)]
    cases hr : r.alarm with
    | true => rw [queueJoin_room_alarm hroom hr]
    | false => rw [queueJoin_room_ordinary hroom hr]
  · rw [decide_eq_true hfull]
    rcases evicts_or_drops r l with ⟨hr, hl⟩ | hdrop
    · rw [queueJoin_evicts hfull hr hl]
    · rw [queueJoin_drops hfull hdrop]

/-- A counted event leaves the ports alone (R190). -/
theorem countIf_port (b : Bool) (e : TallyEvent) (p : Port) (s : State) :
    (if b then count e s else s).port p = s.port p := by
  split <;> rfl

theorem joinReport_port_same (p : Port) (r : Report) (s : State) :
    (joinReport p r s).port p = (s.port p).joined r :=
  (countIf_port ..).trans (State.modPort_port_same ..)

theorem joinReport_port_other (h : q ≠ p) (r : Report) (s : State) : (joinReport p r s).port q = s.port q :=
  (countIf_port ..).trans (State.modPort_port_other _ _ h)

theorem joinReport_tally (p : Port) (r : Report) (s : State) : (joinReport p r s).tally =
    if 32 ≤ (s.port p).queue.length then s.tally.take .reportsLost else s.tally := by
  simp only [joinReport, queueJoin_loses, decide_eq_true_eq]
  split <;> rfl

/-- A report joins the queue of a port that its route names, and no other. -/
def joinRouted (x : Route) (p : Port) (r : Report) (s : State) : State :=
  if routeNames x p then joinReport p r s else s

theorem joinRouted_port_same (x : Route) (p : Port) (r : Report) (s : State) :
    (joinRouted x p r s).port p = if routeNames x p then (s.port p).joined r else s.port p := by
  simp only [joinRouted]
  split
  · exact joinReport_port_same ..
  · rfl

theorem joinRouted_port_other (h : q ≠ p) (r : Report) (s : State) : (joinRouted x p r s).port q = s.port q := by
  simp only [joinRouted]
  split
  · exact joinReport_port_other h ..
  · rfl

theorem joinRouted_tally (x : Route) (p : Port) (r : Report) (s : State) : (joinRouted x p r s).tally =
    if routeNames x p = true ∧ 32 ≤ (s.port p).queue.length then s.tally.take .reportsLost else s.tally := by
  by_cases h : routeNames x p = true
  · simp only [joinRouted, h, if_true, joinReport_tally, true_and]
  · simp only [joinRouted, h, if_false, Bool.false_eq_true, false_and]

/-- A raised report sets its flag and then joins the queues, the manager port's first (R176). -/
theorem raise_eq (k : ReportKind) (a b c : Option Nat) (s : State) : raise k a b c s =
    let x := s.cfg.routes.of k.group
    let r : Report := ⟨k, s.now, a, b, c⟩
    joinRouted x .service r (joinRouted x .manager r (s.modLink fun l => { l with flags := l.flags.raise k.group })) := by
  simp only [raise, State.modLink_cfg]
  cases s.cfg.routes.of k.group <;> rfl

theorem modFlags_port (f : Flags → Flags) (p : Port) (s : State) :
    (s.modLink fun l => { l with flags := f l.flags }).port p = s.port p := by cases p <;> rfl

/-- Each port that the route names is joined, and the other keeps its context (R176). -/
theorem raise_port (k : ReportKind) (a b c : Option Nat) (p : Port) (s : State) : (raise k a b c s).port p =
    if routeNames (s.cfg.routes.of k.group) p then (s.port p).joined ⟨k, s.now, a, b, c⟩ else s.port p := by
  simp only [raise_eq]
  cases p with
  | manager => rw [joinRouted_port_other (by decide), joinRouted_port_same, modFlags_port]
  | service => rw [joinRouted_port_same, joinRouted_port_other (by decide), modFlags_port]

/-- Each full queue that a report should join is one REPORTS LOST event (R177). -/
theorem raise_tally (k : ReportKind) (a b c : Option Nat) (s : State) : (raise k a b c s).tally =
    let lost := fun (p : Port) (t : Tally) =>
      if routeNames (s.cfg.routes.of k.group) p = true ∧ 32 ≤ (s.port p).queue.length then t.take .reportsLost else t
    lost .service (lost .manager s.tally) := by
  simp only [raise_eq, joinRouted_tally, joinRouted_port_other (show Port.service ≠ .manager by decide), modFlags_port,
    State.modLink_tally]

/-- What a report leaves of a port that its route names: the four rows of R177's table. -/
theorem joined_rows (r : Report) (c : PortCtx) :
    (c.queue.length < 32 → r.alarm = true →
      c.joined r = { c with queue := alarmsOf c.queue ++ r :: ordinaryOf c.queue }) ∧
    (c.queue.length < 32 → r.alarm = false → c.joined r = { c with queue := c.queue ++ [r] }) ∧
    (32 ≤ c.queue.length → r.alarm = true → ordinaryOf c.queue ≠ [] → c.joined r =
      { c with queue := alarmsOf c.queue ++ r :: (ordinaryOf c.queue).dropLast, lost := satInc 255 c.lost }) ∧
    (32 ≤ c.queue.length → r.alarm = false ∨ ordinaryOf c.queue = [] → c.joined r =
      { c with lost := satInc 255 c.lost }) := by
  refine ⟨fun hl hr => ?_, fun hl hr => ?_, fun hl hr hq => ?_, fun hl h => ?_⟩
  · rw [PortCtx.joined, queueJoin_room_alarm hl hr]; rfl
  · rw [PortCtx.joined, queueJoin_room_ordinary hl hr]; rfl
  · rw [PortCtx.joined, queueJoin_evicts hl hr hq]; rfl
  · rw [PortCtx.joined, queueJoin_drops hl h]; rfl

end

/-! ### FETCH (R179) -/

section
variable {s : State}

theorem doFetch_range {x : Int} (h : x < 1 ∨ 8 < x) (p : Port) : doFetch p (some x) s = (s, errReply .range) :=
  if_neg (by omega)

/-- An omitted n= is 8 (R179). -/
theorem doFetch_in_range {x : Option Int} {n : Nat} (h : x = none ∧ n = 8 ∨ x = some (n : Int) ∧ 1 ≤ n ∧ n ≤ 8)
    (p : Port) : doFetch p x s = fetchEntries p n s := by
  rcases h with ⟨rfl, rfl⟩ | ⟨rfl, h1, h8⟩
  · rfl
  · exact if_pos ⟨by omega, by omega⟩

theorem fetchEntries_eq {q : List Report} {p : Port} (hq : (s.port p).queue = q) (n : Nat) : fetchEntries p n s =
    (s.modPort p fun c => { c with queue := q.drop n, lost := 0 },
      { status := .ok, reports := q.take n
        fields := [fNum "n" (min n q.length), fNum "lost" (s.port p).lost, fNum "rem" (q.length - n)] }) := by
  subst hq
  simp only [fetchEntries, List.length_take, List.length_drop]
  refine congrArg (Prod.mk · _) (modPort_congr ?_)
  rfl

/-! ### ROUTE SET and STATUS CLEAR (R180, R181) -/

/-- The routes and service control written (R181). -/
def routesWritten (a : RouteArgs) (w : WorkCfg) : WorkCfg :=
  { w with routes := applyRoutes a w.routes, svc := a.svc.getD w.svc }

theorem doRouteSet_eq {a : RouteArgs} (h : a ≠ {}) : doRouteSet a s =
    ({ s with cfg := routesWritten a s.cfg }, okWith (routeFields (routesWritten a s.cfg))) := if_neg h

theorem svc_mem_routeFields (w : WorkCfg) : fOn "svc" w.svc ∈ routeFields w := by simp [routeFields]

/-- The flags of some groups are cleared (R180). -/
def flagsCleared (gs : List Group) (s : State) : State :=
  s.modLink fun k => { k with flags := gs.foldl (fun f g => f.lower g) k.flags }

theorem flagsCleared_of (gs : List Group) (s : State) (g : Group) :
    (flagsCleared gs s).link.flags.of g = (s.link.flags.of g && !decide (g ∈ gs)) := Flags.foldl_lower_of ..

theorem doStatusClear_groups (gs : List Group) (s : State) :
    doStatusClear (some (.groups gs)) s = (flagsCleared gs s, okWith [flagField (flagsCleared gs s)]) := rfl

theorem doStatusClear_all (s : State) :
    doStatusClear (some .all) s = (flagsCleared allGroups s, okWith [flagField (flagsCleared allGroups s)]) := rfl

/-- STATUS CLEAR clears the flags that it names: the groups listed, or all (R180). -/
theorem doStatusClear_named {x : Option GroupArg} {gs : List Group}
    (h : x = some (.groups gs) ∨ (x = some .all ∧ ∀ g, g ∈ gs)) : ∃ gs', (∀ g, g ∈ gs' ↔ g ∈ gs) ∧
      ∀ s, doStatusClear x s = (flagsCleared gs' s, okWith [flagField (flagsCleared gs' s)]) := by
  rcases h with rfl | ⟨rfl, hall⟩
  · exact ⟨gs, fun _ => .rfl, doStatusClear_groups gs⟩
  · exact ⟨allGroups, fun g => iff_of_true (mem_allGroups g) (hall g), doStatusClear_all⟩

end

/-- Settles O50: the two tables of the report kinds, the joining of the queues by R177's table, and the three link
commands. -/
theorem raiseFetchRouteSetAndStatusClear : Obligations.RaiseFetchRouteSetAndStatusClear := by
  refine ⟨fun k => by cases k <;> decide, fun k a b c s => ?_, fun l x s n h => ⟨?_, fun hx => ?_⟩,
    fun l a s h => ⟨?_, fun ha => ?_⟩, fun l x s h => ⟨?_, fun gs hx => ?_⟩⟩
  · refine ⟨?_, fun g => ?_, fun p hp => ?_, fun p hp => ?_⟩
    · refine (raise_spec k a b c s).trans ?_
      simp only [raise_tally, routeNames_iff, decide_eq_true_eq]
    · rw [raise_flags, Flags.raise_of]
    · rw [raise_port, if_neg (mt (routeNames_iff ..).mp hp)]
    · rw [raise_port, if_pos ((routeNames_iff ..).mpr hp)]
      exact joined_rows ⟨k, s.now, a, b, c⟩ (s.port p)
  · rintro ⟨y, rfl, hy⟩
    exact .of_runCommand rfl h (doFetch_range hy _)
  · refine .of_runCommand rfl h ((doFetch_in_range hx _).trans ?_)
    rw [fetchEntries_eq (found_queue ..), found_lost]
  · rintro rfl
    exact .of_runCommand rfl h rfl
  · refine ⟨okWith (routeFields (routesWritten a s.cfg)), .of_runCommand rfl h ((doRouteSet_eq ha).trans ?_), rfl,
      svc_mem_routeFields _⟩
    rw [found_cfg]
    rfl
  · rintro rfl
    exact .of_runCommand rfl h rfl
  · obtain ⟨gs', hmem, hclear⟩ := doStatusClear_named hx
    refine ⟨_, .of_runCommand rfl h (hclear _), fun g => ?_, rfl⟩
    rw [flagsCleared_of, found_flags, decide_eq_decide.mpr (hmem g)]

end Sys2Proof.Machine
end

section
/-! Power-up, loss of power and the reset pin (R186, R187, R192, R194, R195): the part without its records, the store
that it keeps, and the events that a part without its configuration does not take. -/

namespace Sys2Proof.Machine

/-! ### Blank records (R195) -/

section
variable {s : State}

/-- A channel with its cold-start record drives neither line (R2). -/
theorem lines_released_of_cold {c : Ch} (h : s.ch c = .cold) : enableLine s c = false ∧ warningLine s c = false := by
  simp only [enableLine, warningLine, h]
  exact ⟨rfl, rfl⟩

/-- Before load completion both drives of a valve are released (R195). -/
theorem drives_released (h : s.power ≠ .running) (v : ValveIx) : closeDrive s v = false ∧ openDrive s v = false := by
  have hp : (s.power == .running) = false := beq_eq_false_iff_ne.mpr h
  simp only [closeDrive, openDrive, hp, Bool.false_and, and_self]

/-- A port without reports does not assert its attention line (R178). -/
theorem attention_released_of_empty {p : Port} (h : (s.port p).queue = []) : attentionLine s p = false := by
  simp only [attentionLine, h, List.isEmpty_nil, Bool.not_true]

end

section
variable (p : Power) (s : State)

theorem blank_ch (c : Ch) : (blank p s).ch c = .cold := Vector.getElem_replicate ..

theorem blank_port (q : Port) : (blank p s).port q = .cold := by cases q <;> rfl

/-- A save in flight is lost with the power; what the store holds stays (R187). -/
theorem blank_store : (blank p s).store = match s.store with
    | .valid image => .valid image
    | .invalid | .writing _ _ => .invalid := by
  show s.store.afterLoss = _
  cases s.store <;> rfl

/-- A part without its configuration has every output released (R195). -/
theorem blank_outputs_released (hp : p ≠ .running) :
    (∀ c, enableLine (blank p s) c = false ∧ warningLine (blank p s) c = false) ∧
      (∀ v, closeDrive (blank p s) v = false ∧ openDrive (blank p s) v = false) ∧
        ∀ q, attentionLine (blank p s) q = false :=
  ⟨fun c => lines_released_of_cold (blank_ch p s c), drives_released hp,
    fun q => attention_released_of_empty (by rw [blank_port]; rfl)⟩

/-- The state at reset is that of a part that has lost all its records and is loading (log 1). -/
theorem reset_eq_blank : State.reset = blank .loading State.reset := rfl

end

/-- Settles O2: by the blank part that the state at reset is. -/
theorem resetIsPowerUpWithOutputsReleased : Obligations.ResetIsPowerUpWithOutputsReleased := by
  refine ⟨rfl, rfl, rfl, ?_⟩
  rw [reset_eq_blank]
  exact blank_outputs_released .loading _ nofun

/-- Settles O3: by the blank part that a loss of power and a power-up leave. -/
theorem powerLossAndPowerUp : Obligations.PowerLossAndPowerUp := by
  intro s i hi
  have hexec : exec i s = .next (blank (if i = .powerUp then .loading else .off) s) := by
    simp only [List.mem_cons, List.not_mem_nil, or_false] at hi
    rcases hi with rfl | rfl <;> rfl
  generalize hp : (if i = .powerUp then Power.loading else .off) = p at hexec ⊢
  have hstore := blank_store p s
  obtain ⟨hlines, hdrives, hattention⟩ := blank_outputs_released p s (by rw [← hp]; split <;> exact nofun)
  exact ⟨_, hexec, rfl, rfl, fun _ _ h => by rw [hstore, h], fun _ h => by rw [hstore, h],
    fun h => by rw [hstore, h], hlines, hdrives, hattention, rfl⟩

/-! ### Idle steps, and events before load completion (R186, R192) -/

theorem idle_eq (s : State) : idle s = if s.power = .off then s else { s with now := s.now + 1 } := by
  cases h : s.power <;> simp only [idle, h] <;> rfl

/-- Each event of the lines, links and timers acts on a part with its configuration loaded alone (R186, log 5). -/
theorem exec_eq_event {i : Instr} (h : takenAfterLoad i = true) : ∃ f, ∀ s, exec i s = event f s := by
  cases i with
  | resetPin | resetResponseSent | channelSenseScan | powerGoodRise | powerGoodFall | trayFaultAsserted
  | trayFaultReleased | rampTimerExpiry | warningTimerExpiry | stopConfirmExpiry | splitSpacingExpiry
  | lateTimerExpiry | deficitGraceExpiry | gapTimerExpiry | roundTimerExpiry | shelfResponse
  | responseTimeout | busSample | debounceTimerExpiry | qualifyExpiry | walkInExpiry | silenceTimerExpiry
  | leakScan | escalationTimerExpiry | overrideWindowExpiry | closedContactPresent | openContactPresent
  | contactAbsent | travelTimerExpiry | saveCompletion => exact ⟨_, fun _ => rfl⟩
  | _ => cases h

theorem event_not_running {s : State} (h : s.power ≠ .running) (f : State → State) : event f s = .next s :=
  congrArg _ (if_neg h)

/-- Settles O5: an empty queue idles, and an event finds a part that does not run as it was. -/
theorem nothingHappensUnasked : Obligations.NothingHappensUnasked := by
  refine ⟨fun s h => ?_, fun i s hi hp => ?_⟩
  · simp only [step, h, idle_eq]
  · obtain ⟨f, hf⟩ := exec_eq_event hi
    rw [hf, event_not_running hp]

/-! ### The reset pin (R194) -/

/-- Settles O6: the records of the warm reset that the pin begins, and the tests that follow. -/
theorem resetPinResetsEveryBlock : Obligations.ResetPinResetsEveryBlock := fun s hp =>
  ⟨_, warmBlocks_resetDone .warmPin s, .of_event_eq (f := warmReset .warmPin) rfl hp rfl⟩

end Sys2Proof.Machine
end

section
/-! Load completion (R186, R195): the cold-start values of every block, the first round, and the reports of the load. -/

namespace Sys2Proof.Machine

/-! ### Reports raised one after another (R176, R177) -/

section
variable {s : State}

theorem raiseAll_cons (x : ReportArgs) (l : List ReportArgs) (s : State) :
    raiseAll (x :: l) s = raiseAll l (raise x.1 x.2.1 x.2.2.1 x.2.2.2 s) := rfl

/-- Reports change the ports, the condition summary and the tallies alone. -/
theorem raiseAll_spec (l : List ReportArgs) (s : State) :
    raiseAll l s = { s with link := (raiseAll l s).link, tally := (raiseAll l s).tally } := by
  induction l generalizing s with
  | nil => rfl
  | cons x l ih => rw [raiseAll_cons, ih, raise_spec]

/-- A flag is set by a report of its group, and stays set (R176). -/
theorem raiseAll_flag {g : Group} {l : List ReportArgs} (h : s.link.flags.of g = true ∨ ∃ x ∈ l, x.1.group = g) :
    (raiseAll l s).link.flags.of g = true := by
  induction l generalizing s with
  | nil => exact h.resolve_right nofun
  | cons x l ih =>
    refine ih ?_
    simp only [raise_flags, Flags.raise_of, Bool.or_eq_true, decide_eq_true_eq]
    rcases h with h | ⟨y, hy, hg⟩
    · exact .inl (.inl h)
    · rcases List.mem_cons.mp hy with rfl | hy
      · exact .inl (.inr hg.symm)
      · exact .inr ⟨y, hy, hg⟩

/-- A queue grows by one entry at most (R177). -/
theorem queueJoin_length_le (r : Report) (q : List Report) : (queueJoin r q).1.length ≤ q.length + 1 := by
  have hcount := length_alarmsOf_add_ordinaryOf q
  rcases Nat.lt_or_ge q.length 32 with hroom | hfull
  · cases hr : r.alarm with
    | true => rw [queueJoin_room_alarm hroom hr, List.length_append, List.length_cons]; omega
    | false => rw [queueJoin_room_ordinary hroom hr, List.length_append, List.length_singleton]
  · rcases evicts_or_drops r q with ⟨hr, hne⟩ | hdrop
    · rw [queueJoin_evicts hfull hr hne, List.length_append, List.length_cons, List.length_dropLast]; omega
    · rw [queueJoin_drops hfull hdrop]; exact Nat.le_succ _

theorem raise_queue_length_le (k : ReportKind) (a b c : Option Nat) (p : Port) (s : State) :
    ((raise k a b c s).port p).queue.length ≤ (s.port p).queue.length + 1 := by
  rw [raise_port]
  split
  · exact queueJoin_length_le ..
  · omega

theorem raiseAll_queue_length_le (l : List ReportArgs) (p : Port) (s : State) :
    ((raiseAll l s).port p).queue.length ≤ (s.port p).queue.length + l.length := by
  induction l generalizing s with
  | nil => rfl
  | cons x l ih =>
    have hrest := ih (raise x.1 x.2.1 x.2.2.1 x.2.2.2 s)
    have hfirst := raise_queue_length_le x.1 x.2.1 x.2.2.1 x.2.2.2 p s
    rw [raiseAll_cons, List.length_cons]
    omega

/-- An ordinary report joins a queue with room at its tail (R177). -/
theorem mem_queue_raise {k : ReportKind} {p : Port} (a b c : Option Nat)
    (hroute : routeNames (s.cfg.routes.of k.group) p = true) (hk : k.alarm = false)
    (hroom : (s.port p).queue.length < 32) : ⟨k, s.now, a, b, c⟩ ∈ ((raise k a b c s).port p).queue := by
  have hr : (⟨k, s.now, a, b, c⟩ : Report).alarm = false := hk
  rw [raise_port, if_pos hroute, PortCtx.joined, queueJoin_room_ordinary hroom hr]
  exact List.mem_append_right _ (List.mem_singleton.mpr rfl)

/-- Stopped counters count nothing (R189, R190). -/
theorem Tally.cold_take (e : TallyEvent) : Tally.cold.take e = .cold := by cases e <;> rfl

theorem raiseAll_tally_cold (l : List ReportArgs) (h : s.tally = .cold) : (raiseAll l s).tally = .cold := by
  induction l generalizing s with
  | nil => exact h
  | cons x l ih =>
    refine ih ?_
    rw [raise_tally, h]
    simp only [Tally.cold_take, ite_self]

end

/-! ### The reports of a load (R168, R186) -/

/-- VALVE FAULT for each of these valves whose contacts are sampled alike: both closed and open, or neither (R168). -/
def coldFaults (pins : PinSample) (l : List ValveIx) : List ReportArgs :=
  (l.filter fun v => decide (pins.closed[v] = pins.opened[v])).map fun v =>
    (.valveFault, some v.val, some 3, some (if pins.closed[v] then 3 else 0))

/-- CONFIG DEFAULTED where the store holds no image (R186). -/
def loadReports (x : Store) : List ReportArgs :=
  match x with
  | .valid _ => []
  | .invalid | .writing _ _ => [(.configDefaulted, none, some 0, none)]

/-- A store without an image is loaded as the factory defaults, and that is reported (R186). -/
theorem load_without_image {x : Store} (h : ∀ image, x ≠ .valid image) :
    x.load = (defaultCfg, .defaults) ∧ loadReports x = [(.configDefaulted, none, some 0, none)] := by
  cases x with
  | valid image => exact absurd rfl (h image)
  | invalid | writing copy at' => exact ⟨rfl, rfl⟩

section
variable {pins : PinSample} {s : State}

theorem coldValve_eq (closed opened : Bool) : coldValve closed opened =
    { state := if closed = opened then .fault else if closed then .closed else .opened
      zones := [], hostClose := false, travel := none, closedContact := closed, openContact := opened } := by
  cases closed <;> cases opened <;> rfl

theorem coldValve_fault_iff (closed opened : Bool) : (coldValve closed opened).state = .fault ↔ closed = opened := by
  cases closed <;> cases opened <;> decide

theorem coldValve_contacts {closed opened : Bool} (h : closed = opened) :
    (coldValve closed opened).contacts = if closed then 3 else 0 := by
  subst h
  cases closed <;> rfl

/-- The valves found in FAULT are reported in the order of the valves (log 46). -/
theorem forEach_reportColdValve (l : List ValveIx)
    (h : ∀ v : ValveIx, s.resp.valve[v] = coldValve pins.closed[v] pins.opened[v]) :
    forEach l reportColdValve s = raiseAll (coldFaults pins l) s := by
  induction l generalizing s with
  | nil => rfl
  | cons v l ih =>
    show forEach l reportColdValve (reportColdValve v s) = _
    by_cases hv : pins.closed[v] = pins.opened[v]
    · have hreport : reportColdValve v s =
          raise .valveFault (some v.val) (some 3) (some (if pins.closed[v] then 3 else 0)) s := by
        rw [reportColdValve, h, if_pos ((coldValve_fault_iff ..).mpr hv), coldValve_contacts hv]
      have hfaults : coldFaults pins (v :: l) =
          (.valveFault, some v.val, some 3, some (if pins.closed[v] then 3 else 0)) :: coldFaults pins l := by
        simp only [coldFaults, List.filter_cons, hv, decide_true, if_true, List.map_cons]
      rw [hreport, hfaults, raiseAll_cons]
      exact ih fun u => by rw [raise_resp]; exact h u
    · have hreport : reportColdValve v s = s := by
        rw [reportColdValve, h, if_neg (mt (coldValve_fault_iff ..).mp hv)]
      have hfaults : coldFaults pins (v :: l) = coldFaults pins l := by
        simp only [coldFaults, List.filter_cons, hv, decide_false, Bool.false_eq_true, if_false]
      rw [hreport, hfaults]
      exact ih h

theorem reportLoad_eq {x : Store} (h : s.cfgFrom = x.load.2) : reportLoad s = raiseAll (loadReports x) s := by
  cases x <;> simp only [reportLoad, h, Store.load] <;> rfl

theorem coldFaults_length_le (l : List ValveIx) : (coldFaults pins l).length ≤ l.length := by
  rw [coldFaults, List.length_map]
  exact List.length_filter_le ..

theorem mem_coldFaults {v : ValveIx} (h : pins.closed[v] = pins.opened[v]) :
    ∃ x ∈ coldFaults pins allValves, x.1.group = .valve :=
  ⟨_, List.mem_map_of_mem (List.mem_filter.mpr ⟨List.mem_finRange v, decide_eq_true h⟩), rfl⟩

end

/-! ### The state when the configuration has been loaded (R195) -/

/-- The records at the end of the load, before its reports: every block with its cold-start values, the first round
begun and the silence timer started (R77, R127, R195). -/
def loaded (pins : PinSample) (s : State) : State :=
  let w := s.store.load.1
  { coldBlocks pins s with
    shelf := { Shelf.cold with
      inRound := true, roundTimer := some ⟨s.now, w.ride.round⟩, poll := some ⟨0, ⟨s.now, 20⟩, .rect true none⟩ }
    source := { Source.cold with
      policy := w.charge.policy
      silence := if w.charge.window = 0 then none else some ⟨s.now, w.charge.window * 1000⟩ } }

/-- The reports of a load: the valves in FAULT, then CONFIG DEFAULTED (log 36). -/
def reportsOfLoad (pins : PinSample) (x : Store) : List ReportArgs := coldFaults pins allValves ++ loadReports x

section
variable (pins : PinSample) (s : State)

theorem loaded_valve (v : ValveIx) : (loaded pins s).resp.valve[v] = coldValve pins.closed[v] pins.opened[v] :=
  Vector.getElem_ofFn ..

/-- A load is the start of every block with the reports that follow, and the first evaluation is due (R51). -/
theorem completeLoad_eq :
    completeLoad pins s = markEval (raiseAll (reportsOfLoad pins s.store) (loaded pins s)) := by
  have hfaults := forEach_reportColdValve allValves (loaded_valve pins s)
  have hfrom : (raiseAll (coldFaults pins allValves) (loaded pins s)).cfgFrom = s.store.load.2 := by
    rw [raiseAll_spec]
    rfl
  rw [reportsOfLoad, raiseAll_append, ← reportLoad_eq hfrom, ← hfaults]
  rfl

/-- The reports of the load reach the ports alone: the tallies are stopped (R189). -/
theorem completeLoad_spec : completeLoad pins s = markEval { loaded pins s with
    link := (raiseAll (reportsOfLoad pins s.store) (loaded pins s)).link, tally := .cold } := by
  rw [completeLoad_eq, raiseAll_spec, raiseAll_tally_cold _ rfl]

/-- Where no image is stored, CONFIG DEFAULTED stands in the manager port's queue (R176, R186). -/
theorem configDefaulted_mem_queue (h : ∀ image, s.store ≠ .valid image) :
    ⟨.configDefaulted, s.now, none, some 0, none⟩ ∈ (completeLoad pins s).link.manager.queue := by
  let t := raiseAll (coldFaults pins allValves) (loaded pins s)
  obtain ⟨hload, hreports⟩ := load_without_image h
  have ht : t = { loaded pins s with link := t.link, tally := t.tally } := raiseAll_spec ..
  have hnow : t.now = s.now := by rw [ht]; rfl
  have hcfg : t.cfg = defaultCfg := by rw [ht]; exact congrArg Prod.fst hload
  have hroom : (t.port .manager).queue.length < 32 := calc
    (t.port .manager).queue.length ≤ 0 + (coldFaults pins allValves).length := raiseAll_queue_length_le _ .manager _
    _ ≤ 0 + 4 := Nat.add_le_add_left (coldFaults_length_le allValves) 0
    _ < 32 := by decide
  have hroute : routeNames (t.cfg.routes.of .system) .manager = true := by rw [hcfg]; rfl
  have hmem := mem_queue_raise (k := .configDefaulted) none (some 0) none hroute rfl hroom
  rw [completeLoad_eq, reportsOfLoad, hreports, raiseAll_append, ← hnow]
  exact hmem

end

/-- Settles O4: the records by the start of every block, and the reports by those of the load. -/
theorem loadCompletionStartsEveryBlock : Obligations.LoadCompletionStartsEveryBlock := by
  intro pins s hp
  have hu := completeLoad_spec pins s
  have hexec : Acts (.loadCompletion pins) s (completeLoad pins s) := congrArg Host.Outcome.next (if_pos hp)
  have hdefaulted := configDefaulted_mem_queue pins s
  have hflag : ∀ v : ValveIx, pins.closed[v] = pins.opened[v] → (completeLoad pins s).link.flags.valve = true :=
    fun v hv => by
      obtain ⟨x, hx, hg⟩ := mem_coldFaults hv
      rw [completeLoad_eq]
      exact raiseAll_flag (g := .valve) (.inr ⟨x, List.mem_append_left _ hx, hg⟩)
  generalize completeLoad pins s = u at hu hexec hdefaulted hflag
  subst hu
  have hvalve := loaded_valve pins s
  refine ⟨_, hexec, rfl, rfl, rfl, rfl, fun image h => ?_, fun h => ?_, fun c => Vector.getElem_ofFn .., rfl, rfl, rfl,
    rfl, fun z => Vector.getElem_ofFn .., rfl, fun v => (hvalve v).trans (coldValve_eq ..), fun v hv => ⟨?_, hflag v hv⟩,
    rfl, rfl, rfl, raiseAll_link_congr _ rfl rfl rfl, rfl, rfl, rfl⟩
  · have hload : s.store.load = (image, .store) := by rw [h]; rfl
    exact ⟨congrArg Prod.fst hload, congrArg Prod.snd hload⟩
  · obtain ⟨hload, -⟩ := load_without_image h
    exact ⟨congrArg Prod.fst hload, congrArg Prod.snd hload, hdefaulted h⟩
  · have hfault : (loaded pins s).resp.valve[v].state = .fault := by
      rw [hvalve]
      exact (coldValve_fault_iff ..).mpr hv
    have hdrive : closeDrive (loaded pins s) v = true := by
      simp only [closeDrive, hfault, show (loaded pins s).power = .running from rfl]
      rfl
    exact hdrive

end Sys2Proof.Machine
end

section
/-! The configuration store and the factory defaults: CONFIG SAVE, the completion of a save, and CONFIG DEFAULTS (R186
to R188). -/

namespace Sys2Proof.Machine

/-! ### CONFIG SAVE and save completion (R187) -/

section
variable {s : State} {copy : WorkCfg} {at' : Stamp}

theorem doConfigSave_busy (h : s.store = .writing copy at') : doConfigSave s = (s, errReply .busy) := by
  simp only [doConfigSave, h, refuse]

theorem doConfigSave_begins (h : ∀ copy at', s.store ≠ .writing copy at') :
    doConfigSave s = (s.setStore (.writing s.cfg s.now), okReply) := by
  cases hs : s.store with
  | writing copy at' => exact absurd hs (h copy at')
  | invalid | valid image => simp only [doConfigSave, hs]

theorem completeSave_idle (h : ∀ copy at', s.store ≠ .writing copy at') : completeSave s = s := by
  cases hs : s.store with
  | writing copy at' => exact absurd hs (h copy at')
  | invalid | valid image => simp only [completeSave, hs]

theorem completeSave_writing (h : s.store = .writing copy at') : completeSave s =
    raise .saveDone none (some (msBetween at' s.now)) none { s with store := .valid copy } := by
  simp only [completeSave, h]
  rfl

end

/-! ### The tests of CONFIG DEFAULTS (R188) -/

section
variable {s : State}

theorem anyChannelInUse_iff (s : State) :
    anyChannelInUse s = true ↔ ∃ c, (s.ch c).state ≠ .off ∧ (s.ch c).state ≠ .faulted := by
  simp only [anyChannelInUse, allCh, List.any_eq_true, List.mem_finRange, true_and]
  refine exists_congr fun c => ?_
  cases (s.ch c).state <;> decide

theorem anyTreatedFault_iff (s : State) : anyTreatedFault s = true ↔
    ∃ z : Zone, s.zones[z].state = .cableFault ∧ s.cfg.zone[z].cpol = .treatWet := by
  simp only [anyTreatedFault, allZones, List.any_eq_true, List.mem_finRange, true_and, Bool.and_eq_true, beq_iff_eq]

/-- A channel is in use, a run is active, or a cable fault is treated as wet (R188). -/
def DefaultsBlocked (s : State) : Prop :=
  (∃ c, (s.ch c).state ≠ .off ∧ (s.ch c).state ≠ .faulted) ∨ runActive s = true ∨
    ∃ z : Zone, s.zones[z].state = .cableFault ∧ s.cfg.zone[z].cpol = .treatWet

theorem doConfigDefaults_blocked (h : DefaultsBlocked s) : doConfigDefaults s = (s, errReply .state) := by
  rw [DefaultsBlocked, ← anyChannelInUse_iff, ← anyTreatedFault_iff] at h
  rw [doConfigDefaults]
  split
  · rfl
  · next huse =>
    split
    · rfl
    · next hrun => exact if_pos ((h.resolve_left huse).resolve_left hrun)

theorem doConfigDefaults_loads (h : ¬ DefaultsBlocked s) : doConfigDefaults s = (loadDefaults s, okReply) := by
  rw [DefaultsBlocked, ← anyChannelInUse_iff, ← anyTreatedFault_iff, not_or, not_or] at h
  obtain ⟨huse, hrun, hfault⟩ := h
  rw [doConfigDefaults, if_neg huse, if_neg hrun, if_neg hfault]

theorem found_defaultsBlocked (l : LineId) (i : Instr) (s : State) :
    DefaultsBlocked (found l i s) ↔ DefaultsBlocked s := by
  simp only [DefaultsBlocked, found_ch, found_runActive, found_zones, found_cfg]

end

/-! ### The factory defaults take effect (R188) -/

theorem ZoneRec.switched_on (r : ZoneRec) : r.switched (some true) =
    if r.state = .off then { r with state := .watch, history := [], cable := 0, cls := none } else r := by
  cases h : r.state <;> simp [ZoneRec.switched, h]

/-- Each zone that is named is enabled, and nothing else changes (R143). -/
theorem forEach_enableZone {l : List Zone} (hl : l.Nodup) (s : State) : ∃ v,
    forEach l enableZone s = { s with zones := v } ∧
      ∀ z : Zone, v[z] = if z ∈ l then s.zones[z].switched (some true) else s.zones[z] := by
  induction l generalizing s with
  | nil => exact ⟨s.zones, rfl, fun z => rfl⟩
  | cons y l ih =>
    obtain ⟨hy, hl⟩ := List.nodup_cons.mp hl
    obtain ⟨v, hv, hrec⟩ := ih hl (enableZone y s)
    refine ⟨v, ?_, fun z => ?_⟩
    · show forEach l enableZone (enableZone y s) = _
      rw [hv, enableZone_eq]
      rfl
    · rw [hrec, enableZone_eq]
      by_cases hz : z = y
      · subst hz
        rw [if_neg hy, if_pos List.mem_cons_self, State.modZone_zone_same]
      · rw [State.modZone_zone_other _ _ hz]
        simp only [List.mem_cons, hz, false_or]

/-- The source record when the factory defaults have taken effect: no silence, a window of 0, restore by the host (R127,
R128). -/
def sourceDefaulted (x : Source) : Source := { x with stage := 0, silence := none, policy := .host }

/-- The state in which the factory defaults stand, with the zones that they enable, and what is then due (R188). -/
def defaultsTaken (zones : Vector ZoneRec 16) (restore : Bool) (s : State) : State :=
  { s with
    cfg := defaultCfg, cfgFrom := .defaults, zones := zones, source := sourceDefaulted s.source
    work := { s.work with eval := true, ride := s.work.ride || decide (s.source.state = .ride), restore := restore } }

/-- CONFIG DEFAULTED joins ahead of the reports of the evaluations that the defaults start (log 36). -/
theorem loadDefaults_spec (s : State) : ∃ v b,
    loadDefaults s = raise .configDefaulted none (some 1) none (defaultsTaken v b s) ∧
      ∀ z : Zone, v[z] = s.zones[z].switched (some true) := by
  let w : State := { (s.modCfg fun _ => defaultCfg) with cfgFrom := .defaults }
  obtain ⟨v, hv, hzones⟩ := forEach_enableZone (List.nodup_finRange 16) w
  obtain ⟨p, b, hend⟩ := endSilence_spec { w with zones := v }
  obtain ⟨b', hset⟩ := setPolicy_spec defaultCfg.charge.policy (endSilence { w with zones := v })
  have hpolicy : setPolicy defaultCfg.charge.policy (endSilence (forEach allZones enableZone w)) =
      { w with zones := v, source := sourceDefaulted s.source, work := { s.work with restore := b' } } := by
    show setPolicy _ (endSilence (forEach (List.finRange 16) enableZone w)) = _
    rw [hv, hset, hend]
    rfl
  refine ⟨v, b', ?_, fun z => (hzones z).trans (if_pos (List.mem_finRange z))⟩
  simp only [loadDefaults]
  rw [hpolicy, defaultsTaken]
  by_cases h : s.source.state = .ride
  · rw [decide_eq_true h, Bool.or_true]
    exact congrArg (raise .configDefaulted none (some 1) none) (congrArg markEval (if_pos h))
  · rw [decide_eq_false h, Bool.or_false]
    exact congrArg (raise .configDefaulted none (some 1) none) (congrArg markEval (if_neg h))

/-- Settles O51: CONFIG SAVE and the completion by the store, CONFIG DEFAULTS by its tests. -/
theorem saveAndDefaults : Obligations.SaveAndDefaults := by
  refine ⟨fun l s h => ⟨fun copy at' hs => ?_, fun hs => ?_⟩, fun s hp => ⟨fun hs => ?_, fun copy at' hs => ?_⟩,
    fun l s h => ⟨fun hb => ?_, fun hb => ?_⟩⟩
  · exact .of_runCommand rfl h (doConfigSave_busy ((found_sameRest ..).store.trans hs))
  · have hrun := doConfigSave_begins (s := found l (.configSave l) s) (by rwa [(found_sameRest ..).store])
    rw [found_cfg, found_now] at hrun
    exact .of_runCommand rfl h hrun
  · exact .of_event_eq rfl hp (completeSave_idle hs)
  · refine ⟨_, .of_event_eq rfl hp (completeSave_writing hs), raise_store .., raise_congr _ _ _ _ rfl rfl rfl rfl, ?_⟩
    rw [raise_store]
    exact raise_spec ..
  · exact .of_runCommand rfl h (doConfigDefaults_blocked ((found_defaultsBlocked ..).mpr hb))
  · let f := found l (.configDefaults l) s
    obtain ⟨v, b, hload, hzones⟩ := loadDefaults_spec f
    have hrun := doConfigDefaults_loads (mt (found_defaultsBlocked l (.configDefaults l) s).mp hb)
    have hkept : SameRest (defaultsTaken v b f) (loadDefaults f) := hload ▸ raise_sameRest ..
    have hsource : sourceDefaulted f.source = sourceDefaulted s.source := by rw [found_source]; rfl
    refine ⟨loadDefaults f, .of_runCommand rfl h hrun, hkept.cfg, hkept.cfgFrom,
      hkept.store.trans (found_sameRest ..).store, ?_, ?_, fun hr => ?_, ?_, fun z => ?_, ?_, ?_, ?_, ?_, ?_,
      hkept.now.trans (found_now ..)⟩
    · rw [hload, raise_chans]
      exact found_chans ..
    · rw [hload, raise_work]
      rfl
    · rw [hload, raise_work]
      show (f.work.ride || decide (f.source.state = .ride)) = true
      rw [decide_eq_true ((found_source_state ..).trans hr), Bool.or_true]
    · rw [hload, raise_source]
      exact hsource
    · rw [hkept.zones]
      exact (hzones z).trans (by rw [found_zones, ZoneRec.switched_on])
    · rw [hload]
      exact raise_congr _ _ _ _ rfl rfl rfl rfl
    · rw [hload, raise_resp]
      rfl
    · rw [hload, raise_budget]
      exact found_budget ..
    · rw [hload, raise_run]
      exact found_run ..
    · rw [hload, raise_shelf]
      exact found_shelf ..

end Sys2Proof.Machine
end

section
/-! The tally counters: the commands that set, start, stop and clear them (R191), and how they count an event (R189,
R190). -/

namespace Sys2Proof.Machine

/-! ### TALLY SET (R191) -/

section
variable {a : TallyArgs} {s : State} {c : CtrIx}

theorem doTallySet_malformed (h : a = { ctr := a.ctr } ∨ (a.ctr = none ∧ (a.ev.isSome ∨ a.lim.isSome))) :
    doTallySet a s = (s, errReply .syntaxError) := by
  refine if_pos ?_
  rcases h with h | ⟨hc, h⟩
  · rw [h]; rfl
  · rcases h with h | h <;> simp [tallySetMalformed, hc, h]

theorem optIndex?_some {n : Nat} (x : Option (Fin n)) : optIndex? n (x.map fun i => (i.val : Int)) = some x := by
  cases x with
  | none => rfl
  | some i => simp only [optIndex?, Option.map_some, index?_val]

/-- The codes of the events are those of Table 10-2. -/
theorem tallyEvent_code (n : Fin 10) : (tallyEvent n).code = n.val := by revert n; decide

/-- A counter that its command may not reach: counter 1 in pair mode (R191). -/
def UpperHalf (t : Tally) (c : CtrIx) : Prop := t.pair = true ∧ c = 1

theorem not_upperHalf {t : Tally} (h : t.pair = false ∨ c ≠ 1) : ¬ UpperHalf t c := by
  rintro ⟨hp, rfl⟩
  simp [hp] at h

section
variable {e : Option (Fin 10)} {m : Option AtLimit}

/-- The arguments of TALLY SET on a counter in their good form (R191). -/
def counterArgs (c : CtrIx) (e : Option (Fin 10)) (m : Option AtLimit) : TallyArgs :=
  { ctr := some (c.val : Int), ev := e.map fun n => (n.val : Int), lim := m }

/-- TALLY SET on a counter is refused while the counter runs or is the upper half of the pair (R191). -/
theorem tallySetBlocked_counter (h : e.isSome ∨ m.isSome) (t : Tally) (c : CtrIx) :
    tallySetBlocked t (some c) (counterArgs c e m) = true ↔ t.ctr[c].running = true ∨ UpperHalf t c := by
  have hargs : (e.isSome || m.isSome) = true := by simpa using h
  simp [tallySetBlocked, counterArgs, hargs, UpperHalf]

theorem doTallySet_counter (h : e.isSome ∨ m.isSome) (c : CtrIx) (s : State) : doTallySet (counterArgs c e m) s =
    if tallySetBlocked s.tally (some c) (counterArgs c e m) then (s, errReply .state)
    else
      let t := { s.tally with ctr := s.tally.ctr.set c (writeCounter (e.map tallyEvent) m s.tally.ctr[c]) }
      ({ s with tally := t }, okWith (tallySetFields t (some c))) := by
  have hform : tallySetMalformed (counterArgs c e m) = false := by
    rcases h with h | h <;> simp [tallySetMalformed, counterArgs, ← Option.not_isSome, h]
  have hctr : optIndex? 4 (counterArgs c e m).ctr = some (some c) := optIndex?_some (some c)
  have hev : optIndex? 10 (counterArgs c e m).ev = some e := optIndex?_some e
  simp only [doTallySet, hform, hctr, hev, Bool.false_eq_true, if_false]
  rfl

/-- What TALLY SET names of a counter is written, and the rest of it stays (R191). -/
theorem writeCounter_eq (e : Option (Fin 10)) (m : Option AtLimit) (x : Counter) :
    writeCounter (e.map tallyEvent) m x = { x with
      event := if e.isSome then (writeCounter (e.map tallyEvent) m x).event else x.event
      limit := m.getD x.limit } := by
  cases e <;> rfl

end

theorem event_mem_tallySetFields (t : Tally) (c : CtrIx) :
    fNum "ev" t.ctr[c].event.code ∈ tallySetFields t (some c) := by
  simp [tallySetFields, counterFields, fNum]

/-- TALLY SET on the pair mode in its good form. -/
theorem doTallySet_pair (b : Bool) (s : State) : doTallySet { pair := some b } s =
    if s.tally.ctr[0].running = true ∨ s.tally.ctr[1].running = true then (s, errReply .state)
    else ({ s with tally := writePair (some b) s.tally }, okWith [fOn "pair" b]) := by
  have hpair : (writePair (some b) s.tally).pair = b := by
    simp only [writePair]
    split
    · next h => exact h.symm
    · rfl
  have hblocked : tallySetBlocked s.tally none { pair := some b } = true ↔
      s.tally.ctr[0].running = true ∨ s.tally.ctr[1].running = true := by
    simp [tallySetBlocked]
  have hrun : doTallySet { pair := some b } s =
      if tallySetBlocked s.tally none { pair := some b } then (s, errReply .state)
      else ({ s with tally := writePair (some b) s.tally },
        okWith [fOn "pair" (writePair (some b) s.tally).pair]) := rfl
  simp only [hrun, hblocked, hpair]

end

/-! ### TALLY START, TALLY STOP and TALLY CLEAR (R191) -/

section
variable {s : State} {c : CtrIx} {f : CtrIx → Tally → Tally}

theorem onCounter_upper (h : UpperHalf s.tally c) : onCounter (some (c.val : Int)) s f = (s, errReply .state) := by
  rw [onCounter, withIndex_val]
  exact if_pos h

theorem onCounter_acts (h : ¬ UpperHalf s.tally c) :
    onCounter (some (c.val : Int)) s f = ({ s with tally := f c s.tally }, okReply) := by
  rw [onCounter, withIndex_val]
  exact if_neg h

/-- A command on a counter that it may reach changes the tallies alone (R191). -/
theorem Takes.of_onCounter {l : LineId} {i : Instr} (hi : exec i s = .next (receive l.port l.tag (.cmd i) s))
    (h : CanTake l i s) (hrun : runCommand i (found l i s) = onCounter (some (c.val : Int)) (found l i s) f)
    (hu : ¬ UpperHalf s.tally c) : Takes l i s { found l i s with tally := f c s.tally } okReply := by
  refine .of_runCommand hi h (hrun.trans ?_)
  rw [onCounter_acts (by rwa [found_tally]), found_tally]

/-- A counter runs or stops (R191). -/
def setRunning (b : Bool) (c : CtrIx) (t : Tally) : Tally :=
  { t with ctr := t.ctr.set c { t.ctr[c] with running := b } }

theorem runCommand_tallyStart (l : LineId) (x : Option Int) (s : State) :
    runCommand (.tallyStart l x) s = onCounter x s (setRunning true) := rfl

theorem runCommand_tallyStop (l : LineId) (x : Option Int) (s : State) :
    runCommand (.tallyStop l x) s = onCounter x s (setRunning false) := rfl

theorem runCommand_tallyClear (l : LineId) (x : Option Int) (s : State) :
    runCommand (.tallyClear l x) s = onCounter x s clearTally := rfl

theorem clearTally_single {t : Tally} (h : ¬ (t.pair = true ∧ c = 0)) :
    clearTally c t = { t with ctr := t.ctr.set c { t.ctr[c] with value := 0, overflow := false } } := if_neg h

/-- Clearing the pair clears both halves and the mark of the lower one (R191). -/
theorem clearTally_pair {t : Tally} (h : t.pair = true) : clearTally 0 t = { t with
    ctr := (t.ctr.set 0 { t.ctr[0] with value := 0, overflow := false }).set 1 { t.ctr[1] with value := 0 } } := by
  refine (if_pos ⟨h, rfl⟩).trans ?_
  simp [clearCounter]

end

/-! ### An event is counted (R189, R190) -/

section
variable {e : TallyEvent} {t : Tally}

section
variable {limit n : Nat} (m : AtLimit) (o : Bool)

theorem countUp_below (h : n < limit) : countUp limit m n o = (n + 1, o || decide (n + 1 = limit)) := by
  refine (if_pos h).trans ?_
  rw [beq_eq_decide]

theorem countUp_at (h : limit ≤ n) : countUp limit m n o = (match m with | .hold => n | .wrap => 0, o) := by
  refine (if_neg (not_lt.mpr h)).trans ?_
  cases m <;> rfl

/-- The overflow mark is set where the count reaches the limit, and only there. -/
theorem countUp_eq (limit n : Nat) (m : AtLimit) (o : Bool) : countUp limit m n o =
    (if n < limit then n + 1 else match m with | .hold => n | .wrap => 0, o || decide (n + 1 = limit)) := by
  rcases Nat.lt_or_ge n limit with h | h
  · rw [countUp_below m o h, if_pos h]
  · rw [countUp_at m o h, if_neg (not_lt.mpr h), decide_eq_false (by omega), Bool.or_false]

end

theorem Counter.take_eq (e : TallyEvent) (x : Counter) : x.take e =
    if x.running = true ∧ x.event = e then
      if x.value < 4294967295 then
        { x with value := x.value + 1, overflow := x.overflow || decide (x.value + 1 = 4294967295) }
      else { x with value := match x.limit with | .hold => x.value | .wrap => 0 }
    else x := by
  simp only [Counter.take, Bool.and_eq_true, beq_iff_eq, Config.tallyMax]
  split
  · split
    · next h => rw [countUp_below _ _ h]
    · next h => rw [countUp_at _ _ (not_lt.mp h)]
  · rfl

/-- Counters 0 and 1 take the event singly, or as the pair (R190). -/
def Tally.takeLower (e : TallyEvent) (t : Tally) : Tally :=
  if t.pair then t.takePair e
  else { t with ctr := (t.ctr.set 0 (t.ctr[0].take e)).set 1 (t.ctr[1].take e) }

theorem Tally.take_eq (e : TallyEvent) (t : Tally) : t.take e =
    { t.takeLower e with ctr :=
      ((t.takeLower e).ctr.set 2 ((t.takeLower e).ctr[2].take e)).set 3 ((t.takeLower e).ctr[3].take e) } := rfl

theorem Tally.take_lower (e : TallyEvent) (t : Tally) {c : CtrIx} (hc : c.val < 2) :
    (t.take e).ctr[c] = (t.takeLower e).ctr[c] := by
  have h2 : 2 ≠ c.val := by omega
  have h3 : 3 ≠ c.val := by omega
  simp [take_eq, Vector.getElem_set_ne, h2, h3]

/-- The pair is counters 0 and 1 (R189). -/
theorem Tally.takeLower_upper (e : TallyEvent) (t : Tally) {c : CtrIx} (hc : 2 ≤ c.val) :
    (t.takeLower e).ctr[c] = t.ctr[c] := by
  have h0 : 0 ≠ c.val := by omega
  have h1 : 1 ≠ c.val := by omega
  simp only [takeLower, takePair]
  repeat' split
  all_goals simp [Vector.getElem_set_ne, h0, h1]

theorem eq_zero_or_one_of_lower {c : CtrIx} (h : c.val < 2) : c = 0 ∨ c = 1 := by revert c; decide

theorem eq_two_or_three_of_upper {c : CtrIx} (h : 2 ≤ c.val) : c = 2 ∨ c = 3 := by revert c; decide

theorem Tally.take_upper (e : TallyEvent) (t : Tally) {c : CtrIx} (hc : 2 ≤ c.val) :
    (t.take e).ctr[c] = t.ctr[c].take e := by
  have h2 := takeLower_upper e t (c := 2) (by decide)
  have h3 := takeLower_upper e t (c := 3) (by decide)
  obtain rfl | rfl := eq_two_or_three_of_upper hc
  · simpa [take_eq] using congrArg (Counter.take e) h2
  · simpa [take_eq] using congrArg (Counter.take e) h3

theorem Tally.take_single (e : TallyEvent) {t : Tally} (h : t.pair = false) (c : CtrIx) :
    (t.take e).ctr[c] = t.ctr[c].take e := by
  rcases Nat.lt_or_ge c.val 2 with hc | hc
  · rw [take_lower e t hc, takeLower, h]
    obtain rfl | rfl := eq_zero_or_one_of_lower hc
    · simp
    · simp
  · exact take_upper e t hc

theorem Tally.takePair_counts (h : t.ctr[0].running = true ∧ t.ctr[0].event = e) :
    let r := countUp Config.tallyPairMax t.ctr[0].limit t.paired t.ctr[0].overflow
    (t.takePair e).ctr[0] = { t.ctr[0] with value := r.1 % 4294967296, overflow := r.2 } ∧
      (t.takePair e).ctr[1] = { t.ctr[1] with value := r.1 / 4294967296 } := by
  have hcounts : (t.ctr[0].running && t.ctr[0].event == e) = true := by simpa using h
  simp [takePair, hcounts]

theorem Tally.takePair_idle (h : ¬ (t.ctr[0].running = true ∧ t.ctr[0].event = e)) : t.takePair e = t :=
  if_neg (by simpa using h)

/-- The pair counts at counter 0's fields up to the limit of 64 bits (R190). -/
theorem Tally.take_pair (e : TallyEvent) {t : Tally} (h : t.pair = true) (h0 : t.ctr[0].value < 4294967296) :
    let n := t.ctr[1].value * 4294967296 + t.ctr[0].value
    let x := t.ctr[0]
    let n' := if x.running = true ∧ x.event = e then
        if n < 18446744073709551615 then n + 1 else match x.limit with | .hold => n | .wrap => 0
      else n
    (t.take e).ctr[0] = { x with
      value := n' % 4294967296
      overflow := x.overflow || (x.running && decide (x.event = e) && decide (n + 1 = 18446744073709551615)) } ∧
    (t.take e).ctr[1] = { t.ctr[1] with value := n' / 4294967296 } := by
  intro n x n'
  have hlower : t.takeLower e = t.takePair e := if_pos h
  have htake0 : (t.take e).ctr[0] = (t.takePair e).ctr[0] := hlower ▸ take_lower e t (c := 0) (by decide)
  have htake1 : (t.take e).ctr[1] = (t.takePair e).ctr[1] := hlower ▸ take_lower e t (c := 1) (by decide)
  rw [htake0, htake1]
  by_cases he : x.running = true ∧ x.event = e
  · have hcount : countUp Config.tallyPairMax x.limit t.paired x.overflow =
        (n', x.overflow || (x.running && decide (x.event = e) && decide (n + 1 = 18446744073709551615))) := by
      rw [countUp_eq]
      simp only [n', if_pos he, he.1, decide_eq_true he.2, Bool.true_and]
      rfl
    obtain ⟨hpair0, hpair1⟩ := takePair_counts he
    rw [hpair0, hpair1, hcount]
    exact ⟨rfl, rfl⟩
  · have hkeep : (x.running && decide (x.event = e)) = false := by simpa using he
    have hn : n' = t.ctr[1].value * 4294967296 + t.ctr[0].value := if_neg he
    have hn0 : n' % 4294967296 = x.value := by rw [hn]; exact Nat.mul_add_mod_of_lt h0
    have hn1 : n' / 4294967296 = t.ctr[1].value := by rw [hn]; omega
    rw [takePair_idle he, hn0, hn1, hkeep, Bool.false_and, Bool.or_false]
    exact ⟨rfl, rfl⟩

end

/-- Settles O52: TALLY SET by its form, the commands on one counter by the pair mode, the counting singly and paired. -/
theorem tallyCommandsAndCounting : Obligations.TallyCommandsAndCounting := by
  refine ⟨fun l a s h => ⟨fun hm => .of_runCommand rfl h (doTallySet_malformed hm), fun c e m hne ha => ⟨fun hb => ?_,
    fun hr hu => ?_⟩, fun b ha => ⟨fun hb => ?_, fun h0 h1 => ?_⟩⟩, fun l c s => ⟨fun hp hc i hi h => ?_,
    fun hu => ⟨fun h => ?_, fun h => ?_⟩, fun hu h => ?_, fun hp hc h => ?_⟩, fun e t => ⟨fun c hc => ?_,
    fun hp h0 _ => Tally.take_pair e hp h0⟩⟩
  · obtain rfl : a = counterArgs c e m := ha
    refine .of_runCommand rfl h ((doTallySet_counter hne c _).trans (if_pos ?_))
    rw [found_tally]
    exact (tallySetBlocked_counter hne ..).mpr hb
  · obtain rfl : a = counterArgs c e m := ha
    have hfree : ¬ tallySetBlocked s.tally (some c) (counterArgs c e m) = true :=
      mt (tallySetBlocked_counter hne ..).mp (not_or.mpr ⟨Bool.eq_false_iff.mp hr, hu⟩)
    have hrun := doTallySet_counter hne c (found l (.tallySet l (counterArgs c e m)) s)
    rw [found_tally, if_neg hfree] at hrun
    refine ⟨_, _, .of_runCommand rfl h hrun, rfl, event_mem_tallySetFields .., ?_, ?_⟩
    · rintro n rfl
      simp [writeCounter, tallyEvent_code]
    · simp [← writeCounter_eq]
  · subst ha
    refine .of_runCommand rfl h ((doTallySet_pair b _).trans (if_pos ?_))
    rwa [found_tally]
  · subst ha
    have hrun := doTallySet_pair b (found l (.tallySet l { pair := some b }) s)
    rw [found_tally, if_neg (by simp [h0, h1])] at hrun
    exact .of_runCommand rfl h hrun
  · have hupper : UpperHalf (found l i s).tally c := ⟨(congrArg Tally.pair (found_tally ..)).trans hp, hc⟩
    simp only [List.mem_cons, List.not_mem_nil, or_false] at hi
    rcases hi with rfl | rfl | rfl <;> exact .of_runCommand rfl h (onCounter_upper hupper)
  · exact .of_onCounter (f := setRunning true) rfl h (runCommand_tallyStart ..) (not_upperHalf hu)
  · exact .of_onCounter (f := setRunning false) rfl h (runCommand_tallyStop ..) (not_upperHalf hu)
  · have hupper : ¬ UpperHalf s.tally c := not_upperHalf (hu.imp_right fun hc h1 => by simp [h1] at hc)
    have htake := Takes.of_onCounter rfl h (runCommand_tallyClear ..) hupper
    rwa [clearTally_single] at htake
    rintro ⟨hp, rfl⟩
    simp [hp] at hu
  · subst hc
    have htake := Takes.of_onCounter rfl h (runCommand_tallyClear ..) (not_upperHalf (.inr (by decide)))
    rwa [clearTally_pair hp] at htake
  · have htake : (t.take e).ctr[c] = t.ctr[c].take e :=
      hc.elim (fun hp => Tally.take_single e hp c) (Tally.take_upper e t)
    exact htake.trans (Counter.take_eq ..)

end Sys2Proof.Machine
end

section
/-! A step with a command at the front of the queue (log 1, log 3). -/

namespace Sys2Proof.Machine

/-- A step takes the command at the front of the queue and runs it on the state with the rest. -/
theorem step_of_pending_cons {s : State} {c : Instr} {rest : List Instr} (h : s.pending = c :: rest) :
    step s = exec c { s with pending := rest } := by
  simp only [step, h]

/-- Settles O1: by the step's branch for a queue with a command at its front. -/
theorem stepRunsTheFrontCommand : Obligations.StepRunsTheFrontCommand :=
  fun _ _ _ => step_of_pending_cons rfl

end Sys2Proof.Machine
end
